-- ==== Sys2Proof/Word.lean ====
section
/-! DEFINITION. Words of the widths the manual uses, and the closed sets of names that the
operands and the state share (lanes, dies, channels, ports). -/

namespace Sys2Proof

abbrev Byte := BitVec 8
abbrev W16 := BitVec 16
abbrev W32 := BitVec 32
abbrev W48 := BitVec 48
abbrev W64 := BitVec 64
/-- A SHA3-256 value or a 256-bit nonce. -/
abbrev Hash := BitVec 256
/-- One bit per local channel; bit n - 1 is IOn (R188, R337). -/
abbrev Chans := BitVec 96
/-- One bit per group; bit g - 1 is Gg. -/
abbrev Groups := BitVec 12
/-- One bit per Stop Bath source position (R369). -/
abbrev Sources := BitVec 512
/-- A node address (R2). -/
abbrev Node := BitVec 20
/-- An instant in nanoseconds. -/
abbrev Time := Nat
/-- A reading of a lane timebase in ticks of 100 ns (R188). -/
abbrev Ticks := Nat

/-- The three lanes (R13). -/
inductive Lane where
  | a | b | c
  deriving DecidableEq, Repr

/-- The three cross-lane channels (R14, R26). -/
inductive Chan where
  | ab | bc | ca
  deriving DecidableEq, Repr

/-- The two network dies (R13). -/
inductive Die where
  | n1 | n2
  deriving DecidableEq, Repr

/-- The external data ports: F01 to F48, H1 to H4, M1 and M2, S (R13, R503). -/
inductive Port where
  | f (i : Fin 48)
  | h (i : Fin 4)
  | m (i : Fin 2)
  | s
  deriving DecidableEq, Repr

/-- The two logic feeds (R485). -/
inductive Feed where
  | a | b
  deriving DecidableEq, Repr

/-- The three lanes in ascending order. -/
def Lane.all : List Lane := [.a, .b, .c]

/-- Bit index of a lane in a lane mask (R191, R273, R390). -/
def Lane.idx : Lane → Nat
  | .a => 0
  | .b => 1
  | .c => 2

/-- Lane of a bit index (R270). -/
def Lane.ofIdx : Nat → Option Lane
  | 0 => some .a
  | 1 => some .b
  | 2 => some .c
  | _ => none

/-- SENDER and LANE code: 0b01 A, 0b10 B, 0b11 C (R187, R201). -/
def Lane.code (l : Lane) : Nat := l.idx + 1

end Sys2Proof
end

