-- ==== Sys2Proof/Machine/Image.lean ====
section
/-! DEFINITION. The Folquel image as the module holds it at run time: object declarations (R81),
routes and their rows (R116 to R123), equations (R150), timers, edge detectors, symbols, expected
partners (R299) and the channel table (R320). -/

namespace Sys2Proof.Machine

/-- Object types; the codes of TYPE are in `ObjType.code` (R82). -/
inductive ObjType where
  | point | signal | stretch | route | overlap | flank | crossing | block | zone | generic
  deriving DecidableEq, Repr

/-- An end position of a point. -/
inductive Pos where
  | normal | reverse
  deriving DecidableEq, Repr

/-- Roles of local channels (R115). Lamp groups, indications and fields are numbered. -/
inductive Role where
  | driveN | driveR | detN | detR | lockProven
  | lamp (g : Nat) | prove (g : Nat)
  | clear
  | lightsOff | raised | down | up | lights | obstacle
  | indOut (k : Nat) | indIn (k : Nat)
  | permit | localReq | keyRestored
  | fieldOut (k : Nat) | fieldIn (k : Nat)
  deriving DecidableEq, Repr

/-- Source and source binding (R81, R83). Channels are 0 to 95 for IO01 to IO96. An object fed by a
neighbour that runs as a pair names a second node (R313). -/
inductive Source where
  | internal
  | locally (bind : List (Role × Fin 96))
  | partner (node : Node) (slot : Nat) (node2 : Option Node)
  deriving DecidableEq, Repr

/-- A declared signal aspect: code 1 to 15, rank of restrictiveness (0 is the stop aspect's), lamp
groups that show it (R97). -/
structure Aspect where
  code : BitVec 4
  rank : Nat
  lamps : List Nat
  deriving DecidableEq, Repr

/-- One overlap alternative (R104): points with positions, and sections. -/
structure Alt where
  points : List (Nat × Pos)
  sections : List Nat
  deriving DecidableEq, Repr

/-- What the bits of a line block's indications mean, as the image declares (R110, R296). -/
structure BlockBits where
  outRequest : Nat
  outGrant : Nat
  outArrival : Nat
  outNormal : Nat
  inGrant : Nat
  inRefuse : Nat
  inRequest : Nat
  inDeparture : Nat
  inArrival : Nat
  inNormal : Nat
  deriving DecidableEq, Repr

/-- Where the value of a GENERIC field comes from (R114): its source, the equations, or the
equations and out to the source. -/
inductive FieldBound where
  | input | output | computed
  deriving DecidableEq, Repr

/-- One field of a GENERIC object, 1 to 16 bits at bit `lo` of the state word (R114). -/
structure GField where
  lo : Nat
  width : Nat
  isBool : Bool
  safe : Nat
  bound : FieldBound
  deriving DecidableEq, Repr

/-- Type parameters (R94, R98, R101, R103, R105, R106, R109, R111, R113, R114), in ms; one that the image does not declare takes its launch profile (R81). -/
inductive Params where
  | point (moveLimit : Nat := 8000) (facing : Bool := false) (protecting : List Nat)
  | signal (proving : Nat := 500) (aspects : List Aspect)
  | stretch (clearDelay : Nat := 0) (axle : Bool) (direct : Bool := false)
  | route (rid : BitVec 12)
  | overlap (release : Nat := 60000) (alts : List Alt) (berth : Nat)
  | flank (elemSignal : Bool) (req : Pos) (element : Nat)
  | crossing (warning : Nat := 4000) (closing : Nat := 12000) (obstacle : Bool)
  | block (neighbour : Node) (departure arrival : Nat) (bits : BlockBits)
  | zone (points sections : List Nat) (routes : List (BitVec 12))
  | generic (fields : List GField)
  deriving DecidableEq, Repr

/-- An object declaration (R81). -/
structure ObjDecl where
  oid : Nat
  symbol : BitVec 24
  source : Source
  tLoss : Nat := 150
  params : Params
  deriving DecidableEq, Repr

/-- A route: entry signal, sections and elements as its rows carry them, and the parameters of R116.
Rows are stored as in the bank: the header word of R118, then literal words of R119. -/
structure RouteDecl where
  rid : BitVec 12
  oid : Nat
  symbol : BitVec 24
  entry : Nat
  approach : List Nat
  settable : List W32
  hold : List W32
  clear : List W32
  alts : Nat
  approachMs : Nat := 120000
  emergencyMs : Nat := 120000
  confirmMs : Nat := 60000
  waitMs : Nat := 30000
  automatic : Bool := false
  restricted : Bool := false
  deriving DecidableEq, Repr

/-- Value types of equations (R149). -/
inductive VType where
  | bool | uint | int
  deriving DecidableEq, Repr

/-- Binary operators of R149. -/
inductive BinOp where
  | and | or | xor | add | sub | mul | min | max | eq | ne | lt | le | gt | ge
  deriving DecidableEq, Repr

/-- What RISE, FALL and PREV stand on is a named value, an object field or a predicate, never an
expression (R157, R162). A field is a slice of the state word. -/
inductive Operand where
  | sym (id : BitVec 24)
  | field (oid lo width : Nat)
  | pred (oid code : Nat)
  deriving DecidableEq, Repr

/-- Expressions of R149 to R151; arithmetic nodes carry the type their result is saturated in. -/
inductive Expr where
  | const (v : Int)
  | read (o : Operand)
  | not (e : Expr)
  | bin (op : BinOp) (ty : VType) (l r : Expr)
  | select (c l r : Expr)
  | prev (k : Nat)
  | rise (k : Nat)
  | fall (k : Nat)
  | timer (k : Nat) (input : Expr)
  deriving DecidableEq, Repr

/-- The object inputs that equations drive (R152). -/
inductive ObjInput where
  | aspectLimit
  | strikeIn
  | field (lo width : Nat)
  deriving DecidableEq, Repr

/-- What an equation assigns: a value by symbol, or an object input with the set of objects that
its equations read in the cycle (R150, R152, R153). -/
inductive Target where
  | value (id : BitVec 24)
  | input (oid : Nat) (inp : ObjInput) (reads : List Nat)
  deriving DecidableEq, Repr

structure Equation where
  target : Target
  ty : VType
  expr : Expr
  deriving DecidableEq, Repr

/-- Kinds of timers (R159). -/
inductive TimerKind where
  | onDelay | offDelay | pulse
  deriving DecidableEq, Repr

structure TimerDecl where
  symbol : BitVec 24
  kind : TimerKind
  preset : Nat
  deriving DecidableEq, Repr

structure EdgeDecl where
  symbol : BitVec 24
  operand : Operand
  deriving DecidableEq, Repr

/-- A retained value: what PREV reads, with its declared initial value (R157). -/
structure RetainedDecl where
  symbol : BitVec 24
  ty : VType
  operand : Operand
  init : Int := 0
  deriving DecidableEq, Repr

/-- One step of the develop order (R154). -/
inductive DevStep where
  | eqn (k : Nat)
  | obj (oid : Nat)
  deriving DecidableEq, Repr

/-- A symbol table entry (R147). -/
structure Symbol where
  id : BitVec 24
  cls : BitVec 4
  vtype : BitVec 4
  index : W32
  deriving DecidableEq, Repr

/-- An expected-partner entry (R299). -/
structure PartnerDecl where
  node : Node
  cls : BitVec 2
  ptype : W16
  k : Nat := 3
  links : BitVec 48
  cmdSlots : Nat
  repSlots : Nat
  keyHash : Hash
  fwHash : Hash := 0
  deriving DecidableEq, Repr

/-- Channel modes (R320). -/
inductive ChMode where
  | unused | input | output | paired
  deriving DecidableEq, Repr

/-- A channel table entry (R320). -/
structure ChEntry where
  mode : ChMode := .unused
  debounce : Nat := 10000
  deriving DecidableEq, Repr

/-- The image header (R144). `directory` holds the offset and the length of the seven sections; `reservedZero`: the
reserved fields are zero (R145). -/
structure ImgHeader where
  magic : W32 := 0x46514931
  format : W16 := 3
  headerLen : W16 := 256
  length : Nat := 0
  hash : Hash := 0
  predecessor : Hash := 0
  station : W32 := 0
  serial : W32 := 0
  compiler : W32 := 0
  nObjects : Nat := 0
  nRoutes : Nat := 0
  nLiterals : Nat := 0
  nTerms : Nat := 0
  nTimers : Nat := 0
  nEdges : Nat := 0
  nRetained : Nat := 0
  targetP : Nat := 0
  develop : Nat := 0
  mirror : Nat := 0
  fixLatest : Nat := 0
  paired : Bool := false
  e : Nat := 0
  d : Nat := 0
  b : Nat := 0
  directory : List (Nat × Nat) := List.replicate 7 (0, 0)
  reservedZero : Bool := true
  deriving DecidableEq, Repr

/-- A Folquel image (R144 and the content named before it). -/
structure Image where
  hdr : ImgHeader := {}
  objects : List ObjDecl := []
  routes : List RouteDecl := []
  equations : List Equation := []
  order : List DevStep := []
  timers : List TimerDecl := []
  edges : List EdgeDecl := []
  retained : List RetainedDecl := []
  symbols : List Symbol := []
  partners : List PartnerDecl := []
  channels : List ChEntry := []
  constants : List (BitVec 24 × Int) := []
  deriving DecidableEq, Repr

end Sys2Proof.Machine
end

