-- ==== Sys2Proof/Machine/Rail.lean ====
section
/-! DEFINITION. The railway state: what a cycle commits at its Fix (R50, R190) and what the lane bulk
and the mirror bulk carry (R204, R365). Times are in consensus cycle time. -/

namespace Sys2Proof.Machine

/-- MODE of a lock entry (R124). -/
inductive LockMode where
  | none | exclusive | shared
  deriving DecidableEq, Repr

/-- The 32-bit lock entry (R124). -/
structure LockEntry where
  mode : LockMode := .none
  pos : Option Pos := Option.none
  count : Nat := 0
  owner : BitVec 12 := 0
  deriving DecidableEq, Repr

/-- OCC (R100). -/
inductive Occ where
  | clear | occupied | disturbed | resetPending
  deriving DecidableEq, Repr

/-- STATE of a ROUTE (R103). -/
inductive RouteState where
  | idle | requested | checked | locked | proven | cleared | occupied | releasing | approachLocked
  deriving DecidableEq, Repr

/-- STATE of an OVERLAP (R104). -/
inductive OverlapState where
  | free | locked | proven | releasing
  deriving DecidableEq, Repr

/-- STATE of a FLANK (R106). -/
inductive FlankState where
  | free | claimed | proven
  deriving DecidableEq, Repr

/-- STATE of a CROSSING (R108). -/
inductive CrossingState where
  | opened | warning | closing | closed | opening | failed
  deriving DecidableEq, Repr

/-- STATE of a BLOCK (R110). -/
inductive BlockState where
  | normal | requested | grantedOut | trainOut | grantedIn | trainIn | failed
  deriving DecidableEq, Repr

/-- STATE of a ZONE (R112). -/
inductive ZoneState where
  | main | requested | granted | returning | unknown
  deriving DecidableEq, Repr

/-- The hold of CLOSE_REQ in a settle period (R360). -/
inductive CloseHold where
  | none | untilReport | rest
  deriving DecidableEq, Repr

structure PointSt where
  pos : BitVec 2 := 0
  cmd : BitVec 2 := 0
  moving : Bool := false
  lockProven : Bool := false
  start : Ticks := 0
  elapsed : Nat := 0
  moves : W16 := 0
  deriving DecidableEq, Repr

/-- SIGNAL (R97). `agreeSince` and `differSince` are the starting instants of the agreement or the
difference of R98 and R99, `unprovenSince` that of the time without proof (R99); `limit` the committed ASPECT_LIMIT (R153). -/
structure SignalSt where
  cmd : BitVec 4 := 0
  shown : BitVec 4 := 0
  proceedOk : Bool := false
  lampFault : Bool := false
  stopUnproven : Bool := false
  shownValid : Bool := false
  routeId : BitVec 12 := 0
  routeValid : Bool := false
  changeT : Ticks := 0
  aspectTime : Nat := 0
  agreeSince : Option Ticks := Option.none
  differSince : Option Ticks := some 0
  unprovenSince : Option Ticks := some 0
  limit : Option Nat := Option.none
  deriving DecidableEq, Repr

/-- SECTION (R100). `clearSince` times the clear delay, `countedIn` the passage of R101. -/
structure SectionSt where
  occ : Occ := .occupied
  axles : W16 := 0
  changeT : Ticks := 0
  occTime : Nat := 0
  clearSince : Option Ticks := Option.none
  countedIn : Bool := false
  deriving DecidableEq, Repr

/-- ROUTE state word and route engine record (R103, R127, R136, R139, R142). -/
structure RouteSt where
  state : RouteState := .idle
  armed : Bool := false
  waiting : Bool := false
  relIndex : Nat := 0
  timerStart : Ticks := 0
  timerEnd : Option Ticks := Option.none
  seen : BitVec 64 := 0
  fellBack : Bool := false
  permit : Bool := true
  alt : Option Nat := Option.none
  rows : Byte := 0
  deriving DecidableEq, Repr

structure OverlapSt where
  state : OverlapState := .free
  alt : Nat := 0
  owner : BitVec 12 := 0
  timerStart : Ticks := 0
  timerEnd : Option Ticks := Option.none
  deriving DecidableEq, Repr

structure FlankSt where
  state : FlankState := .free
  claims : Nat := 0
  deriving DecidableEq, Repr

/-- CROSSING (R108, R109). `raise` and `lightsOff` are the commands given; `barred` is the raise bar. -/
structure CrossingSt where
  state : CrossingState := .failed
  closeReq : Bool := false
  down : Bool := false
  up : Bool := false
  lightsOk : Bool := false
  obstacleFree : Bool := false
  timerEnd : Option Ticks := Option.none
  timerStart : Ticks := 0
  raise : Bool := false
  lightsOff : Bool := false
  barred : Bool := false
  strikeIn : Bool := false
  hold : CloseHold := .none
  deriving DecidableEq, Repr

structure BlockSt where
  state : BlockState := .failed
  trainOnLine : Bool := true
  arrivalSeen : Bool := false
  sent : BitVec 16 := 0
  received : BitVec 16 := 0
  deriving DecidableEq, Repr

structure ZoneSt where
  state : ZoneState := .unknown
  localReq : Bool := false
  keyRestored : Bool := false
  barred : Bool := true
  permit : Bool := false
  deriving DecidableEq, Repr

/-- The per-type part of a state word. -/
inductive Body where
  | point (p : PointSt)
  | signal (s : SignalSt)
  | stretch (s : SectionSt)
  | route (r : RouteSt)
  | overlap (o : OverlapSt)
  | flank (f : FlankSt)
  | crossing (c : CrossingSt)
  | block (b : BlockSt)
  | zone (z : ZoneSt)
  | generic (bits : BitVec 48)
  deriving DecidableEq, Repr

/-- One object: the common bits of R82, the source bookkeeping of R85 and R87, the lock entry of
R124 and the body of its type. -/
structure Obj where
  oid : Nat
  lost : Bool := false
  stale : Bool := false
  blocked : Bool := false
  fault : Bool := false
  safeHeld : Bool := false
  freshRun : Nat := 0
  lastFresh : Ticks := 0
  appliedSeq : Option (Node × W32) := Option.none
  lock : LockEntry := {}
  body : Body
  deriving DecidableEq, Repr

/-- PHASE of a timer (R159). -/
inductive Phase where
  | idle | running | held
  deriving DecidableEq, Repr

structure TimerSt where
  phase : Phase := .idle
  q : Bool := false
  inPrev : Bool := false
  start : Ticks := 0
  expiry : Ticks := 0
  fresh : Bool := false
  deriving DecidableEq, Repr

/-- A request on the waiting list (R130). -/
structure Wait where
  rid : BitVec 12
  sid : Nat
  adm : W32
  tray : Nat
  cmdSeq : W32
  since : Ticks
  limitMs : Nat
  deriving DecidableEq, Repr

/-- The committed state (R50, R190, R204). An edge detector whose previous value is none takes
previous equal to current in its first Develop (R174, R479). -/
structure Rail where
  objs : List Obj := []
  waiting : List Wait := []
  values : List (BitVec 24 × Int) := []
  retained : List Int := []
  timers : List TimerSt := []
  edges : List (Option Bool) := []
  latched : List (Nat × W32) := []
  settleEnd : Option Ticks := none
  time : Ticks := 0
  cut : W32 := 0
  deriving DecidableEq, Repr

end Sys2Proof.Machine
end

