-- ==== Sys2Proof/Machine/Messages.lean ====
section
/-! DEFINITION. What arrives from outside a die in one step: Nernel packets (R207 to R214, R315), field
messages (R292 to R298), mirror messages (R349 to R351, R365), cross-lane and field crossing frames,
and the findings that the hardware hands to the firmware. A verdict of the cryptographic engine in K on the signature of
an image comes with the image it is about (log 6). -/

namespace Sys2Proof.Machine

/-- A Nernel packet as it arrives (R207, R208, R210, R315). The opcode is the row's. `endpoint` is
the source address and UDP port (R290). The safety code received is `sc1`, the tag `tag` (R210, R213). `faulty` are the lanes
that find the entry made of it faulty when they check it again (R30, R231). A version 0x2 packet is one that came on UDP
port 47852 (R291). -/
structure Pkt where
  port : Port := .h 0
  endpoint : Nat := 0
  version : Byte := 3
  flags : Byte := 0
  session : Byte := 0
  trayPrio : Byte := 0
  length : W16 := 0
  seq : W32 := 0
  deadline : W32 := 0
  stamp : W64 := 0
  alive : W16 := 0
  reserved : W16 := 0
  check : W32 := 0
  payload : List Byte := []
  sc1 : W64 := 0
  tag : BitVec 128 := 0
  faulty : BitVec 3 := 0
  deriving DecidableEq, Repr

/-- A field-variant message with its content bytes (R292 to R295); the kind is the row's. `endpoint` is its source
address and UDP port on a host port (R290, R313); `faulty` as in a packet. -/
structure FieldMsg where
  port : Port
  endpoint : Nat := 0
  version : Byte := 3
  flags : Byte := 0
  session : Byte := 0
  node : BitVec 24 := 0
  reserved : Byte := 0
  seq : W32 := 0
  echo : W32 := 0
  ownEpoch : W32 := 0
  stamp : W64 := 0
  alive : W16 := 0
  length : W16 := 0
  check : W32 := 0
  content : List Byte := []
  sc1 : W64 := 0
  tag : BitVec 128 := 0
  faulty : BitVec 3 := 0
  deriving DecidableEq, Repr

/-- A complete mirror message as its last fragment brings it (R349): that fragment's header, the two safety codes of its seal
and its CRC. `since` is the arrival of the message's first fragment. The kind is the row's. -/
structure MirrorHdr where
  port : Fin 2 := 0
  version : Byte := 3
  flags : Byte := 3
  position : Byte := 1
  seq : W32 := 1
  cycle : W48 := 0
  index : W16 := 0
  count : W16 := 1
  length : W16 := 0
  epoch : W32 := 0
  check : W32 := 0
  sc1 : W64 := 0
  sc2 : W64 := 0
  crc : W32 := 0
  since : Time := 0
  deriving DecidableEq, Repr

/-- A partner entry of a DELTA (R351), with the content of its telegram (R295). -/
structure PartnerRep where
  node : Node
  qualified : Bool
  seq : W32
  fix : W32 := 0
  echoEpoch : W32 := 0
  slots : List W32
  deriving DecidableEq, Repr

/-- A command entry of a DELTA (R351); opcode 0 is a partner EVENT. -/
structure CmdEntry where
  op : W16
  tray : Nat
  payload : List Byte
  adm : W32
  node : Node := 0
  deriving DecidableEq, Repr

/-- Body of a DELTA (R351). -/
structure DeltaBody where
  base : W48
  handover : Bool := false
  digest : W64 := 0
  outputs : Chans := 0
  inputs : Chans := 0
  invalid : Chans := 0
  cut : W32 := 0
  time : Ticks := 0
  partners : List PartnerRep := []
  cmds : List CmdEntry := []
  deriving DecidableEq, Repr

/-- Cycle settings (R52). -/
structure CycleSettings where
  p : Nat := 50
  develop : Nat := 70
  mirror : Nat := 80
  fixLatest : Nat := 85
  skipLimit : Nat := 2
  sync : BitVec 2 := 1
  deriving DecidableEq, Repr

/-- Pair settings (R285). -/
structure PairSettings where
  lease : Nat := 4
  essential : Groups := 0
  deriving DecidableEq, Repr

/-- Body of a BULK (R365). -/
structure BulkBody where
  base : W48
  rail : Rail
  telegrams : List PartnerRep := []
  cycle : CycleSettings := {}
  pair : PairSettings := {}
  channels : List ChEntry := []
  logicHash : Hash := 0
  logicSerial : W32 := 0
  deriving DecidableEq, Repr

/-- Body of an ACK (R350). -/
structure AckBody where
  cycle : W48
  ready : Bool := false
  differs : Bool := false
  accepted : Bool := false
  refused : Bool := false
  epoch : W32 := 0
  deriving DecidableEq, Repr

/-- Body of an ANNOUNCE (R350). -/
structure AnnounceBody where
  role : BitVec 8
  wantsBulk : Bool := false
  epoch : W32 := 0
  deriving DecidableEq, Repr

/-- What a mirror message says, by its kind (R350). -/
inductive MirrorBody where
  | delta (b : DeltaBody)
  | renew (base : W48) (handover : Bool)
  | ack (b : AckBody)
  | release (lastFix : W48) (reason : Byte)
  | bulk (b : BulkBody)
  | announce (b : AnnounceBody)
  deriving DecidableEq, Repr

/-- A frame from a field board to its lane (R339). -/
structure InFrame where
  kind : Byte := 0xA5
  status : Byte := 0
  counter : W16 := 0
  debounced : Chans := 0
  raw : Chans := 0
  supply : Byte := 0
  voltage : W16 := 0
  reserved : Byte := 0
  check : W32 := 0
  deriving DecidableEq, Repr

/-- A frame from a lane to its field board (R338). -/
structure OutFrame where
  kind : Byte := 0x5A
  reserved1 : Byte := 0
  counter : W16 := 0
  switches : Chans := 0
  cutoffs : W16 := 0
  reserved2 : W16 := 0
  check : W32 := 0
  deriving DecidableEq, Repr

/-- How a lane's OUTPUT_IMAGE differs from the one computed from the consensus image: all zero for a
healthy lane (R150, R190, R194; log 5). `torn`: sessions of which the lane's images at a network die come out otherwise than the
lane computed them (R29). -/
structure ImageError where
  digest : W64 := 0
  telegram : W64 := 0
  mirror : W64 := 0
  lease : Bool := false
  outputs : Chans := 0
  torn : List Nat := []
  deriving DecidableEq, Repr

/-- What one lane's raw samples showed in a Dark Pulse (R331, R333): a sample energised in the first
window, a sample de-energised in the second, and de-energised channels that fell in the dark. -/
structure PulseSamples where
  darkHigh : Bool := false
  pathLow : Bool := false
  fell : Chans := 0
  deriving DecidableEq, Repr

/-- Outcome of an SRAM read (R17); `single` names the bit in error. -/
inductive SramOutcome where
  | matches
  | single (bit : Nat)
  | double
  | otherAddress
  deriving DecidableEq, Repr

/-- A word on a cross-lane channel (R26): the true and the false rail of its 32 data bits and of its CRC-8. -/
structure RailWord where
  dataTrue : W32
  dataFalse : W32
  crcTrue : Byte
  crcFalse : Byte
  deriving DecidableEq, Repr

/-- A word as a lane takes it from a cross-lane channel (R26), and whether it has been asked for again (R27). -/
structure LaneWord where
  word : RailWord
  repeated : Bool
  deriving DecidableEq, Repr

/-- A message between lanes: the channel on which it came, and its words (R187). -/
structure LaneMsg where
  ch : Chan
  words : List W32
  deriving DecidableEq, Repr

/-- A lane whose Develop is complete, and by what its delta differs (R61). -/
structure LaneDelta where
  lane : Lane
  delta : W64
  deriving DecidableEq, Repr

/-- A word that a lane reads from its memory: address, word, check bits (R17). -/
structure SramWord where
  addr : BitVec 22
  word : W64
  check : Byte
  deriving DecidableEq, Repr

/-- One of the caches of a core pair: whose it is, and which (R15, R19). -/
structure CacheId where
  shadow : Bool
  data : Bool
  deriving DecidableEq, Repr

/-- Words of a snapshot from a first one on (R204). -/
structure WordRange where
  first : Nat
  words : List W32
  deriving DecidableEq, Repr

/-- The words of a delta, and its cycle (R204). -/
structure CycleWords where
  cycle : W48
  words : List W32
  deriving DecidableEq, Repr

/-- The instant of a write of the scribe, and the banks whose copy of the record fails its check (R271, R388). -/
structure RecordWrite where
  t : Time
  torn : BitVec 2
  deriving DecidableEq, Repr

/-- Which copies of the boot record and of the seal configuration K finds good (R33, R427, R408). -/
structure CopiesGood where
  boot : BitVec 2
  sealConfig : BitVec 2
  deriving DecidableEq, Repr

/-- Item in which a core pair differed (R181, R376 sources 0x000 to 0x003), with the two Loupe
verdicts (R182, R183). -/
inductive LoupeItem where
  | register | store | sheet | word
  deriving DecidableEq, Repr

/-- A dual-rail verdict of a Loupe (R183). -/
inductive Verdict where
  | matched | mismatch | illegal
  deriving DecidableEq, Repr

/-- An entry of the Latent Buffer (R179). -/
structure LatentEntry where
  value : W64
  index : W32
  check : Byte
  deriving DecidableEq, Repr

/-- A block that a RINSE resets (R375, R379). -/
inductive Block where
  | engine (l : Lane) (second : Bool)
  | crossing (l : Lane)
  | port (p : Port)
  | die (d : Die)
  deriving DecidableEq, Repr

/-- PTP traffic as V judges it (R317, R318): the master it came from, the domain, whether it is an
Announce or ends a Sync interval, the filtered offset from the selected master in ns, and the rate of
VR against the lane timebases in ppm as the lanes measure it. -/
structure PtpMsg where
  port : Fin 4
  domain : Nat
  master : Nat
  announce : Bool
  rank : Nat := 0
  time : W64 := 0
  offset : Int := 0
  ratePpm : Nat := 0
  deriving DecidableEq, Repr

/-- A firmware image as K reads it (R421 to R423, R428): header fields, with the security version as `security`; what the checks
on the image's own bytes found; its lane and network die images as K measures them; and the countersignature. -/
structure FwImage where
  headerOk : Bool := true
  length : Nat := 0
  hash : Hash := 0
  version : W32 := 0
  security : Nat := 0
  minIssue : Byte := 0x41
  format : Nat := 0
  oldest : Nat := 0
  keySerial : Nat := 0
  keyFloor : Nat := 0
  certOk : Bool := true
  vendorOk : Bool := true
  laneHash : Hash := 0
  netHash : Hash := 0
  blockOk : Bool := true
  signer : Nat := 0
  counterSign : List Byte := []
  deriving DecidableEq, Repr

/-- Reply of a downstream neighbour to a printed part (R431). -/
structure PartReply where
  offset : Nat
  status : Byte
  held : Nat
  last : Bool
  deriving DecidableEq, Repr

/-- What a downstream neighbour sends in a printing session (R431). -/
inductive PrintReply where
  | open2 (sid tray : Nat) (trusted : Bool)
  | open4 (granted : Bool)
  | keepalive
  | close
  deriving DecidableEq, Repr

/-- Why a datagram is not recognised (R231, R243, R291). -/
inductive BadDatagram where
  | port | header | version | opcode (op : W16) (p : Pkt)
  deriving DecidableEq, Repr

end Sys2Proof.Machine
end

