-- ==== Sys2Proof/Syntax.lean ====
section
/-! DEFINITION. The commands: one constructor per row of spec/opcode_table.json. The first operand of
each is the instant of the step in ns (log 1), or holds it; the others are what the step brings with it. -/

namespace Sys2Proof

open Sys2Proof.Machine

inductive Instr where
  -- commands in Nernel packets (R247); p is the packet, whose opcode and identifying payload bytes
  -- are those of the row
  | setRoute (t : Time) (p : Pkt)
  | cancelRoute (t : Time) (p : Pkt)
  | emergencyReleaseStep1 (t : Time) (p : Pkt)
  | emergencyReleaseStep2 (t : Time) (p : Pkt)
  | pointMove (t : Time) (p : Pkt)
  | pointBlock (t : Time) (p : Pkt)
  | signalBlock (t : Time) (p : Pkt)
  | sectionReset (t : Time) (p : Pkt)
  | blockRestore (t : Time) (p : Pkt)
  | zoneGrant (t : Time) (p : Pkt)
  | queryState (t : Time) (p : Pkt)
  | subscribe (t : Time) (p : Pkt)
  | unsubscribe (t : Time) (p : Pkt)
  | open1 (t : Time) (p : Pkt)
  | open3 (t : Time) (p : Pkt)
  | sessionClose (t : Time) (p : Pkt)
  | sessionKeepalive (t : Time) (p : Pkt)
  | modeSetRun (t : Time) (p : Pkt)
  | modeSetStop (t : Time) (p : Pkt)
  | modeSetHold (t : Time) (p : Pkt)
  | cycleSet (t : Time) (p : Pkt)
  | holdStep (t : Time) (p : Pkt)
  | testStripRun (t : Time) (p : Pkt)
  | negativeReadRecords (t : Time) (p : Pkt)
  | negativeReadChainHead (t : Time) (p : Pkt)
  | counterRead (t : Time) (p : Pkt)
  | counterSet (t : Time) (p : Pkt)
  | faultClear (t : Time) (p : Pkt)
  | lockoutRelease (t : Time) (p : Pkt)
  | faultInject (t : Time) (p : Pkt)
  | updateOffer (t : Time) (p : Pkt)
  | updateSchedule (t : Time) (p : Pkt)
  | updateScheduleCancel (t : Time) (p : Pkt)
  | updateConfirm (t : Time) (p : Pkt)
  | sealProposeNonce (t : Time) (p : Pkt)
  | sealProposePart (t : Time) (p : Pkt)
  | sealProposeWithdraw (t : Time) (p : Pkt)
  | sealApprove (t : Time) (p : Pkt)
  | lifecycleSetNonce (t : Time) (p : Pkt)
  | lifecycleSetPart (t : Time) (p : Pkt)
  | lifecycleSetWithdraw (t : Time) (p : Pkt)
  | lampStatus (t : Time) (p : Pkt)
  | lampRelease (t : Time) (p : Pkt)
  | pairSet (t : Time) (p : Pkt)
  | logicLoad (t : Time) (p : Pkt)
  | logicSwitch (t : Time) (p : Pkt)
  -- field links and sessions
  | event (t : Time) (m : FieldMsg)
  | partnerTelegram (t : Time) (m : FieldMsg)
  | hello (t : Time) (link : Fin 48) (m : FieldMsg)
  | fieldLinkUp (t : Time) (link : Fin 48)
  | fieldLinkDown (t : Time) (link : Fin 48)
  | challengeRepeat (t : Time) (link : Fin 48)
  | openingAbandoned (t : Time) (sid : Nat)
  | quarantineEnd (t : Time) (link : Fin 48)
  | sessionAliveExpiry (t : Time) (sid : Nat)
  | fieldSessionCloseTimeout (t : Time) (sid : Nat)
  -- the pair
  | delta (t : Time) (h : MirrorHdr) (b : DeltaBody)
  | renew (t : Time) (h : MirrorHdr) (base : W48) (handover : Bool)
  | ack (t : Time) (h : MirrorHdr) (b : AckBody)
  | release (t : Time) (h : MirrorHdr) (lastFix : W48) (reason : Byte)
  | bulk (t : Time) (h : MirrorHdr) (b : BulkBody)
  | bulkTimeout (t : Time)
  | announce (t : Time) (h : MirrorHdr) (b : AnnounceBody)
  | leaseLapse (t : Time)
  | guardCycleStart (t : Time)
  | takeLamp (t : Time)
  | settlePeriodEnd (t : Time)
  | startSettlePeriodEnd (t : Time)
  | essentialSupplyLost (t : Time) (g : Fin 12)
  | pairPresenceChange (t : Time) (asserted : Bool)
  | pairListenEnd (t : Time)
  | runPoint (t : Time)
  -- the cycle
  | cycleBoundary (t : Time) (l : Lane) (reading : Ticks)
  | inputImage (t : Time) (l : Lane) (m : LaneMsg)
  | exposeClose (t : Time)
  | set (t : Time) (l : Lane) (m : LaneMsg)
  | setWaitExpiry (t : Time) (l : Lane)
  | developComplete (t : Time) (d : LaneDelta)
  | developDeadline (t : Time)
  | mirrorDeadline (t : Time)
  | outputImage (t : Time) (l : Lane) (e : ImageError)
  | rendezvousWindowExpiry (t : Time)
  | fixLatestDeadline (t : Time)
  | lateOutputImage (t : Time) (l : Lane) (e : ImageError)
  | tardyLaneBoundary (t : Time) (l : Lane)
  | skipLimitExceeded (t : Time)
  | tardyWithdrawal (t : Time) (l : Lane)
  | inputMinorityFault (t : Time) (l : Lane)
  | timedPromiseExpired (t : Time) (adm : W32)
  | holdTimeout (t : Time)
  | safeStateRelease (t : Time)
  | syncInEdge (t : Time) (width : Nat) (gap : Nat)
  | syncLoss (t : Time)
  | ptpMessage (t : Time) (m : PtpMsg)
  | ptpAnnounceTimeout (t : Time) (master : Nat)
  | timebase (t : Time) (a b c : Ticks)
  -- inside a lane
  | paceSample (t : Time) (l : Lane) (count : Nat)
  | coreSupplyLow (t : Time) (l : Lane) (ns : Nat)
  | corePairMismatch (t : Time) (l : Lane) (item : LoupeItem) (v1 v2 : Verdict)
  | loupeProbe (t : Time) (l : Lane) (v1 v2 : Verdict) (neighbour : Bool)
  | latentBufferFault (t : Time) (l : Lane) (e : LatentEntry) (consumedBy : W32)
  | sramReadError (t : Time) (l : Lane) (w : SramWord)
  | cacheParityError (t : Time) (l : Lane) (cache : CacheId) (line : Nat)
  | crossLaneWordRejected (t : Time) (ch : Chan) (w : LaneWord)
  | channelFaulted (t : Time) (ch : Chan)
  | hash (t : Time) (l : Lane) (sender : Lane) (h : Hash)
  | resyncBulk (t : Time) (l : Lane) (sender : Lane) (part : WordRange)
  | resyncDelta (t : Time) (l : Lane) (sender : Lane) (d : CycleWords)
  -- faults and lanes coming back
  | stopBathOccurrence (t : Time) (source : Fin 512) (seen : BitVec 3) (code : W16)
  | blockResetComplete (t : Time) (b : Block)
  | blockResetBoundExpiry (t : Time) (b : Block)
  | networkDieResetCheck (t : Time) (d : Die) (h : Hash)
  | laneReleasedFromReset (t : Time) (l : Lane)
  | laneLoadComplete (t : Time) (l : Lane) (ok : Bool)
  | laneJoinCheck (t : Time) (l : Lane) (fw logic : Hash) (refsAgree : Bool) (stores : BitVec 2)
  | resyncComplete (t : Time) (l : Lane)
  | laneRestartTimer (t : Time) (l : Lane)
  | joinTimeout (t : Time)
  -- local field I/O
  | inboundFieldFrame (t : Time) (l : Lane) (f : InFrame)
  | staleFrame (t : Time) (l : Lane)
  | fieldBoardWatchdog (t : Time) (l : Lane)
  | outboundFieldFrame (t : Time) (l : Lane) (f : OutFrame)
  | debounceExpiry (t : Time) (l : Lane) (ch : Fin 96)
  | darkPulse (t : Time) (slot : Nat) (a b c : PulseSamples)
  | groupFeedRecovery (t : Time) (l : Lane) (g : Fin 12)
  | cutoffStuck (t : Time) (l : Lane) (g : Fin 12)
  | pairedNoDark (t : Time) (l : Lane) (ch : Fin 96)
  -- object and station logic timers
  | partnerLost (t : Time) (sid : Nat)
  | tLossExpiry (t : Time) (oid : Nat)
  | pointMoveTimeout (t : Time) (oid : Nat)
  | signalProvingTimeout (t : Time) (oid : Nat)
  | sectionClearDelay (t : Time) (oid : Nat)
  | crossingTimerExpiry (t : Time) (oid : Nat)
  | overlapReleaseTimer (t : Time) (oid : Nat)
  | approachReleaseTimer (t : Time) (rid : BitVec 12)
  | emergencyTimerExpiry (t : Time) (rid : BitVec 12)
  | confirmationWindowEnd (t : Time) (rid : BitVec 12)
  | waitLimitExpiry (t : Time) (rid : BitVec 12)
  | folquelTimerExpiry (t : Time) (k : Nat)
  -- Safelight, injection, checks, the Negative, counters
  | safelightExit (t : Time)
  | safeStateNotReached (t : Time) (l : Lane) (ch : Fin 96)
  | injectionDisarm (t : Time)
  | engineSelfCheck (t : Time) (l : Lane) (second : Bool) (wrong : BitVec 5)
  | staticRegionScanEnd (t : Time) (l : Lane) (logic : Bool) (value : W64)
  | negativeRecordWrite (w : RecordWrite)
  | chainHeadSign (t : Time)
  | recordNumbersExhausted (t : Time)
  | counterSaturation (t : Time) (l : Lane) (i : Fin 32)
  | proposalExpiry (t : Time)
  -- images and updates
  | firmwareImageVerified (t : Time) (slot : Bool)
  | logicImageVerified (t : Time) (i : Image) (sigOk : Bool) (signer : Nat) (headerLanes hashLanes : BitVec 3)
  | partialImageDiscard (t : Time)
  | printRetry (t : Time) (e : Fin 2)
  | printTimeout (t : Time) (e : Fin 2)
  | printPartReply (t : Time) (e : Fin 2) (r : PartReply)
  | activationBoundary (t : Time)
  | deferredActivationTimeout (t : Time)
  | conversionFailedRestart (t : Time)
  -- supplies, start and ports
  | powerOn (t : Time) (f : Feed) (straps : BitVec 2) (strapFault : Bool) (charge : Nat)
  | holdUpReady (t : Time) (charge : Nat)
  | kBootComplete (t : Time) (good : CopiesGood)
  | firstBoundary (t : Time)
  | feedLoss (t : Time) (f : Feed)
  | bothFeedsLost (t : Time) (charge : Nat)
  | feedReturn (t : Time) (f : Feed)
  | rideThroughEnd (t : Time) (charge : Nat)
  | restartAfterPowerFail (t : Time) (f : Feed) (straps : BitVec 2) (strapFault : Bool) (charge : Nat)
  | sfpInserted (t : Time) (p : Port) (accepted : Bool)
  | hostLinkChange (t : Time) (p : Port) (up : Bool)
  | ptpReferenceBoundary (t : Time)
  | lowSupplyChange (t : Time) (charge : Nat) (feedLow : Bool)
  | densitometerSampleTick (t : Time) (l : Lane)
  | supervisorBoundary (t : Time)
  | printSessionReply (t : Time) (e : Fin 2) (r : PrintReply)
  | unrecognisedDatagram (t : Time) (p : Port) (why : BadDatagram)
  deriving DecidableEq, Repr

end Sys2Proof
end

