-- ==== Sys2Proof/Decode.lean ====
section
/-! DEFINITION. Words and commands. No row of spec/opcode_table.json is given bits (every row's field
list is empty), so no word spells a command (log 3). -/

namespace Sys2Proof

/-- The command that a word of the table's bits spells: none. -/
def decodeTableWord (_nbits _w : Nat) : Option Instr := none

end Sys2Proof
end

