-- ==== Sys2Proof/Config.lean ====
section
/-! DEFINITION. What one implementation fixes and the values the manual leaves open. An opaque
constant without a body is a free value: nothing can be proved of it. -/

namespace Sys2Proof

/-- Free value: the 32-byte values K draws from its entropy source, one per draw (R219, R279,
R297). DESIGN CHOICE log 7. -/
opaque Config.entropy : Nat → Hash

/-- Free value: the proposal ID that K issues (R280 states no numbering). DESIGN CHOICE log 7. -/
opaque Config.proposalId : Nat → W32

/-- SHA3-256 (R398 names FIPS 202); the manual defines it by reference only. DESIGN CHOICE log 6. -/
opaque Config.sha3 : List Byte → Hash

/-- KMAC256 (R398) of a key over bytes, with a customisation string and an output length in bits; the manual defines it
by reference only. DESIGN CHOICE log 6. -/
opaque Config.kmac256 : (key data custom : List Byte) → (bits : Nat) → List Byte

/-- Free values: the shared secret and the ciphertext of the ML-KEM-768 encapsulation that K makes at a draw for an
encapsulation key (R219, R220, R298); log 6, log 7. -/
opaque Config.kemSecret : Nat → List Byte → List Byte
opaque Config.kemCiphertext : Nat → List Byte → List Byte

/-- ML-DSA-44 (R398): a signature over a hash verifies under a public key. DESIGN CHOICE log 6. -/
opaque Config.verifies : (key : List Byte) → Hash → (signature : List Byte) → Bool

/-- The public part of the module identity key pair that K generated at provisioning (R399). -/
opaque Config.identityKey : List Byte

/-- Its hash (R399). -/
def Config.identityKeyHash : Hash := Config.sha3 Config.identityKey

/-- Free value: the ML-DSA-44 signature that K makes with the module identity key at a draw over a transcript hash (R219,
R298); log 6, log 7. -/
opaque Config.identitySign : Nat → Hash → List Byte

/-- The module serial number (R399). -/
opaque Config.moduleSerial : W64

/-- The firmware image in the committed slot of a delivered module (R425): its image hash. -/
opaque Config.factoryFirmwareHash : Hash

/-- The settings format of that image (R421, R441), which the manual does not state. DESIGN CHOICE log 94. -/
opaque Config.factoryFormat : W16

/-- Free value: the offset of the first settings item that a firmware image, by its hash, does not convert from an older
format that it reads; none where it converts all (R441, R433). DESIGN CHOICE log 94. -/
opaque Config.conversionFault : Hash → W16 → Option W32

/-- The module's own node address; the manual names it (R297, R351) but says nowhere where it is
kept. DESIGN CHOICE log 8. -/
opaque Config.ownNode : Node

/-- Free value: the ML-DSA-44 signature that K makes over a chain head (R395); log 6. -/
opaque Config.signature : W32 → Hash → List Byte

/-- Free value: the node address of the pair partner, which LAMP_STATUS reports (R283); the manual says nowhere how the module
knows it. DESIGN CHOICE log 141. -/
opaque Config.partnerNode : Node

/-- Free value: the Timestamp of a packet that leaves while the module holds no valid PTP time (R208 and R292 give it the
sender's time), by the instant. DESIGN CHOICE log 134. -/
opaque Config.stampWithoutPtp : Nat → W64

/-- Free value: the message number in the part header of a WELCOME, of which R265 gives those of SESSION_OPEN only. DESIGN
CHOICE log 139. -/
opaque Config.welcomeNumber : Byte

/-- C_floor of a lane's calibration record (R22), less 1: the record's value is open, and a floor is at least 1
(log 22). -/
opaque Config.cFloorLess : Lane → Nat

/-- C_floor of a lane's calibration record (R22). DEDUCED log 22. -/
def Config.cFloor (l : Lane) : Nat := Config.cFloorLess l + 1

/-- CRC-64 code 1 over a static region of lane SRAM (R462), by the hash of the image it holds; the bytes of
the region are not part of this model. DESIGN CHOICE log 19. -/
opaque Config.regionCode : Hash → W64

/-- The eight check bits over a Latent Buffer entry's value and index (R179); the manual gives no code.
DESIGN CHOICE log 7. -/
opaque Config.latentCheck : W64 → W32 → Byte

/-- The eight check bits over a word of lane SRAM and its address (R17); the manual gives no code. DESIGN CHOICE log 130. -/
opaque Config.sramCheck : W64 → BitVec 22 → Byte

/-- Free value: what the check bits say of a word that fails them (R17): below 64 the bit in error, 64 a double-bit
error, else a match at another address. DESIGN CHOICE log 130. -/
opaque Config.sramSyndrome : W64 → Byte → BitVec 22 → Fin 66

/-- Free value: a word of lane SRAM that no command has written; the manual does not lay the memory out. DESIGN CHOICE
log 130. -/
opaque Config.sramContent : BitVec 22 → W64

/-- Words in a cache line (R15, R19), which the manual does not state. DESIGN CHOICE log 130. -/
opaque Config.lineWords : Nat

/-- Initial value of the CRC-8 of a cross-lane word (R26), which the manual does not state. DESIGN CHOICE log 131. -/
opaque Config.crc8Init : Byte

/-- The vendor root public key, whose hash K's ROM holds (R428). -/
opaque Config.vendorRootKey : List Byte

/-- SHA3-256 of the network die image within the factory's own firmware image, as K measures it at load (R33, R422). -/
opaque Config.factoryNetworkHash : Hash

/-- SHA3-256 of the lane image within the factory's own firmware image, as K measures it at load (R33, R34, R422). -/
opaque Config.factoryLaneHash : Hash

/-- The signature of the vendor provisioning key on the module's identity certificate (R399). -/
opaque Config.provisioningSignature : List Byte

/-- Hardware issue letter C, ASCII (R399). -/
def Config.issue : Byte := 0x43

end Sys2Proof
end

