-- ==== Sys2Proof/Machine/Bits.lean ====
section
/-! DEFINITION. Bytes, words and masks, and the check values of R458. Multi-byte fields are most
significant byte first (R9). -/

namespace Sys2Proof.Machine

/-- The n low bytes of v, most significant first (R9). -/
def beBytes : Nat → Nat → List Byte
  | 0, _ => []
  | n + 1, v => BitVec.ofNat 8 (v / 256 ^ n) :: beBytes n v

/-- The number that bytes spell, most significant first (R9). -/
def beNat (l : List Byte) : Nat := l.foldl (fun a b => a * 256 + b.toNat) 0

/-- The number in n bytes from offset `off`; bytes beyond the end read as absent. -/
def fieldAt (l : List Byte) (off n : Nat) : Nat := beNat ((l.drop off).take n)

/-- Bits [hi:lo] of v. -/
def bitsOf (v hi lo : Nat) : Nat := v / 2 ^ lo % 2 ^ (hi + 1 - lo)

/-- Bit n of v. -/
def bitOf (v n : Nat) : Bool := v / 2 ^ n % 2 = 1

/-- 1 for true. -/
def boolNat (b : Bool) : Nat := if b then 1 else 0

/-- A list of bytes cut or filled with zeros to n bytes. -/
def padTo (n : Nat) (l : List Byte) : List Byte := l.take n ++ List.replicate (n - l.length) 0

/-- Bytes of 32-bit words. -/
def wordBytes (l : List W32) : List Byte := l.flatMap fun w => beBytes 4 w.toNat

/-- n ones from bit lo. -/
def rangeMask (lo n : Nat) : Sources := ((1 <<< n) - 1) <<< lo

/-- One bit of a mask. -/
def srcBit (n : Nat) : Sources := 1 <<< n

/-- Bit of one local channel; 0 is IO01 (R188). -/
def chBit (i : Nat) : Chans := 1 <<< i

/-- The eight channels of group g, 0 for G01 (R319). -/
def groupMask (g : Nat) : Chans := 0xFF <<< (8 * g)

/-- Serial-number comparison of 32-bit numbers (R230). -/
def serialLt (a b : W32) : Bool := a ≠ b && (b - a).toNat < 2 ^ 31

/-- A counter has advanced by at least dMin and at most 2^dMax − 1 from the last one accepted (R464). -/
def counterIn (dMin dMax : Nat) (last counter : W16) : Bool :=
  dMin ≤ (counter - last).toNat && (counter - last).toNat ≤ 2 ^ dMax - 1

/-- One bit of the reflected CRC-32C. -/
def crc32Bit (c : W32) : W32 := if c.getLsbD 0 then (c >>> 1) ^^^ 0x82F63B78 else c >>> 1

def crc32Byte (c : W32) (b : Byte) : W32 := Nat.repeat crc32Bit 8 (c ^^^ b.setWidth 32)

/-- CRC-32C (R458). -/
def crc32c (l : List Byte) : W32 := l.foldl crc32Byte 0xFFFFFFFF ^^^ 0xFFFFFFFF

def crc64Bit (c : W64) : W64 := if c.getLsbD 63 then (c <<< 1) ^^^ 0x42F0E1EBA9EA3693 else c <<< 1

def crc64Byte (c : W64) (b : Byte) : W64 := Nat.repeat crc64Bit 8 (c ^^^ (b.setWidth 64 <<< 56))

/-- CRC-64/ECMA-182 from an initial value (R458). -/
def crc64 (init : W64) (l : List Byte) : W64 := l.foldl crc64Byte init

/-- Code 1: safety code 1, digests, static regions (R458). -/
def crc64a (l : List Byte) : W64 := crc64 0 l

/-- Code 2: safety code 2 (R458). -/
def crc64b (l : List Byte) : W64 := crc64 0xFFFFFFFFFFFFFFFF l

def crc16Bit (c : W16) : W16 := if c.getLsbD 15 then (c <<< 1) ^^^ 0x1021 else c <<< 1

def crc16Byte (c : W16) (b : Byte) : W16 := Nat.repeat crc16Bit 8 (c ^^^ (b.setWidth 16 <<< 8))

/-- CRC-16/CCITT from an initial value (R315, R458). -/
def crc16 (init : W16) (l : List Byte) : W16 := l.foldl crc16Byte init

def crc8Bit (c : Byte) : Byte := if c.getLsbD 7 then (c <<< 1) ^^^ 0x2F else c <<< 1

def crc8Byte (c b : Byte) : Byte := Nat.repeat crc8Bit 8 (c ^^^ b)

/-- The CRC of a cross-lane word, polynomial 0x2F, over its 32 data bits (R26). -/
def crc8 (w : W32) : Byte := (beBytes 4 w.toNat).foldl crc8Byte Config.crc8Init

/-- The nine bytes that every self-check runs on (R457). -/
def checkBytes : List Byte := [0x31, 0x32, 0x33, 0x34, 0x35, 0x36, 0x37, 0x38, 0x39]

/-- Every element that a predicate holds of, changed. -/
def updateWhere {α : Type} (p : α → Bool) (f : α → α) (l : List α) : List α :=
  l.map fun x => if p x then f x else x

/-- The value a list of keys and values holds for a key. -/
def lookupOr {β : Type} (l : List (Nat × β)) (k : Nat) (d : β) : β :=
  match l.find? fun x => x.1 = k with
  | some x => x.2
  | none => d

/-- A list of keys and values with the key's value set. -/
def setKey {β : Type} (l : List (Nat × β)) (k : Nat) (v : β) : List (Nat × β) :=
  (l.filter fun x => x.1 ≠ k) ++ [(k, v)]

/-- The value held by at least two of three (R57, R193). -/
def majority {α : Type} [DecidableEq α] (l : List α) : Option α :=
  l.find? fun x => 2 ≤ (l.filter fun y => y = x).length

/-- The earlier and the later of two sequence numbers (R230). -/
def serialMin (a b : W32) : W32 := if serialLt b a then b else a
def serialMax (a b : W32) : W32 := if serialLt a b then b else a

/-- The middle of three sequence numbers, the lower of two (R57, R230). -/
def serialMedian : List W32 → W32
  | [a, b, c] => serialMax (serialMin a b) (serialMin (serialMax a b) c)
  | [a, b] => serialMin a b
  | a :: _ => a
  | [] => 0

/-- The middle of three moves, the lesser in magnitude of two (R73). -/
def middleMove : List Int → Int
  | [a, b, c] => max (min a b) (min (max a b) c)
  | [a, b] => if b.natAbs < a.natAbs then b else a
  | a :: _ => a
  | [] => 0

/-- 32-bit words of bytes, the last filled with zeros. -/
def bytesWords : List Byte → List W32
  | a :: b :: c :: d :: r => BitVec.ofNat 32 (beNat [a, b, c, d]) :: bytesWords r
  | [] => []
  | l => [BitVec.ofNat 32 (beNat (padTo 4 l))]

/-- The middle of three numbers, the lower of two, the one of one (R56, R57). -/
def medianOrLower (l : List Nat) : Nat :=
  match l with
  | [a, b, c] => max (min a b) (min (max a b) c)
  | [a, b] => min a b
  | a :: _ => a
  | [] => 0

/-- The three words of a channel map (R188, R190). -/
def chanWords (c : Chans) : List W32 :=
  [BitVec.ofNat 32 c.toNat, BitVec.ofNat 32 (c.toNat / 2 ^ 32), BitVec.ofNat 32 (c.toNat / 2 ^ 64)]

end Sys2Proof.Machine
end

