-- ==== Sys2Proof/Machine/Keys.lean ====
section
/-! DEFINITION. What K computes of the keys of a session: tags (R213, R294), the transcript hash (R219, R298) and the two tag
keys derived from it (R220). The primitives are uninterpreted (log 6). -/

namespace Sys2Proof.Machine

/-- The bytes of a customisation string. -/
def ascii (t : String) : List Byte := t.toList.map fun c => BitVec.ofNat 8 c.toNat

/-- The KMAC256 tag of 128 bits over what a packet's tag covers (R213). -/
def tagOver (key : Hash) (covered : List Byte) : BitVec 128 :=
  BitVec.ofNat 128 (fieldAt (Config.kmac256 (beBytes 32 key.toNat) covered (ascii "NERNEL-TAG") 128) 0 16)

/-- The 512 bits of key material (R220). -/
def keyMaterial (secret : List Byte) (transcript : Hash) : List Byte :=
  Config.kmac256 secret (beBytes 32 transcript.toNat) (ascii "NERNEL-KDF") 512

/-- Tag key from partner to module: the first 256 bits (R220). -/
def keyToModule (secret : List Byte) (transcript : Hash) : Hash :=
  BitVec.ofNat 256 (fieldAt (keyMaterial secret transcript) 0 32)

/-- Tag key from module to partner: the next 256 bits (R220). -/
def keyToPartner (secret : List Byte) (transcript : Hash) : Hash :=
  BitVec.ofNat 256 (fieldAt (keyMaterial secret transcript) 32 32)

/-- Bytes of a message from an offset. -/
def slice (l : List Byte) (off n : Nat) : List Byte := (l.drop off).take n

end Sys2Proof.Machine
end

