-- ==== Sys2Proof/Machine/State.lean ====
section
/-! DEFINITION. The state of the module, as plain data, and the state after reset. Every field names
the rule that gives it; INVENTORY.md lists them with their reset values. -/

namespace Sys2Proof.Machine

/-- What would stop the model. No meaning raises it: a fault of the hardware is a Stop Bath source
(R369, R372), which is a next state. Safe. -/
inductive Fault where
  /-- Raised by no meaning. Safe. -/
  | none
  deriving DecidableEq, Repr

/-- Why a command has no meaning. -/
inductive Refusal where
  /-- The command's arm has no meaning yet. Raised by exec's refused arms only. Safe. -/
  | notModelled (mnemonic : String)
  deriving DecidableEq, Repr

/-- Lane states (R198). -/
inductive LanePhase where
  | down | loading | joining | resync | probation | voting | withdrawn | testing | barred
  deriving DecidableEq, Repr

/-- Module modes (R76). -/
inductive Mode where
  | stop | run | hold
  deriving DecidableEq, Repr

/-- Pair roles (R261, R346). -/
inductive Role3 where
  | unpaired | active | standby | ready
  deriving DecidableEq, Repr

/-- Lifecycle states (R261, R400). -/
inductive Lifecycle where
  | blank | provisioned | commissioning | service | maintenance | retired
  deriving DecidableEq, Repr

/-- Where the cycle stands (R49); `halted` is HOLD after Develop (R76), `release` waits for the release
of R244 in STOP. -/
inductive CyclePhase where
  | idle | expose | setWait | develop | mirror | rendezvous | waitThird | voteWait | release | done | halted
  deriving DecidableEq, Repr

/-- Where the supplies and the start stand (R476, R486, R487). -/
inductive PowerPhase where
  | off | charging | booting | joining | running | rideThrough | stopped | dead
  deriving DecidableEq, Repr

/-- States of a group (R335). -/
inductive GroupState where
  | normal | warning | sagged
  deriving DecidableEq, Repr

/-- States of a network die (R31, R32, R378). -/
inductive DieState where
  | down | up | inReset | outOfService
  deriving DecidableEq, Repr

/-- One partner's two newest valid telegrams as a lane has frozen them (R188). -/
structure FrozenPartner where
  sid : Nat
  node : Node
  t1 : Option (W32 × W32)
  t2 : Option (W32 × W32)
  deriving DecidableEq, Repr

/-- An INPUT_IMAGE (R188). -/
structure InputImage where
  cycle : W48 := 0
  time : Ticks := 0
  cut : W32 := 0
  values : Chans := 0
  invalid : Chans := 0
  partners : List FrozenPartner := []
  deriving DecidableEq, Repr

/-- A SET (R191): bit 0 lane A of `held`. -/
structure SetMsg where
  sender : Lane
  rendezvous : Bool
  held : BitVec 3
  deriving DecidableEq, Repr

/-- An OUTPUT_IMAGE (R190). -/
structure OutputImage where
  cycle : W48 := 0
  outputs : Chans := 0
  digest : W64 := 0
  telegram : W64 := 0
  mirror : W64 := 0
  lease : Bool := true
  ack : Bool := false
  unmirrored : Bool := false
  deriving DecidableEq, Repr

/-- What a lane counts minorities of (R58). -/
inductive InKey where
  | channel (i : Nat)
  | partner (sid : Nat)
  deriving DecidableEq, Repr

/-- A Densitometer counter (R468 to R473): mode 0 off, 1 threshold, 2 event number. -/
structure Counter where
  mode : Nat := 0
  chain : Bool := false
  ovf : Bool := false
  source : W16 := 0
  threshold : W32 := 0
  value : W48 := 0
  deriving DecidableEq, Repr

/-- The 128-bit context of a check-value engine (R459). -/
structure EngineCtx where
  running : W64 := 0xFFFFFFFF
  count : BitVec 25 := 0
  poly : BitVec 3 := 0
  mode : BitVec 2 := 0
  lastAlive : W16 := 0
  dMin : BitVec 1 := 1
  dMax : BitVec 4 := 1
  offset : BitVec 13 := 0
  deriving DecidableEq, Repr

/-- A job of a check-value engine: the context that the firmware writes for it, the bytes of its block, and in alive mode the
check that the block carries (R459, R460, R464). -/
structure EngineJob where
  ctx : EngineCtx := {}
  bytes : List Byte := []
  check : W64 := 0
  deriving DecidableEq, Repr

/-- A check-value engine: its one context, the job that it belongs to, and the jobs that wait, in the order issued (R460). -/
structure EngineUnit where
  ctx : EngineCtx := {}
  job : Option EngineJob := none
  waiting : List EngineJob := []
  deriving DecidableEq, Repr

/-- A lane's judgement of a group (R327, R335); voltages in 10 mV. -/
structure Group where
  state : GroupState := .normal
  low192 : Nat := 0
  low170 : Nat := 0
  busRun : Nat := 0
  busLow : Bool := false
  stuck : Bool := false
  feed : Nat := 0
  bus : Nat := 0
  goodSince : Option Time := none
  saggedAt : Option Time := none
  openedAt : Option Time := none
  deriving DecidableEq, Repr

/-- A lane's field crossing and its field board (R44, R322 to R327, R337 to R340). -/
structure Board where
  inCtr : Option W16 := none
  outCtr : W16 := 0
  boardCtr : Option W16 := none
  stale : Nat := 0
  status : Byte := 0
  raw : Chans := 0
  debounced : Chans := 0
  changing : List (Nat × Time) := []
  restarting : List (Nat × Time) := []
  switches : Chans := 0
  cutoffs : Groups := 0
  lastRx : Option Time := none
  cmdSwitches : Chans := 0
  cmdCutoffs : Groups := 0
  marks : Chans := 0
  high : Chans := 0
  changedAt : List (Nat × Time) := []
  groups : List Group := List.replicate 12 {}
  mismatch : List (Nat × Nat) := []
  lastDark : List (Nat × Time) := []
  deriving DecidableEq, Repr

/-- A lane's Stop Bath (R369 to R373, R380). `levels` holds the level each sticky bit's occurrence
reacted at. -/
structure StopBath where
  sticky : Sources := 0
  reporting : Sources := 0
  shadowed : Sources := 0
  levels : List (Nat × Nat) := []
  deriving DecidableEq, Repr

/-- A telegram held for the freeze (R295, R304): sequence, alive, echo, echo epoch, own epoch, STANDBY, CRC-32C of
its content, Fix cycle, slots; `faulty`: the lanes that find it faulty when they apply the checks again (R304). -/
structure HeldTelegram where
  seq : W32
  alive : W16
  echo : W32
  echoEpoch : W32
  ownEpoch : W32
  standby : Bool
  crc : W32
  fix : W32 := 0
  slots : List W32
  faulty : BitVec 3 := 0
  deriving DecidableEq, Repr

/-- Resynchronisation of a lane (R204): a boundary has passed since RESYNC began; the snapshot's cycle and words; how many of
them the source lanes have sent; the words in from each; a range asked for once more, and that it was; the newest delta from
each; a delta asked for once more. -/
structure Resync where
  ready : Bool := false
  snapped : Bool := false
  snapshot : W48 := 0
  words : List W32 := []
  sent : Nat := 0
  copies : List (Lane × List W32) := []
  asked : Option (Nat × Nat) := none
  askedOnce : Bool := false
  agreed : Bool := false
  deltaFrom : List (Lane × W48 × List W32) := []
  deltaAsked : Bool := false
  deriving DecidableEq, Repr

/-- A line in a cache of one core (R15, R19): which core and which of its two caches, its number, its words and their
parity. -/
structure CacheLine where
  shadow : Bool
  data : Bool
  number : Nat
  words : List W64
  parity : Bool
  deriving DecidableEq, Repr

/-- One lane (R15, R55 to R58, R198 to R206). `sram` are the words of its memory that a command has brought, by address,
with their check bits (R17), `scan` the next word that Slack reads (R18); `retired` the principal's retirement index at
its last asynchronous sample (R177, R179); `leaseAt` the lane's own count of the lease, the last renewal (R39); `torn` the
sessions whose images of this lane's telegrams came out otherwise at a network die (R29). -/
structure LaneRec where
  phase : LanePhase := .down
  pi : Byte := 0
  piMin : Byte := 0xFF
  piLow : Nat := 0
  cause : BitVec 9 := 0
  withdrawnAt : Option Time := none
  restarts : List Time := []
  tardyRun : Nat := 0
  tardyTotal : BitVec 24 := 0
  boundary : Time := 0
  reading : Ticks := 0
  frozen : InputImage := {}
  frozenTels : List (Nat × HeldTelegram) := []
  heldIn : List (Lane × InputImage) := []
  sets : List SetMsg := []
  passed : List (Lane × Bool) := []
  minority : List (InKey × Nat) := []
  devDone : Bool := false
  delta : W64 := 0
  arrived : Option Time := none
  image : Option OutputImage := none
  lateDue : Bool := false
  fwHash : Option Hash := none
  logicHash : Option Hash := none
  joined : Bool := false
  resync : Resync := {}
  enter : Bool := false
  matched : Nat := 0
  latent : List LatentEntry := []
  retired : W32 := 0
  sram : List (Nat × W64 × Byte) := []
  scan : Nat := 0
  caches : List CacheLine := []
  leaseAt : Option Time := none
  torn : List Nat := []
  engine1 : EngineUnit := {}
  engine2 : EngineUnit := {}
  refFirmware : Option W64 := none
  refLogic : Option W64 := none
  bath : StopBath := {}
  calls : Nat := 0
  counters : List Counter := List.replicate 32 {}
  board : Board := {}
  deriving DecidableEq, Repr

/-- A cross-lane channel (R27): a channel error in this cycle, the exchange in hand absent, cycles in a
row with an error, faulted. -/
structure ChanRec where
  error : Bool := false
  absent : Bool := false
  run : Nat := 0
  faulted : Bool := false
  deriving DecidableEq, Repr

/-- A port (R288 to R291, R503, R504). -/
structure PortRec where
  up : Bool := false
  outOfService : Bool := false
  refusedSfp : Bool := false
  discards : Nat := 0
  deriving DecidableEq, Repr

/-- Discovery on a field link (R297, R298, R301): `helloBytes` are the parts of the HELLO in hand, `helloSeq` the sequence
number of the last. -/
structure LinkRec where
  port : PortRec := {}
  downSince : Option Time := some 0
  quarantine : Option (Time × Byte) := none
  quarantineRecord : Option Time := none
  challenge : Option (Hash × Time) := none
  helloParts : Nat := 0
  helloBytes : List Byte := []
  helloSeq : W32 := 0
  helloSince : Option Time := none
  want : Bool := false
  deriving DecidableEq, Repr

/-- STATE of a session (R216); FREE is a session not in the list. -/
inductive SessState where
  | opening | opened | closing
  deriving DecidableEq, Repr

/-- A session record (R216, R217, R223 to R225, R303 to R308, R313). Its tag keys are in K (R35, R220): `keyIn` for what comes,
`keyOut` for what leaves. `lastSaid`: the last packet of the session has left (R266). -/
structure Session where
  sid : Nat
  pclass : BitVec 2
  gclass : BitVec 2
  state : SessState := .opening
  legacy : Bool := false
  tray : Nat := 15
  emerg : Bool := false
  port : Port := .s
  node : Node := 0
  missed : Nat := 0
  refused : W16 := 0
  endpoint : Nat := 0
  h : W32 := 0
  tx : W32 := 0
  aliveSeen : W16 := 0
  aliveIn : Time := 0
  alive : W16 := 0
  periodMs : Nat := 100
  ks : Nat := 3
  freshMs : Nat := 200
  badAuth : List Time := []
  sentThisPeriod : Time := 0
  closeDue : Bool := false
  lastSaid : Bool := false
  keyIn : Hash := 0
  keyOut : Hash := 0
  open4Due : Bool := false
  lost : Bool := false
  lostSince : Time := 0
  lastTelAlive : Option W16 := none
  telegrams : List HeldTelegram := []
  sentSeq : List (W48 × W32) := []
  lastQualified : Option W32 := none
  lastQualifiedAt : Time := 0
  maxOwn : W32 := 0
  telAlive : W16 := 0
  ptype : W16 := 0
  keyHash : Hash := 0
  fwHash : Hash := 0
  deriving DecidableEq, Repr

/-- An opening in progress (R219, R222, R297): `content` are the bytes of the message in hand, then `partnerKey` the key that
OPEN_1 has brought, `transcript` the transcript hash; `tray` and `emerg` as OPEN_2 has granted them; `freshMs` of the partner
entry; `sent` the packets that the module has sent in it. -/
structure Opening where
  sid : Nat
  node : Node
  pclass : BitVec 2
  gclass : BitVec 2
  port : Port
  endpoint : Nat
  since : Time
  parts : Nat
  step : Nat
  periodMs : Nat := 100
  legacy : Bool := false
  accepted : Bool := false
  h : W32 := 0
  sent : W32 := 0
  alive : W16 := 0
  tray : Nat := 0
  emerg : Bool := false
  freshMs : Nat := 200
  content : List Byte := []
  partnerKey : List Byte := []
  transcript : Hash := 0
  keyIn : Hash := 0
  keyOut : Hash := 0
  ptype : W16 := 0
  keyHash : Hash := 0
  fwHash : Hash := 0
  deriving DecidableEq, Repr

/-- An admitted command in its tray (R30, R226 to R230, R234). `op` 0 is a partner EVENT (R309), `node`
then its partner. `faulty`: the lanes that find it faulty (R30, R231). `done`: its time has passed, so it has no effect (R71). `left`: a cut has taken it and its Fix is past, so it
no longer occupies its tray (R228). -/
structure Entry where
  adm : W32
  op : W16
  payload : List Byte
  sid : Nat
  tray : Nat
  prio : Nat
  cmdSeq : W32
  arrived : Time
  limit : Option Time
  service : Bool
  cycle : Nat
  holdsOp : Bool
  node : Node := 0
  faulty : BitVec 3 := 0
  done : Bool := false
  left : Bool := false
  deriving DecidableEq, Repr

/-- An outcome or final notice waiting for a Fix (R235, R237); opcode 0 is an EVENT_REPLY. -/
structure Answer where
  sid : Nat
  op : W16
  cmdSeq : W32
  adm : W32
  status : Byte
  body : List Byte
  notice : Bool := false
  deriving DecidableEq, Repr

/-- What an outcome or notice reports on after its prefix (R241, R249, R253). -/
inductive ReportOn where
  | route (rid : BitVec 12)
  | object (oid : Nat)
  | body (b : List Byte)
  deriving DecidableEq, Repr

/-- An outcome of the cycle in hand, before its report is taken. -/
structure Outcome where
  sid : Nat
  op : W16
  cmdSeq : W32
  adm : W32
  status : Byte
  report : ReportOn
  det : List Byte
  notice : Bool := false
  deriving DecidableEq, Repr

/-- A subscription (R263). -/
structure Subscription where
  id : Nat
  sid : Nat
  selector : Byte
  everyN : Bool
  count : Nat
  first : W32
  n : Nat
  left : Nat
  last : List Byte := []
  deriving DecidableEq, Repr

/-- A Nernel packet sent by the module (R208 to R214). -/
structure Reply where
  port : Port
  endpoint : Nat
  legacy : Bool
  flags : Byte
  op : W16
  sid : Nat
  seq : W32
  deadline : W32
  stamp : W64
  alive : W16
  check : W32 := 0
  payload : List Byte
  epoch : W32
  fence : W32
  sc1 : Option W64 := none
  sc2 : Option W64 := none
  tag : Option (BitVec 128) := none
  deriving DecidableEq, Repr

/-- A field-variant message sent by the module (R292 to R298): CHALLENGE, WELCOME, TELEGRAM or EVENT_REPLY. -/
structure FieldSent where
  port : Port
  kind : Byte
  flags : Byte
  sid : Nat
  seq : W32
  echo : W32
  epoch : W32
  stamp : W64
  alive : W16
  content : List Byte
  check : W32 := 0
  sc1 : W64 := 0
  sc2 : Option W64 := none
  tag : Option (BitVec 128) := none
  deriving DecidableEq, Repr

/-- A mirror message sent by the module: the mirror ports that it leaves on, and its fragments (R348, R349). -/
structure MirrorSent where
  ports : List (Fin 2)
  seq : W32
  body : MirrorBody
  fragments : List (List Byte)
  deriving DecidableEq, Repr

/-- What leaves the module or one of its dies in a step (log 4). -/
inductive Out where
  | reply (r : Reply)
  | field (r : FieldSent)
  | mirror (m : MirrorSent)
  | laneWords (sender : Lane) (words : List W32)
  | askWord (ch : Chan)
  | frame (l : Lane) (f : OutFrame)
  | syncPulse
  | ppOut (on : Bool)
  | printOpen1 (e : Nat)
  | printOpen3 (e : Nat)
  | printPart (e : Nat) (seq : W32) (priority tray : Nat) (payload : List Byte)
  | printClose (e : Nat) (seq : W32)
  | resyncBulk (sender : Lane) (dest : Lane) (cycle : W48) (first : Nat) (words : List W32)
  | resyncDelta (sender : Lane) (dest : Lane) (cycle : W48) (words : List W32)
  | askRange (dest : Lane) (first count : Nat)
  deriving DecidableEq, Repr

/-- A Negative record (R390 to R392); `number` 0 while queued. -/
structure Record where
  number : W32 := 0
  kind : Byte
  level : Nat := 0
  source : W16 := 0xFFFF
  cls : Byte := 0
  lanes : BitVec 3 := 0
  escalated : Bool := false
  during : Bool := false
  injected : Bool := false
  pinned : Bool := false
  unsigned : Bool := false
  modes : Byte := 0
  cycle : W48 := 0
  suppressed : W16 := 0
  ptp : Option W64 := none
  epoch : W32 := 0
  prevHash : Hash := 0
  pinnedHash : Hash := 0
  detail : List Byte := []
  lifecycle : Byte := 0
  role : Byte := 0
  serial : W32 := 0
  deriving DecidableEq, Repr

/-- One Negative bank: the pinned area and the ring, oldest first (R388); `torn`: numbers of the records whose check fails
in this bank (R271, R390). -/
structure Bank where
  pinned : List Record := []
  ring : List Record := []
  torn : List W32 := []
  deriving DecidableEq, Repr

/-- REPEAT bookkeeping of a source (R391, R393). -/
structure Repeat where
  source : Nat
  count : Nat
  cycle : W48
  written : Option Time
  deriving DecidableEq, Repr

/-- The Negative and the scribe's queue (R388 to R396). `reasons`: the reasons of R418 for which a signature of the
chain head is due, oldest first. -/
structure Negative where
  bank1 : Bank := {}
  bank2 : Bank := {}
  next : W32 := 1
  head : Hash := 0
  headNumber : W32 := 0
  pinnedHead : Hash := 0
  suppressed : W16 := 0
  tokens : Nat := 1024
  refill : Time := 0
  queue : List Record := []
  sinceSigned : Nat := 0
  reasons : List Byte := []
  blocks : List (W32 × Hash) := []
  repeats : List Repeat := []
  closed : Bool := false
  deriving DecidableEq, Repr

/-- A holder on the owner roster (R407, R414). -/
structure Holder where
  index : Nat
  role : Byte
  key : List Byte
  deriving DecidableEq, Repr

/-- A partner entry of the seal (R217, R411). -/
structure PartnerEntry where
  node : Node
  pclass : BitVec 2
  classes : BitVec 4
  tray : Nat
  emerg : Bool
  ks : Nat
  freshMs : Nat
  keyHash : Hash
  deriving DecidableEq, Repr

/-- A host port entry (R413), its data bytes as written. -/
structure HostPort where
  port : Nat
  data : List Byte
  deriving DecidableEq, Repr

/-- The seal configuration (R407). -/
structure Seal where
  roster : List Holder := []
  partners : List PartnerEntry := []
  hostPorts : List HostPort := []
  ptpDomain : Nat := 0
  downstream : List (Node × Nat) := []
  ownerLock : Bool := false
  autoRun : Bool := false
  lifecycle : Lifecycle := .provisioned
  generation : W32 := 0
  deriving DecidableEq, Repr

/-- The open proposal (R279 to R282, R415, R416). -/
structure Proposal where
  id : W32
  nonce : Hash
  lifecycleChange : Bool
  sid : Nat
  openedAt : Time
  parts : Nat := 0
  count : Nat := 0
  stream : List Byte := []
  complete : Option Time := none
  proposer : Nat := 0
  proposerRole : Byte := 0
  target : Option Lifecycle := none
  apParts : Nat := 0
  apStream : List Byte := []
  deriving DecidableEq, Repr

/-- A change that the first boundary after its DONE applies (R281, R402, R416). `said`: the DONE has left. -/
structure SealChange where
  new : Seal
  lifecycleChange : Bool
  portsChanged : List Nat
  said : Bool := false
  deriving DecidableEq, Repr

/-- States of a firmware slot (R425). -/
inductive SlotState where
  | empty | loading | verified | rejected | committed | trial
  deriving DecidableEq, Repr

/-- A firmware slot (R425, R428, R429). `bytes`: what UPDATE_OFFER has brought, countersignature block included (R421, R423);
`holder`: the session whose transfer holds an operation in flight (R229). -/
structure Slot where
  state : SlotState := .empty
  held : Nat := 0
  transfer : Nat := 0
  lastPart : List Byte := []
  lastAt : Time := 0
  bytes : List Byte := []
  image : Option FwImage := none
  verifying : Option Entry := none
  holder : Nat := 0
  deriving DecidableEq, Repr

/-- The boot record (R426). -/
structure Boot where
  generation : W32 := 0
  committed : Bool := false
  trial : Option Bool := none
  starts : Nat := 0
  conversionFailed : Bool := false
  fallback : Bool := false
  committedHash : Hash := Config.factoryFirmwareHash
  trialHash : Hash := 0
  secFloor : Nat := 0
  keyFloor : Nat := 0
  activation : Option (W64 × Hash) := none
  bootCount : W32 := 0
  storeRead : Bool := false
  storeTrial : Bool := false
  printing : BitVec 4 := 0
  deriving DecidableEq, Repr

/-- States of a logic bank (R166, R260). -/
inductive BankState where
  | empty | loading | verified | rejected | active
  deriving DecidableEq, Repr

/-- A logic bank (R166, R260). `bytes`: the image as LOGIC_LOAD has brought it, header and signature block included (R144);
`holder`: the session whose transfer holds an operation in flight (R229). -/
structure LogicBank where
  state : BankState := .empty
  image : Image := {}
  bytes : List Byte := []
  held : Nat := 0
  length : Nat := 0
  signer : Nat := 0
  verifying : Option Entry := none
  holder : Nat := 0
  deriving DecidableEq, Repr

/-- What both settings stores hold (R41, R167, R285). -/
structure Settings where
  cycle : CycleSettings := {}
  pair : PairSettings := {}
  activeBank : Bool := false
  activeHash : Hash := 0
  deriving DecidableEq, Repr

/-- A Test Strip run (R446 to R455): target 1 lane, 2 field group, 3 network die. `cycle` is the cycle to
which the command is charged, `sliceEnd` the end of the slice in hand, `found` the first source that the
run found. -/
structure TestRun where
  target : Nat
  index : Nat
  sid : Nat
  adm : W32
  cmdSeq : W32
  cycle : Nat
  taken : Nat := 0
  started : Bool := false
  begun : Time := 0
  sliceEnd : Time := 0
  found : Option Nat := none
  deriving DecidableEq, Repr

/-- Printing to a downstream entry (R430 to R432). Phase 0 none, 1 OPEN_1 sent, 2 OPEN_3 sent,
3 sending parts. `seq`: the sequence number of the last packet sent in its session. -/
structure Printing where
  phase : Nat := 0
  seq : W32 := 0
  sid : Nat := 0
  tray : Nat := 0
  next : Nat := 0
  unanswered : Nat := 0
  again : List Nat := []
  begun : Time := 0
  lastTry : Time := 0
  recordAt : Option Time := none
  deriving DecidableEq, Repr

/-- HOLD (R77, R78, R267). -/
structure HoldRec where
  since : Time := 0
  forceSafe : Bool := false
  owed : Option Answer := none
  stepOwed : List Answer := []
  stepping : Bool := false
  resume : List Answer := []
  deriving DecidableEq, Repr

/-- The result of the cycle in hand (R50): what a Fix commits and releases. `outs` are outcomes whose reports are taken
from the state that the Fix commits (R249, R253), `answers` others; `ran`: Develop has run in this module; `preview`: the
replies of the Fix as the lanes foresee them for the telegram digest (R190). -/
structure DevResult where
  rail : Rail
  outs : List Outcome := []
  answers : List Answer := []
  taken : List W32
  outputs : Chans
  ran : Bool := false
  preview : List Answer := []
  deriving DecidableEq, Repr

/-- The consensus image (R57). -/
structure Consensus where
  values : Chans := 0
  invalid : Chans := 0
  cut : W32 := 0
  time : Ticks := 0
  telegrams : List (Nat × Option HeldTelegram) := []
  deriving DecidableEq, Repr

/-- The lease and the guard (R39, R354, R355, R361). `sent`: a DELTA or RENEW has left in this cycle;
`atStart`: the guard comes from the acquisition at start (R366); `guardDue`: a guard that waits for the
next boundary only; `guardCycle` the guard cycle; `giveUp`: an essential supply was lost (R357). -/
structure Lease where
  renewed : Option Time := none
  acked : Bool := false
  lastAck : Option Time := none
  guard : Bool := false
  released : Option W48 := none
  releaseSeen : Bool := false
  handover : Option Entry := none
  handoverAnswer : Option Bool := none
  handed : Bool := false
  giveUp : Bool := false
  sent : Bool := false
  atStart : Bool := false
  guardDue : Bool := false
  guardCycle : W48 := 0
  deriving DecidableEq, Repr

/-- What the holder's BULK reports of its settings and image (R363, R365). -/
structure HolderReport where
  cycle : CycleSettings
  pair : PairSettings
  channels : List ChEntry
  logic : Hash
  deriving DecidableEq, Repr

/-- What a module keeps of the mirror (R352, R353, R363 to R367). `other` and `otherPending` are the
mirrored state under the holder's image while the images differ (R175); `heard` and `heardWins` serve the
listening at start (R366); `silent`: the listening ended without a partner; `holderCycle`: the holder's cycle that
the next boundary follows (R352). -/
structure Mirror where
  committed : Option W48 := none
  pendingCycle : Option W48 := none
  pendingRail : Option Rail := none
  pendingOut : Chans := 0
  lastOut : Chans := 0
  run : Nat := 0
  wantBulk : Bool := false
  bulkSince : Option W48 := none
  held : List (MirrorHdr × DeltaBody) := []
  mismatches : List Time := []
  stopped : Bool := false
  differs : Bool := false
  other : Option Rail := none
  otherPending : Option Rail := none
  missed : List (Node × Nat) := []
  rxSeq : List W32 := []
  heardHolder : Bool := false
  heardWins : Option Bool := none
  silent : Bool := false
  holder : Option HolderReport := none
  partnerReady : Bool := false
  holderCycle : Option W48 := none
  ownPosition : Bool := false
  ownPositionNow : Bool := false
  bulkAsked : Bool := false
  deriving DecidableEq, Repr

/-- Following a reference (R72 to R75, R507). -/
structure Sync where
  missed : Nat := 0
  seen : Bool := false
  outOfWindow : W32 := 0
  lost : Bool := false
  adjust : Int := 0
  lastEdge : Option Time := none
  aligned : Bool := false
  deriving DecidableEq, Repr

/-- PTP (R317, R318). -/
structure Ptp where
  valid : Bool := false
  good : Nat := 0
  masters : List (Nat × Nat) := []
  selected : Option Nat := none
  base : W64 := 0
  baseAt : Time := 0
  unchecked : Bool := false
  deriving DecidableEq, Repr

/-- Supplies and hold-up (R38, R477, R485 to R489, R493). `within` is the instant since which the supplies have been within
limits (R37). -/
structure Power where
  within : Option Time := none
  phase : PowerPhase := .off
  feedA : Bool := false
  feedB : Bool := false
  feedLow : Bool := false
  lastLost : Feed := .a
  charge : Nat := 0
  lowSupply : Bool := true
  lossAt : Option Time := none
  loadedAt : Option Time := none
  deriving DecidableEq, Repr

/-- An armed injection (R275, R387). -/
structure Injection where
  source : Nat
  lane : Byte
  left : Nat
  at_ : Time
  deriving DecidableEq, Repr

/-- Safelight and LOCKOUT (R373, R382 to R385). -/
structure Safelight where
  on : Bool := false
  since : Time := 0
  cycle : W48 := 0
  source : Nat := 0x070
  lockout : Bool := false
  deriving DecidableEq, Repr

/-- The Lamp epoch and persistent counters region (R41, R385). -/
structure Persistent where
  epoch : W32 := 0
  lockout : Bool := false
  lockoutBoot : W32 := 0
  lockoutSource : Nat := 0
  deriving DecidableEq, Repr

/-- The supervisor V: supplies, straps, clock connectors (R37 to R40, R476 to R488, R499, R500). -/
structure Supervisor where
  power : Power := {}
  strap : BitVec 2 := 0
  ppIn : Bool := false
  ppOut : Bool := false
  sync : Sync := {}
  ptp : Ptp := {}
  deriving DecidableEq, Repr

/-- The other dies, block resets and the archive regions found bad (R31 to R36, R41, R42, R378). `bootUnread`: K has found
one copy of the boot record unreadable at this start (R427). -/
structure Dies where
  mUp : Bool := false
  bootUnread : Bool := false
  kUp : Bool := false
  kFaulted : Bool := false
  die1 : DieState := .down
  die2 : DieState := .down
  resets : List (Block × Time) := []
  resetHistory : List (Block × Time) := []
  archiveBad : List (Nat × Nat) := []
  deriving DecidableEq, Repr

/-- The cycle and the mode (R49 to R78). `fenceEpoch` and `fenceCycle`: the fence block of the last Fix (R210); `telFix`:
the Fix cycle of the telegrams made last (R295); `voteAt`: the vote instant that the SETs wait on, and `counted`:
the tardiness of the third lane was counted before it (R64, R192); `armed`: an injection stood
armed at the start of the cycle (R245, R275); `ready`: the settings were readable then (R245, R482); `devJudged`: the Develop
deadline has been counted (R471); `fixedInRun`: a Fix has been reached since RUN was entered (R484). -/
structure CycleRec where
  mode : Mode := .stop
  modeDue : Option Mode := none
  hold : Option HoldRec := none
  cycle : W48 := 0
  phase : CyclePhase := .idle
  settings : Settings := {}
  cycleDue : Option CycleSettings := none
  pairDue : Option PairSettings := none
  settingsOk : Bool := true
  defaultsNeed : BitVec 2 := 0
  cons : Consensus := {}
  usedSet : BitVec 3 := 0
  voteAt : Time := 0
  counted : Bool := false
  devJudged : Bool := false
  fixedInRun : Bool := false
  dev : Option DevResult := none
  skips : Nat := 0
  skipTotal : W32 := 0
  unmirrored : Bool := false
  unmirroredTotal : W16 := 0
  outputs : Chans := 0
  fenceCycle : W32 := 0
  fenceEpoch : W32 := 0
  armed : Bool := false
  ready : Bool := true
  telFix : W32 := 0
  lastFix : W48 := 0
  start : Time := 0
  visit : BitVec 3 := 0
  autoTried : Bool := false
  voted : Option OutputImage := none
  deriving DecidableEq, Repr

/-- What the Dark Pulse and the field supervision keep for the module (R330 to R332, R341). -/
structure FieldRec where
  pulseLast : Nat := 95
  pulsePair : List (Nat × Nat) := []
  prevOutputs : Chans := 0
  pulseFrom : Option Time := none
  fieldFault : Bool := false
  deriving DecidableEq, Repr

/-- Ports, sessions, trays and admission (07, 09). `lostNodes`: partners declared lost whose session has
closed since (R307, R308). -/
structure Net where
  sessions : List Session := []
  openings : List Opening := []
  links : List LinkRec := List.replicate 48 {}
  hostPorts : List PortRec := List.replicate 4 {}
  mirrorPorts : List PortRec := List.replicate 2 {}
  servicePort : PortRec := {}
  entries : List Entry := []
  nextAdm : W32 := 1
  answers : List Answer := []
  charges : List (Nat × Nat × Nat × Nat) := []
  subs : List Subscription := []
  lastTels : List (Nat × FieldSent) := []
  lostNodes : List Node := []
  deriving DecidableEq, Repr

/-- The two logic banks (R166 to R170). -/
structure Logic where
  bank0 : LogicBank := {}
  bank1 : LogicBank := {}
  activeBank : Bool := false
  exchangeDue : Bool := false
  deriving DecidableEq, Repr

/-- The regions of the archive that are one value each, in their two copies (R41): settings stores, seal configuration, boot
record, Lamp epoch and persistent counters. The Negative, the firmware slots and the logic banks are held in two banks
or slots of their own. -/
structure Archive where
  settings1 : Settings := {}
  settings2 : Settings := {}
  seal1 : Seal := {}
  seal2 : Seal := {}
  boot1 : Boot := {}
  boot2 : Boot := {}
  lamp1 : Persistent := {}
  lamp2 : Persistent := {}
  deriving DecidableEq, Repr

/-- The pair (R345 to R368). `txMirror`: the sequence number of the last mirror message sent (R349). -/
structure PairRec where
  role : Role3 := .unpaired
  epochKnown : W32 := 0
  epochOwn : W32 := 0
  epochPartner : W32 := 0
  txMirror : W32 := 0
  takeover : W48 := 0
  lease : Lease := {}
  mirror : Mirror := {}
  listenSince : Option Time := none
  roleSettled : Bool := false
  ranOnce : Bool := false
  deriving DecidableEq, Repr

/-- Safelight, LOCKOUT, the persistent region and an armed injection (R373, R382 to R387). -/
structure Faults where
  safelight : Safelight := {}
  persistent : Persistent := {}
  injection : Option Injection := none
  deriving DecidableEq, Repr

/-- Seal, proposal and the change due (R400 to R417). `erased`: K has erased the identity private key and every tag key
(R404). -/
structure Trust where
  cfg : Seal := {}
  erased : Bool := false
  proposal : Option Proposal := none
  due : Option SealChange := none
  deriving DecidableEq, Repr

/-- Firmware slots, boot record, activation and printing (R421 to R445). -/
structure Update where
  boot : Boot := {}
  slot0 : Slot := { state := .committed }
  slot1 : Slot := {}
  running : Bool := false
  onTrial : Bool := false
  converted : Bool := false
  conversionFailedAt : Option Time := none
  healthy : Nat := 0
  deferred : Bool := false
  unjudged : Bool := false
  print0 : Printing := {}
  print1 : Printing := {}
  deriving DecidableEq, Repr

/-- The state of the module. -/
structure State where
  pending : List Instr := []
  now : Time := 0
  outbox : List Out := []
  freeCtr : Nat := 0
  v : Supervisor := {}
  dies : Dies := {}
  m : Archive := {}
  laneA : LaneRec := {}
  laneB : LaneRec := {}
  laneC : LaneRec := {}
  chanAB : ChanRec := {}
  chanBC : ChanRec := {}
  chanCA : ChanRec := {}
  cyc : CycleRec := {}
  rail : Rail := {}
  fio : FieldRec := {}
  net : Net := {}
  logic : Logic := {}
  pair : PairRec := {}
  flt : Faults := {}
  neg : Negative := {}
  trust : Trust := {}
  upd : Update := {}
  test : Option TestRun := none
  deriving DecidableEq, Repr

/-- The module as delivered, without power: R407 and the launch profile (R8) in the archive, nothing
started (log 9). Values the manual does not state are zero (log 8). -/
def State.reset : State := {}

end Sys2Proof.Machine
end

