-- ==== Sys2Proof/Machine/Ops.lean ====
section
/-! DEFINITION. Named access to State: lanes, channels, ports, banks, instants, what leaves the
module, free values, and the records of the Negative (R388 to R396). -/

namespace Sys2Proof.Machine

/-- Every step begins here: time never runs back, and the outbox holds what this step sends (log 1,
log 4). -/
def State.begin (s : State) (t : Time) : State := { s with now := max s.now t, outbox := [] }

/-- A packet, message or signal leaves. -/
def State.emit (s : State) (o : Out) : State := { s with outbox := s.outbox ++ [o] }

def State.emitAll (s : State) (l : List Out) : State := { s with outbox := s.outbox ++ l }

/-- A free 256-bit value of K's entropy source (log 7). -/
def State.draw (s : State) : Hash × State :=
  (Config.entropy s.freeCtr, { s with freeCtr := s.freeCtr + 1 })

/-! Lanes and channels -/

def State.lane (s : State) : Lane → LaneRec
  | .a => s.laneA
  | .b => s.laneB
  | .c => s.laneC

def State.setLane (s : State) (l : Lane) (r : LaneRec) : State :=
  match l with
  | .a => { s with laneA := r }
  | .b => { s with laneB := r }
  | .c => { s with laneC := r }

def State.modLane (s : State) (l : Lane) (f : LaneRec → LaneRec) : State := s.setLane l (f (s.lane l))

def State.modLanes (s : State) (f : Lane → LaneRec → LaneRec) : State :=
  { s with laneA := f .a s.laneA, laneB := f .b s.laneB, laneC := f .c s.laneC }

def State.chan (s : State) : Chan → ChanRec
  | .ab => s.chanAB
  | .bc => s.chanBC
  | .ca => s.chanCA

def State.modChan (s : State) (c : Chan) (f : ChanRec → ChanRec) : State :=
  match c with
  | .ab => { s with chanAB := f s.chanAB }
  | .bc => { s with chanBC := f s.chanBC }
  | .ca => { s with chanCA := f s.chanCA }

/-- The channel that joins two lanes (R26). -/
def Chan.between : Lane → Lane → Chan
  | .a, .c => .ca
  | .c, .a => .ca
  | .a, .b => .ab
  | .b, .a => .ab
  | .b, .c => .bc
  | .c, .b => .bc
  | .a, .a => .ab
  | .b, .b => .bc
  | .c, .c => .ca

/-- The two channels of a lane (R15). -/
def Lane.chans : Lane → List Chan
  | .a => [.ab, .ca]
  | .b => [.ab, .bc]
  | .c => [.bc, .ca]

/-- The lane withdrawn for a faulted channel (R27). -/
def Chan.victim : Chan → Lane
  | .ab => .b
  | .bc => .c
  | .ca => .a

/-- Number of a channel in the source table: XL-AB, XL-BC, XL-CA (R376). -/
def Chan.idx : Chan → Nat
  | .ab => 0
  | .bc => 1
  | .ca => 2

def Chan.all : List Chan := [.ab, .bc, .ca]

def State.isVoting (s : State) (l : Lane) : Bool := (s.lane l).phase = .voting

/-- The lanes in VOTING (R198), in ascending order. -/
def State.voting (s : State) : List Lane := Lane.all.filter s.isVoting

def State.votes (s : State) : Nat := s.voting.length

/-- Vote mode code of R200. -/
def State.voteMode (s : State) : Nat := if s.votes < 2 then 0 else s.votes

/-- A set of lanes as a mask, bit 0 lane A. -/
def laneMask (l : List Lane) : BitVec 3 := l.foldl (fun m x => m ||| (1 <<< x.idx)) 0

def laneIn (m : BitVec 3) (l : Lane) : Bool := m.getLsbD l.idx

/-- The lanes of a mask. -/
def lanesOf (m : BitVec 3) : List Lane := Lane.all.filter (laneIn m)

/-- The scribe (R389): the lowest lane in VOTING, else the lowest lane that is not DOWN. -/
def State.scribe (s : State) : Option Lane :=
  match s.voting with
  | l :: _ => some l
  | [] => Lane.all.find? fun l => (s.lane l).phase ≠ .down

/-! The principal's samples (R47, R177 to R179) -/

/-- The principal samples an asynchronous input and writes it to the Latent Buffer under its retirement index, counted in
samples (DESIGN CHOICE, log 130). By then the shadow, 4 instructions behind, has consumed and freed what was sampled 5 or more
before; with all 8 entries occupied the principal waits for the oldest. -/
def sampleInput (v : W64) (r : LaneRec) : LaneRec :=
  let i := r.retired + 1
  let kept := r.latent.filter fun e => (i - e.index).toNat ≤ 4
  let kept := if 8 ≤ kept.length then kept.drop (kept.length - 7) else kept
  { r with retired := i, latent := kept ++ [{ value := v, index := i, check := Config.latentCheck v i }] }

/-! Ports and dies -/

/-- The network die that carries a port (R13). -/
def portDie : Port → Die
  | .f i => if i.val < 24 then .n1 else .n2
  | .h i => if i.val < 2 then .n1 else .n2
  | .m i => if i.val = 0 then .n1 else .n2
  | .s => .n1

/-- PORT code of R216; the mirror ports have none there. -/
def portCode : Port → Nat
  | .f i => i.val
  | .h i => 0x30 + i.val
  | .m i => 0x34 + i.val
  | .s => 0x3F

def State.dieUp (s : State) : Die → Bool
  | .n1 => s.dies.die1 = .up
  | .n2 => s.dies.die2 = .up

/-- A network die is lost (R31). -/
def State.dieOut (s : State) : Die → Bool
  | .n1 => s.dies.die1 = .outOfService
  | .n2 => s.dies.die2 = .outOfService

def State.setDie (s : State) (d : Die) (x : DieState) : State :=
  match d with
  | .n1 => { s with dies.die1 := x }
  | .n2 => { s with dies.die2 := x }

def modifyNth {α : Type} (l : List α) (i : Nat) (f : α → α) : List α :=
  match l, i with
  | [], _ => []
  | a :: r, 0 => f a :: r
  | a :: r, i + 1 => a :: modifyNth r i f

def State.link (s : State) (i : Nat) : LinkRec := (s.net.links[i]?).getD {}

def State.modLink (s : State) (i : Nat) (f : LinkRec → LinkRec) : State :=
  { s with net.links := modifyNth s.net.links i f }

def State.port (s : State) : Port → PortRec
  | .f i => (s.link i.val).port
  | .h i => (s.net.hostPorts[i.val]?).getD {}
  | .m i => (s.net.mirrorPorts[i.val]?).getD {}
  | .s => s.net.servicePort

def State.modPort (s : State) (p : Port) (f : PortRec → PortRec) : State :=
  match p with
  | .f i => s.modLink i.val fun k => { k with port := f k.port }
  | .h i => { s with net.hostPorts := modifyNth s.net.hostPorts i.val f }
  | .m i => { s with net.mirrorPorts := modifyNth s.net.mirrorPorts i.val f }
  | .s => { s with net.servicePort := f s.net.servicePort }

/-- A slice of a Test Strip run on a network die lasts (R453). -/
def State.dieInSlice (s : State) (d : Die) : Bool :=
  match s.test with
  | some r => r.target = 3 && r.index = (if d = .n1 then 1 else 2) && s.now < r.sliceEnd
  | none => false

/-- In BLANK no port answers; port S is live in COMMISSIONING and MAINTENANCE only (R400). -/
def State.portLive (s : State) (p : Port) : Bool :=
  s.trust.cfg.lifecycle ≠ .blank &&
    (p ≠ .s || s.trust.cfg.lifecycle = .commissioning || s.trust.cfg.lifecycle = .maintenance)

/-- A port carries traffic: it is live, its die is up, it has link and it is not taken out of service. -/
def State.portUsable (s : State) (p : Port) : Bool :=
  s.portLive p && s.dieUp (portDie p) && (s.port p).up && !(s.port p).outOfService && !s.dieInSlice (portDie p)

/-- Two lanes can seal a mirror message and a mirror port carries it (R348, R349). -/
def State.mirrorUp (s : State) : Bool := 2 ≤ s.votes && (s.portUsable (.m 0) || s.portUsable (.m 1))

/-- A frame on a port that carries nothing: during a slice it is discarded and counted (R453). -/
def State.lose (s : State) (p : Port) : State :=
  if s.dieInSlice (portDie p) then s.modPort p fun x => { x with discards := x.discards + 1 } else s

/-- A cause to close a session (R225): the close takes effect at the next boundary. -/
def Session.close (x : Session) : Session := { x with closeDue := true, state := .closing }

/-! Switches and cut-offs -/

/-- The lane commands its switches of some channels off; the value in force has changed for those that
were on (R326, R329). -/
def Board.switchOff (b : Board) (m : Chans) (now : Time) : Board :=
  let gone := (List.range 96).filter fun i => b.cmdSwitches.getLsbD i && m.getLsbD i
  { b with cmdSwitches := b.cmdSwitches &&& ~~~m, changedAt := gone.foldl (fun l i => setKey l i now) b.changedAt }

/-- The lane commands the cut-offs of some groups open (R327). -/
def Board.openCutoffs (b : Board) (m : Groups) (now : Time) : Board :=
  { b with
    cmdCutoffs := b.cmdCutoffs &&& ~~~m
    groups := b.groups.zipIdx.map fun x =>
      if b.cmdCutoffs.getLsbD x.2 && m.getLsbD x.2 then { x.1 with openedAt := some now, busRun := 0 } else x.1 }

/-- Every switch and every cut-off commanded off (R373). -/
def Board.quench (b : Board) (now : Time) : Board := (b.switchOff (~~~0) now).openCutoffs (~~~0) now

/-- Every lane commands all of its switches and cut-offs off. -/
def State.darken (s : State) : State := s.modLanes fun _ r => { r with board := r.board.quench s.now }

/-! Images, settings and instants -/

def State.bank (s : State) (b : Bool) : LogicBank := if b then s.logic.bank1 else s.logic.bank0

def State.setBank (s : State) (b : Bool) (x : LogicBank) : State :=
  if b then { s with logic.bank1 := x } else { s with logic.bank0 := x }

/-- The active image, where a bank is ACTIVE (R166). -/
def State.image? (s : State) : Option Image :=
  let b := s.bank s.logic.activeBank
  if b.state = .active then some b.image else none

/-- The active image, or one that declares nothing. -/
def State.image (s : State) : Image := s.image?.getD {}

def State.cs (s : State) : CycleSettings := s.cyc.settings.cycle
def State.ps (s : State) : PairSettings := s.cyc.settings.pair

/-- Nanoseconds of a number of milliseconds. -/
def ms (n : Nat) : Time := n * 1000000

/-- The cycle period in ns (R52). -/
def State.periodNs (s : State) : Time := ms s.cs.p

/-- Phase budgets of an image in ns, the half ns of an odd number of literals as a whole one (R60). -/
def budgetE (h : ImgHeader) : Time := 1000000 + 50 * h.nObjects
def budgetD (h : ImgHeader) : Time := 2000000 + (h.nLiterals + 1) / 2 + 2 * h.nTerms + 250 * h.nObjects
def budgetB (h : ImgHeader) : Time := 400000 + 90 * h.nObjects

/-- E of the active image, 1.0 ms without one (R244). -/
def State.exposeNs (s : State) : Time :=
  match s.image? with
  | some i => budgetE i.hdr
  | none => 1000000

/-- A deadline given in hundredths of P, in ns after the boundary (R52). -/
def deadlineNs (c : CycleSettings) (hundredths : Nat) : Time := ms c.p * hundredths / 100

/-- The rendezvous window W = min(P/10, 5 ms) (R54). -/
def State.windowNs (s : State) : Time := min (s.periodNs / 10) (ms 5)

/-- Whether an image fits cycle settings (R60). -/
def fits (h : ImgHeader) (c : CycleSettings) (paired : Bool) : Bool :=
  budgetE h + budgetD h ≤ deadlineNs c c.develop &&
  (!paired || budgetE h + budgetD h + budgetB h ≤ deadlineNs c c.mirror)

/-- The supplies have been within limits for 1 ms (R37). -/
def State.suppliesGood (s : State) : Bool := s.v.power.within.elim false fun t => t + 1000000 ≤ s.now

/-- In paired use (R345). -/
def State.paired (s : State) : Bool := s.v.strap = 1 || s.v.strap = 2

/-- Holds the Lamp: ACTIVE, or unpaired by its straps (R345, R346, R368). -/
def State.holdsLamp (s : State) : Bool :=
  s.pair.role = .active || (s.pair.role = .unpaired && s.v.strap = 0 && s.pair.epochOwn ≠ 0)

/-- PTP time in ns, while the module holds valid PTP time (R318). -/
def State.ptpTime (s : State) : Option W64 :=
  if s.v.ptp.valid then some (s.v.ptp.base + BitVec.ofNat 64 (s.now - s.v.ptp.baseAt)) else none

/-- The sender's time in a packet of the module (R208, R292): PTP time; without it the value is open (log 134). -/
def State.stamp (s : State) : W64 := s.ptpTime.getD (Config.stampWithoutPtp s.now)

/-- The epoch of a packet's fence block: the highest known, and at the holder its own (R210, R303). -/
def State.ownEpoch (s : State) : W32 := if s.pair.role = .active then s.pair.epochOwn else s.pair.epochKnown

/-- Boundary that ends the cycle in hand: start + P, moved by R73 or R75. -/
def State.nextBoundary (s : State) : Time :=
  (((s.cyc.start + s.periodNs : Nat) : Int) + s.v.sync.adjust).toNat

/-! Codes of R76, R261 -/

def Mode.code : Mode → Nat
  | .stop => 0
  | .run => 1
  | .hold => 2

def Role3.code : Role3 → Nat
  | .unpaired => 0
  | .active => 1
  | .standby => 2
  | .ready => 3

def Lifecycle.code : Lifecycle → Nat
  | .blank => 0
  | .provisioned => 1
  | .commissioning => 2
  | .service => 3
  | .maintenance => 4
  | .retired => 5

def Lifecycle.ofCode : Nat → Option Lifecycle
  | 0 => some .blank
  | 1 => some .provisioned
  | 2 => some .commissioning
  | 3 => some .service
  | 4 => some .maintenance
  | 5 => some .retired
  | _ => none

def LanePhase.code : LanePhase → Nat
  | .down => 0
  | .loading => 1
  | .joining => 2
  | .resync => 3
  | .probation => 4
  | .voting => 5
  | .withdrawn => 6
  | .testing => 7
  | .barred => 8

def BankState.code : BankState → Nat
  | .empty => 0
  | .loading => 1
  | .verified => 2
  | .rejected => 3
  | .active => 4

/-- K works: it is up and has no detected fault (R36). -/
def State.kWorks (s : State) : Bool := s.dies.kUp && !s.dies.kFaulted

/-- The lanes count the lease from an instant (R39). -/
def State.countLease (s : State) (t : Time) : State := s.modLanes fun _ r => { r with leaseAt := some t }

/-- A lane's own count of the lease is valid (R39). -/
def State.laneLease (s : State) (l : Lane) : Bool :=
  match (s.lane l).leaseAt with
  | some t => decide (s.now < t + s.ps.lease * s.periodNs)
  | none => false

/-! The Negative -/

/-- Tokens after the seconds that have passed, at 1 a second up to 1,024 (R393). -/
def Negative.refilled (n : Negative) (now : Time) : Negative :=
  let k := (now - n.refill) / ms 1000
  { n with tokens := min 1024 (n.tokens + k), refill := n.refill + ms 1000 * k }

/-- Records that draw on the bucket (R393). -/
def Record.limited (r : Record) : Bool :=
  (r.kind = 1 && r.level ≤ 2) || r.kind = 2 || r.kind = 3

/-- The fields of R390 that come from the module's state when the record is made. -/
def State.fillRecord (s : State) (r : Record) : Record :=
  { r with
    modes := BitVec.ofNat 8 (s.cyc.mode.code + 16 * s.voteMode)
    cycle := s.cyc.cycle
    ptp := s.ptpTime
    epoch := s.pair.epochKnown
    lifecycle := BitVec.ofNat 8 s.trust.cfg.lifecycle.code
    role := BitVec.ofNat 8 s.pair.role.code
    serial := (s.image).hdr.serial
    detail := padTo 144 r.detail }

/-- Hands a record to the scribe's queue, unless R393 suppresses it or nothing further is written. -/
def State.record (s : State) (r : Record) : State :=
  let n := s.neg.refilled s.now
  if n.closed then s
  else if r.limited then
    if n.tokens = 0 || 2048 ≤ n.queue.length then
      { s with neg := { n with suppressed := if n.suppressed = 0xFFFF then 0xFFFF else n.suppressed + 1 } }
    else { s with neg := { n with tokens := n.tokens - 1, queue := n.queue ++ [s.fillRecord r] } }
  else { s with neg := { n with queue := n.queue ++ [s.fillRecord r] } }

/-- An EVENT record (R529): event code and data. -/
def State.event (s : State) (code : Nat) (data : List Byte) : State :=
  s.record { kind := 3, lanes := laneMask s.voting, detail := beBytes 2 code ++ data }

/-- The number that the next record made will take, if every queued record is written first. -/
def State.nextRecordNumber (s : State) : W32 := s.neg.next + BitVec.ofNat 32 s.neg.queue.length

/-- The 256 bytes of a record (R390, R392). -/
def recordBytes (r : Record) : List Byte :=
  let flags := boolNat r.ptp.isSome + 2 * boolNat r.during + 4 * boolNat r.escalated +
    8 * boolNat r.injected + 16 * boolNat r.pinned + 32 * boolNat r.unsigned
  let body := beBytes 4 r.number.toNat ++ [r.kind, BitVec.ofNat 8 r.level] ++
    beBytes 2 r.source.toNat ++ [r.cls, BitVec.ofNat 8 r.lanes.toNat, BitVec.ofNat 8 flags, r.modes] ++
    beBytes 6 r.cycle.toNat ++ beBytes 2 r.suppressed.toNat ++ beBytes 8 (r.ptp.getD 0).toNat ++
    beBytes 4 r.epoch.toNat ++ beBytes 32 r.prevHash.toNat ++ beBytes 32 r.pinnedHash.toNat ++
    padTo 144 r.detail ++ [r.lifecycle, r.role, 0, 0] ++ beBytes 4 r.serial.toNat ++ [0, 0, 0, 0]
  body ++ beBytes 4 (crc32c body).toNat

/-- A record placed in a bank: the pinned area, or the ring of the 94,208 most recent (R388). -/
def Bank.put (b : Bank) (r : Record) : Bank :=
  if r.pinned then { b with pinned := b.pinned ++ [r] }
  else { b with ring := (b.ring ++ [r]).drop ((b.ring.length + 1) - 94208) }

/-- Copy `c` (1 or 2) of archive region `r` can be written (R48). Regions are numbered from 0 in the
order of R41. -/
def State.writable (s : State) (r c : Nat) : Bool := !s.dies.archiveBad.contains (r, c)

/-- Nothing further is written, or the number left is the last, which source 0x1E3 takes (R393). -/
def Negative.full (n : Negative) (r : Record) : Bool := n.closed || (n.next = 0xFFFFFFFF && r.source ≠ 0x1E3)

/-- The scribe writes one record in both banks, bank 1 first, chained to its predecessor (R388, R390,
R394, R396); after the last number nothing further is written (R393). -/
def State.writeRecord (s : State) (r : Record) : State :=
  let n := s.neg
  if n.full r then s else
  let pin := r.kind = 1 && 3 ≤ r.level && max n.bank1.pinned.length n.bank2.pinned.length < 4096
  let r := { r with
    number := n.next, suppressed := n.suppressed, prevHash := n.head, pinnedHash := n.pinnedHead,
    pinned := pin, unsigned := !s.kWorks || s.trust.erased }
  let h := Config.sha3 (recordBytes r)
  let signed := r.kind = 0x0F
  let count := if signed then n.sinceSigned else n.sinceSigned + 1
  { s with neg := { n with
      bank1 := if s.writable 0 1 then n.bank1.put r else n.bank1
      bank2 := if s.writable 0 2 then n.bank2.put r else n.bank2
      next := n.next + 1
      head := h
      headNumber := r.number
      pinnedHead := if pin then h else n.pinnedHead
      suppressed := 0
      closed := n.closed || n.next = 0xFFFFFFFF
      sinceSigned := count
      reasons := n.reasons ++ (if count % 1024 = 0 && count ≠ 0 && !signed then [2] else []) ++ (if r.kind = 4 then [3] else []) } }

/-- Records FIFO: the oldest queued record is written, while a number is left for it. -/
def State.writeFirst (s : State) : State :=
  match s.neg.queue with
  | [] => s
  | r :: rest => if s.neg.full r then s else { s with neg.queue := rest }.writeRecord r

/-- Writes every queued record; `fuel` is the length of the queue. -/
def State.writeAll : Nat → State → State
  | 0, s => s
  | k + 1, s => State.writeAll k s.writeFirst

end Sys2Proof.Machine
end

