-- ==== Sys2Proof/Machine/Archive.lean ====
section
/-! DEFINITION. The eight dies and the paths between them (R13, R14), the regions of the archive, who writes them and their
two copies (R41 to R43, R408, R427). -/

namespace Sys2Proof.Machine

/-! Dies and paths -/

/-- The dies of the core package (R13). -/
inductive CoreDie where
  | lane (l : Lane) | net (d : Die) | k | v | m
  deriving DecidableEq, Repr

/-- The paths between dies (R14). -/
inductive DiePath where
  | crossLane (c : Chan) | laneNet (l : Lane) (d : Die) | bridge | crossing (l : Lane) | loadBus | tagPath (d : Die) | archivePort
  | supervisor
  deriving DecidableEq, Repr

/-- Two dies are joined by a path (R14). A field crossing joins a lane to its own field board, which is no die of the core. -/
def DiePath.joins : DiePath → CoreDie → CoreDie → Bool
  | .crossLane c, .lane l, .lane k => l ≠ k && Chan.between l k = c
  | .laneNet l d, x, y => (x = .lane l && y = .net d) || (x = .net d && y = .lane l)
  | .bridge, .net a, .net b => a ≠ b
  | .loadBus, .k, .lane _ => true
  | .loadBus, .k, .net _ => true
  | .tagPath d, x, y => (x = .net d && y = .k) || (x = .k && y = .net d)
  | .archivePort, .k, .m => true
  | .archivePort, .m, .k => true
  | .archivePort, .lane _, .m => true
  | .archivePort, .m, .lane _ => true
  | .supervisor, .v, .lane _ => true
  | .supervisor, .lane _, .v => true
  | .supervisor, .v, .k => true
  | .supervisor, .k, .v => true
  | _, _, _ => false

/-! Regions -/

/-- The regions of the archive, in the order of R41. -/
inductive Region where
  | negative | slots | logic | settings | sealConfig | boot | lamp | reserved
  deriving DecidableEq, Repr

/-- Number of a region: its place in R41. -/
def Region.idx : Region → Nat
  | .negative => 0
  | .slots => 1
  | .logic => 2
  | .settings => 3
  | .sealConfig => 4
  | .boot => 5
  | .lamp => 6
  | .reserved => 7

/-- Size of a region in KiB, all copies together (R41). -/
def Region.kib : Region → Nat
  | .negative => 2 * (24 * 1024)
  | .slots => 2 * (16 * 1024)
  | .logic => 2 * (16 * 1024)
  | .settings => 2 * (2 * 1024)
  | .sealConfig => 2 * 512
  | .boot => 2 * 64
  | .lamp => 2 * 64
  | .reserved => 11008

/-- Whose writes the archive port performs (R41, R42). -/
def Region.writtenBy (r : Region) (d : CoreDie) : Bool :=
  match r, d with
  | .negative, .lane _ => true
  | .settings, .lane _ => true
  | .lamp, .lane _ => true
  | .slots, .k => true
  | .logic, .k => true
  | .sealConfig, .k => true
  | .boot, .k => true
  | _, _ => false

/-- M performs a write of a region in a copy (R42, R48): the die may write there and the copy can be written. -/
def State.performs (s : State) (d : CoreDie) (r : Region) (copy : Nat) : Bool := r.writtenBy d && s.writable r.idx copy

/-- Two lanes present identical content for a region in one cycle (R43): what the lanes in VOTING agree on. -/
def State.lanesPerform (s : State) (r : Region) (copy : Nat) : Bool :=
  2 ≤ (s.voting.filter fun l => s.performs (.lane l) r copy).length

/-! The boot record as it lies in a copy (R426) -/

/-- Bytes 0 to 127. -/
def Boot.fields (b : Boot) : List Byte :=
  beBytes 4 0x42545231 ++ beBytes 4 b.generation.toNat ++
    [BitVec.ofNat 8 (boolNat b.committed), b.trial.elim 0xFF fun n => BitVec.ofNat 8 (boolNat n), BitVec.ofNat 8 b.starts,
     BitVec.ofNat 8 (boolNat b.conversionFailed + 2 * boolNat b.fallback)] ++
    beBytes 32 b.committedHash.toNat ++ beBytes 32 b.trialHash.toNat ++ beBytes 2 b.secFloor ++ beBytes 2 b.keyFloor ++
    beBytes 8 (b.activation.elim 0 fun a => a.1.toNat) ++ beBytes 32 (b.activation.elim 0 fun a => a.2.toNat) ++
    beBytes 4 b.bootCount.toNat ++
    [BitVec.ofNat 8 (boolNat b.storeRead + 2 * boolNat b.storeTrial), b.printing.setWidth 8, 0, 0]

/-- A copy of the boot record with its check. -/
def Boot.bytes (b : Boot) : List Byte := b.fields ++ beBytes 32 (Config.sha3 b.fields).toNat

/-! Writes, to both copies -/

/-- K writes the boot record, copy 2 first (R427). -/
def State.storeBoot (s : State) : State :=
  { s with
    m.boot2 := if s.performs .k .boot 2 then s.upd.boot else s.m.boot2
    m.boot1 := if s.performs .k .boot 1 then s.upd.boot else s.m.boot1 }

/-- K writes the seal configuration, copy 2 first (R408). -/
def State.storeSeal (s : State) : State :=
  { s with
    m.seal2 := if s.performs .k .sealConfig 2 then s.trust.cfg else s.m.seal2
    m.seal1 := if s.performs .k .sealConfig 1 then s.trust.cfg else s.m.seal1 }

/-- The lanes write the Lamp epoch and persistent counters (R43, R356, R385). -/
def State.storeLamp (s : State) : State :=
  { s with
    m.lamp1 := if s.lanesPerform .lamp 1 then s.flt.persistent else s.m.lamp1
    m.lamp2 := if s.lanesPerform .lamp 2 then s.flt.persistent else s.m.lamp2 }

/-- The settings that a start will find: those in force and those that the next boundary takes over (R52, R285). -/
def State.settingsDue (s : State) : Settings :=
  { s.cyc.settings with cycle := s.cyc.cycleDue.getD s.cs, pair := s.cyc.pairDue.getD s.ps }

/-- The lanes write both settings stores (R43, R268, R285). -/
def State.storeSettings (s : State) : State :=
  { s with
    m.settings1 := if s.lanesPerform .settings 1 then s.settingsDue else s.m.settings1
    m.settings2 := if s.lanesPerform .settings 2 then s.settingsDue else s.m.settings2 }

/-! What a start reads -/

/-- The copy that K uses (R408, R427): of those that verify, bit 0 copy 1, the one of the higher generation, copy 1 where
both are equal; true is copy 2. -/
def chooseCopy (verifies : BitVec 2) (generation1 generation2 : W32) : Option Bool :=
  if verifies.getLsbD 0 && (!verifies.getLsbD 1 || generation2.toNat ≤ generation1.toNat) then some false
  else if verifies.getLsbD 1 then some true
  else none

/-- A floor is never lowered, whichever copy is read (R424; DEDUCED log 132). -/
def Boot.keepFloors (read old : Boot) : Boot :=
  { read with secFloor := max read.secFloor old.secFloor, keyFloor := max read.keyFloor old.keyFloor }

/-- K takes the boot record from the copy in use and rewrites the other (R427); none where neither verifies. -/
def State.readBoot (s : State) (verifies : BitVec 2) : Option State :=
  (chooseCopy verifies s.m.boot1.generation s.m.boot2.generation).map fun c =>
    { s with
      upd.boot := (if c then s.m.boot2 else s.m.boot1).keepFloors s.upd.boot
      dies.bootUnread := verifies ≠ 3 }.storeBoot

/-- A retired module stays retired (R400, R402), whichever copy is read (DEDUCED log 132). -/
def Seal.keepRetired (read old : Seal) : Seal := if old.lifecycle = .retired then { read with lifecycle := .retired } else read

/-- K takes the seal configuration from the copy in use; the other, unless it holds the same, is rewritten with an EVENT
(R408, R529). With neither, source 0x1C0 is raised when lanes can see it. -/
def State.readSeal (s : State) (verifies : BitVec 2) : State :=
  match chooseCopy verifies s.m.seal1.generation s.m.seal2.generation with
  | none => { s with dies.kFaulted := true }
  | some c =>
    let used := if c then s.m.seal2 else s.m.seal1
    let same : Bool := verifies = 3 && s.m.seal1 = s.m.seal2
    let s := { s with trust.cfg := used.keepRetired s.trust.cfg }.storeSeal
    if same then s else s.event 0x0405 ([if c then 1 else 2] ++ beBytes 4 used.generation.toNat)

/-- The larger of two epochs. -/
def max32 (a b : W32) : W32 := if a.toNat < b.toNat then b else a

/-- What the lanes read of the Lamp region's copies: the larger epoch, and of a LOCKOUT flag that one holds (R43, R356, R385;
DEDUCED log 132). -/
def Archive.lamp (m : Archive) (old : Persistent) : Persistent :=
  let used := if m.lamp1.lockout then m.lamp1 else m.lamp2
  { used with epoch := max32 old.epoch (max32 m.lamp1.epoch m.lamp2.epoch) }

def State.readLamp (s : State) : State :=
  let p := s.m.lamp s.flt.persistent
  { s with flt.persistent := p, pair.epochKnown := max32 s.pair.epochKnown p.epoch }

/-- What the lanes read of the settings stores (R441, R478, R482): the store in use where it verifies, else the other; bit 0
store 0. None verifies: none. -/
def State.settingsRead (s : State) (verifies : BitVec 2) : Option Settings :=
  let inUse := if s.upd.onTrial then s.upd.boot.storeTrial else s.upd.boot.storeRead
  let of := fun (second : Bool) => if second then s.m.settings2 else s.m.settings1
  let ok := fun (second : Bool) => if second then verifies.getLsbD 1 else verifies.getLsbD 0
  if ok inUse then some (of inUse) else if ok (!inUse) then some (of (!inUse)) else none

end Sys2Proof.Machine
end

