-- ==== Sys2Proof/Machine/Codec.lean ====
section
/-! DEFINITION. The layouts in which the state is reported and digested: state words (R82 to R114), lock
entries (R124), timer words (R159), reports (R249, R253), the state digest (R190) and the refusal
detail (R242). -/

namespace Sys2Proof.Machine

/-- Ticks of 100 ns in a number of milliseconds. -/
def tk (n : Nat) : Ticks := n * 10000

/-- Milliseconds left until a tick, rounded up, so that a running timer never reads 0 (log 12). -/
def msLeft (fin now : Ticks) : Nat := (fin - now + 9999) / 10000

/-- A value put at bit lo. -/
def at_ (lo v : Nat) : Nat := v * 2 ^ lo

def Image.decl? (i : Image) (oid : Nat) : Option ObjDecl := i.objects.find? fun d => d.oid = oid
def Image.route? (i : Image) (rid : BitVec 12) : Option RouteDecl := i.routes.find? fun r => r.rid = rid
def Rail.obj? (r : Rail) (oid : Nat) : Option Obj := r.objs.find? fun o => o.oid = oid
def Rail.modObj (r : Rail) (oid : Nat) (f : Obj → Obj) : Rail :=
  { r with objs := updateWhere (fun o => o.oid = oid) f r.objs }
def Rail.modBody (r : Rail) (oid : Nat) (f : Body → Body) : Rail :=
  r.modObj oid fun o => { o with body := f o.body }

/-- Symbol ID of an object, 0 where it is not declared (R147). -/
def Image.symbolOf (i : Image) (oid : Nat) : Nat :=
  match i.decl? oid with
  | some d => d.symbol.toNat
  | none => 0

def Pos.code : Pos → Nat
  | .normal => 1
  | .reverse => 2

def LockMode.code : LockMode → Nat
  | .none => 0
  | .exclusive => 1
  | .shared => 2

def Occ.code : Occ → Nat
  | .clear => 0
  | .occupied => 1
  | .disturbed => 2
  | .resetPending => 3

def RouteState.code : RouteState → Nat
  | .idle => 0
  | .requested => 1
  | .checked => 2
  | .locked => 3
  | .proven => 4
  | .cleared => 5
  | .occupied => 6
  | .releasing => 7
  | .approachLocked => 8

def OverlapState.code : OverlapState → Nat
  | .free => 0
  | .locked => 1
  | .proven => 2
  | .releasing => 3

def FlankState.code : FlankState → Nat
  | .free => 0
  | .claimed => 1
  | .proven => 2

def CrossingState.code : CrossingState → Nat
  | .opened => 0
  | .warning => 1
  | .closing => 2
  | .closed => 3
  | .opening => 4
  | .failed => 5

def BlockState.code : BlockState → Nat
  | .normal => 0
  | .requested => 1
  | .grantedOut => 2
  | .trainOut => 3
  | .grantedIn => 4
  | .trainIn => 5
  | .failed => 6

def ZoneState.code : ZoneState → Nat
  | .main => 0
  | .requested => 1
  | .granted => 2
  | .returning => 3
  | .unknown => 4

def posBits : Option Pos → Nat
  | some p => p.code
  | none => 0

/-- The lock entry as its 32-bit word (R124). -/
def LockEntry.word (l : LockEntry) : Nat :=
  at_ 30 l.mode.code + at_ 28 (posBits l.pos) + at_ 22 l.count + at_ 10 l.owner.toNat

def typeCode : Body → Nat
  | .point _ => 1
  | .signal _ => 2
  | .stretch _ => 3
  | .route _ => 4
  | .overlap _ => 5
  | .flank _ => 6
  | .crossing _ => 7
  | .block _ => 8
  | .zone _ => 9
  | .generic _ => 10

def srcCode : Source → Nat
  | .internal => 0
  | .locally _ => 1
  | .partner _ _ _ => 2

def timerMs (e : Option Ticks) (now : Ticks) : Nat :=
  match e with
  | some t => min (2 ^ 24 - 1) (msLeft t now)
  | none => 0

/-- A route in a locked state (R103). -/
def RouteState.holdsLocks (s : RouteState) : Bool := 3 ≤ s.code

/-- LOCKED of the state word (R82, R103, R124). -/
def Obj.locked (o : Obj) : Bool :=
  match o.body with
  | .route r => r.state.holdsLocks
  | _ => o.lock.mode ≠ .none

/-- Bits [47:0] of the state word at a consensus cycle time (R93, R97, R100, R103, R104, R106, R108,
R110, R112, R114). -/
def bodyWord (d : Option ObjDecl) (now : Ticks) : Body → Nat
  | .point p => at_ 46 p.pos.toNat + at_ 44 p.cmd.toNat + at_ 43 (boolNat p.moving) +
      at_ 42 (boolNat p.lockProven) + at_ 16 (min 65535 p.elapsed) + p.moves.toNat
  | .signal s => at_ 44 s.cmd.toNat + at_ 40 s.shown.toNat + at_ 39 (boolNat s.proceedOk) +
      at_ 38 (boolNat s.lampFault) + at_ 37 (boolNat s.stopUnproven) + at_ 36 (boolNat s.shownValid) +
      at_ 20 s.routeId.toNat + at_ 19 (boolNat s.routeValid) + min 65535 s.aspectTime
  | .stretch s =>
      let k := match d with
        | some { params := .stretch _ axle direct, .. } => at_ 45 (boolNat axle) + at_ 44 (boolNat direct)
        | _ => 0
      at_ 46 s.occ.code + k + at_ 16 s.axles.toNat + min 65535 s.occTime
  | .route r =>
      let rid := match d with
        | some { params := .route rid, .. } => rid.toNat
        | _ => 0
      at_ 44 r.state.code + at_ 32 rid + at_ 31 (boolNat r.armed) + at_ 30 (boolNat r.waiting) +
        at_ 24 (r.relIndex % 64) + timerMs r.timerEnd now
  | .overlap o => at_ 45 o.state.code + at_ 43 (o.alt % 4) + at_ 31 o.owner.toNat + timerMs o.timerEnd now
  | .flank f =>
      let k := match d with
        | some { params := .flank sig req el, .. } =>
            at_ 39 (boolNat sig) + at_ 37 (if sig then 0 else req.code) + at_ 23 el
        | _ => 0
      at_ 46 f.state.code + at_ 40 f.claims + k
  | .crossing c => at_ 45 c.state.code + at_ 44 (boolNat c.closeReq) + at_ 43 (boolNat c.down) +
      at_ 42 (boolNat c.up) + at_ 41 (boolNat c.lightsOk) + at_ 40 (boolNat c.obstacleFree) +
      timerMs c.timerEnd now
  | .block b =>
      let n := match d with
        | some { params := .block n _ _ _, .. } => n.toNat
        | _ => 0
      at_ 45 b.state.code + at_ 44 (boolNat b.trainOnLine) + at_ 20 n
  | .zone z => at_ 45 z.state.code + at_ 44 (boolNat z.localReq) + at_ 43 (boolNat z.keyRestored) +
      at_ 42 (boolNat z.barred) + at_ 41 (boolNat z.permit)
  | .generic b => b.toNat

/-- The 64-bit state word (R82). -/
def Obj.word (o : Obj) (d : Option ObjDecl) (now : Ticks) : Nat :=
  let src := match d with
    | some d => srcCode d.source
    | none => 0
  at_ 60 (typeCode o.body) + at_ 58 src + at_ 57 (boolNat o.lost) + at_ 56 (boolNat o.stale) +
    at_ 55 (boolNat o.blocked) + at_ 54 (boolNat o.locked) + at_ 53 (boolNat o.fault) +
    at_ 52 (boolNat o.safeHeld) + bodyWord d now o.body

/-- The state word of an object of the railway state, 0 where there is none. -/
def Rail.word (r : Rail) (i : Image) (oid : Nat) : Nat :=
  match r.obj? oid with
  | some o => o.word (i.decl? oid) r.time
  | none => 0

/-- The object report (R253). -/
def objectReport (i : Image) (r : Rail) (oid : Nat) : List Byte :=
  match r.obj? oid with
  | some o => beBytes 2 oid ++ [0, 0] ++ beBytes 8 (o.word (i.decl? oid) r.time) ++ beBytes 4 o.lock.word
  | none => beBytes 2 oid ++ List.replicate 14 0

/-- The route object of a route ID. -/
def Rail.route? (r : Rail) (i : Image) (rid : BitVec 12) : Option RouteSt :=
  match i.route? rid with
  | some d =>
    match r.obj? d.oid with
    | some { body := .route x, .. } => some x
    | _ => none
  | none => none

/-- The route report (R249). -/
def routeReport (i : Image) (r : Rail) (rid : BitVec 12) : List Byte :=
  match r.route? i rid with
  | some x =>
    beBytes 2 rid.toNat ++
      [BitVec.ofNat 8 (x.state.code + 16 * boolNat x.waiting + 32 * boolNat x.armed), x.rows,
       BitVec.ofNat 8 (x.alt.getD 0xFF)] ++ beBytes 3 (timerMs x.timerEnd r.time)
  | none => beBytes 2 rid.toNat ++ [0, 0, 0xFF, 0, 0, 0]

/-- The refusal detail (R242): kind, row kind, index, ID, reference. -/
def detail (kind : Nat) (row idx id ref : Nat := 0) : List Byte :=
  [BitVec.ofNat 8 kind, BitVec.ofNat 8 row] ++ beBytes 2 idx ++ beBytes 2 id ++ [0, 0] ++ beBytes 4 ref

/-- Detail of kind 0x00. -/
def noDetail : List Byte := detail 0

def TimerKind.code : TimerKind → Nat
  | .onDelay => 0
  | .offDelay => 1
  | .pulse => 2

def Phase.code : Phase → Nat
  | .idle => 0
  | .running => 1
  | .held => 2

/-- The timer word (R159). -/
def timerWord (k : TimerKind) (x : TimerSt) (now : Ticks) : Nat :=
  at_ 62 k.code + at_ 60 x.phase.code + at_ 59 (boolNat x.q) + at_ 58 (boolNat x.inPrev) +
    (if x.phase = .running then min (2 ^ 25 - 1) (msLeft x.expiry now) else 0)

/-- Bytes of an integer value in two's complement. -/
def intBytes (n : Nat) (v : Int) : List Byte := beBytes n (v % 2 ^ (8 * n)).toNat

/-- The route engine record of R204. -/
def routeRecord (x : RouteSt) : List Byte :=
  [BitVec.ofNat 8 (boolNat x.fellBack + 2 * boolNat x.permit), x.rows, BitVec.ofNat 8 (x.alt.getD 0xFF)] ++
    beBytes 8 x.seen.toNat

/-! The header of a Folquel image (R144) -/

/-- The header that the first 256 bytes of an image lay out; the directory lists objects, rows, develop order and equations,
timers, edge detectors, symbol table and expected partners. -/
def imageHeader (b : List Byte) : ImgHeader :=
  let f := fieldAt b
  { magic := BitVec.ofNat 32 (f 0 4), format := BitVec.ofNat 16 (f 4 2), headerLen := BitVec.ofNat 16 (f 6 2),
    length := f 8 8, hash := BitVec.ofNat 256 (f 16 32), predecessor := BitVec.ofNat 256 (f 48 32),
    station := BitVec.ofNat 32 (f 80 4), serial := BitVec.ofNat 32 (f 84 4), compiler := BitVec.ofNat 32 (f 88 4),
    nObjects := f 92 2, nRoutes := f 94 2, nLiterals := f 96 4, nTerms := f 100 4, nTimers := f 104 2,
    nEdges := f 106 2, nRetained := f 108 4, targetP := f 114 2, develop := f 116 1, mirror := f 117 1,
    fixLatest := f 118 1, paired := bitOf (f 119 1) 0, e := f 120 4, d := f 124 4, b := f 128 4,
    directory := (List.range 7).map fun k => (f (136 + 8 * k) 4, f (140 + 8 * k) 4),
    reservedZero := f 112 2 = 0 && f 119 1 < 2 && f 132 4 = 0 && f 192 64 = 0 }

/-- The 256 bytes of a header whose reserved fields are zero. -/
def headerBytes (h : ImgHeader) : List Byte :=
  beBytes 4 h.magic.toNat ++ beBytes 2 h.format.toNat ++ beBytes 2 h.headerLen.toNat ++ beBytes 8 h.length ++
    beBytes 32 h.hash.toNat ++ beBytes 32 h.predecessor.toNat ++ beBytes 4 h.station.toNat ++ beBytes 4 h.serial.toNat ++
    beBytes 4 h.compiler.toNat ++ beBytes 2 h.nObjects ++ beBytes 2 h.nRoutes ++ beBytes 4 h.nLiterals ++
    beBytes 4 h.nTerms ++ beBytes 2 h.nTimers ++ beBytes 2 h.nEdges ++ beBytes 4 h.nRetained ++ [0, 0] ++
    beBytes 2 h.targetP ++ [BitVec.ofNat 8 h.develop, BitVec.ofNat 8 h.mirror, BitVec.ofNat 8 h.fixLatest,
      BitVec.ofNat 8 (boolNat h.paired)] ++
    beBytes 4 h.e ++ beBytes 4 h.d ++ beBytes 4 h.b ++ [0, 0, 0, 0] ++
    (h.directory.flatMap fun x => beBytes 4 x.1 ++ beBytes 4 x.2) ++ List.replicate 64 0

/-- An entry of the expected-partner table (R299). -/
def PartnerDecl.bytes (p : PartnerDecl) : List Byte :=
  beBytes 3 p.node.toNat ++ [p.cls.setWidth 8] ++ beBytes 2 p.ptype.toNat ++ [BitVec.ofNat 8 p.k, 0] ++
    beBytes 6 p.links.toNat ++ [BitVec.ofNat 8 p.cmdSlots, BitVec.ofNat 8 p.repSlots] ++ beBytes 32 p.keyHash.toNat ++
    beBytes 32 p.fwHash.toNat

/-- The entry that 80 bytes lay out; none where a reserved bit is set or a range is broken. -/
def partnerDecl (b : List Byte) : Option PartnerDecl :=
  let f := fieldAt b
  if b.length = 80 && f 0 3 < 2 ^ 20 && (f 3 1 = 1 || f 3 1 = 3) && 2 ≤ f 6 1 && f 6 1 ≤ 10 && f 7 1 = 0 && f 14 1 ≤ 253 &&
      f 15 1 ≤ 253 then
    some { node := BitVec.ofNat 20 (f 0 3), cls := BitVec.ofNat 2 (f 3 1), ptype := BitVec.ofNat 16 (f 4 2), k := f 6 1,
           links := BitVec.ofNat 48 (f 8 6), cmdSlots := f 14 1, repSlots := f 15 1, keyHash := BitVec.ofNat 256 (f 16 32),
           fwHash := BitVec.ofNat 256 (f 48 32) }
  else none

/-- The signature block that ends an image: the ML-DSA-44 signature over the image hash, and the SHA3-256 hash of the
signer's public key (R144). -/
def signatureBlock (b : List Byte) : List Byte × Hash :=
  let block := b.drop (b.length - 2452)
  (block.take 2420, BitVec.ofNat 256 (fieldAt block 2420 32))

/-- What the image hash covers: the whole image with the hash field and the signature block taken as zero (R144). -/
def hashedBytes (b : List Byte) : List Byte :=
  b.take 16 ++ List.replicate 32 0 ++ (b.drop 48).take (b.length - 48 - 2452) ++ List.replicate 2452 0

def imageHash (b : List Byte) : Hash := Config.sha3 (hashedBytes b)

/-- The section directory points inside the image (R145). -/
def ImgHeader.dirInside (h : ImgHeader) : Bool := h.directory.all fun x => x.1 + x.2 ≤ h.length

/-- What a cycle commits, as the bytes that the state digest covers (R190): the form of each item, and that waiting
requests and latched EVENTs are among them, is a DESIGN CHOICE (log 126). -/
def railBytes (i : Image) (r : Rail) (cycle : W48) : List Byte :=
  (r.objs.flatMap fun o => beBytes 8 (o.word (i.decl? o.oid) r.time) ++ beBytes 4 o.lock.word) ++
  ((i.timers.zip r.timers).flatMap fun x =>
    beBytes 8 (timerWord x.1.kind x.2 r.time) ++ beBytes 8 x.2.start ++ beBytes 8 x.2.expiry) ++
  r.retained.flatMap (intBytes 4) ++
  (r.edges.map fun e => BitVec.ofNat 8 (boolNat (e.getD false))) ++
  (r.objs.flatMap fun o => match o.body with
    | .route x => routeRecord x
    | _ => []) ++
  (r.waiting.flatMap fun w => beBytes 2 w.rid.toNat ++ beBytes 4 w.adm.toNat) ++
  (r.latched.flatMap fun x => beBytes 2 x.1 ++ beBytes 4 x.2.toNat) ++
  beBytes 4 r.cut.toNat ++ beBytes 6 cycle.toNat

/-- The state digest (R190). -/
def stateDigest (i : Image) (r : Rail) (cycle : W48) : W64 := crc64a (railBytes i r cycle)

/-- OCC changed: OCC_TIME restarts (R100). -/
def setOcc (now : Ticks) (c : Occ) (s : SectionSt) : SectionSt :=
  if s.occ = c then s
  else { s with occ := c, changeT := now, occTime := 0, clearSince := none, countedIn := false }

/-- The safe value of the body of an object whose source is lost, at a consensus cycle time (R94, R98, R101, R109, R111,
R113, R114); what the manual keeps is kept. -/
def safeBody (d : ObjDecl) (now : Ticks) : Body → Body
  | .point p => .point { p with pos := 0, cmd := 0, moving := false, lockProven := false }
  | .signal s => .signal { s with shownValid := false, shown := 0 }
  | .stretch s => .stretch { setOcc now .occupied s with clearSince := none, countedIn := false }
  | .crossing c => .crossing { c with state := .failed, raise := false, lightsOff := false, timerEnd := none }
  | .block b => .block { b with state := .failed, sent := 0 }
  | .zone z => .zone { z with state := .unknown, barred := true, permit := false }
  | .generic g =>
    match d.params with
    | .generic fs => .generic (fs.foldl (fun w f =>
        if f.bound = .input then
          (w &&& ~~~(BitVec.ofNat 48 ((2 ^ f.width - 1) * 2 ^ f.lo))) ||| BitVec.ofNat 48 (at_ f.lo (f.safe % 2 ^ f.width))
        else w) g)
    | _ => .generic g
  | b => b

/-- The body of an object at the Default values of its state word map (R82). -/
def defaultBody : Params → Body
  | .point _ _ _ => .point {}
  | .signal _ _ => .signal {}
  | .stretch _ _ _ => .stretch {}
  | .route _ => .route {}
  | .overlap _ _ _ => .overlap {}
  | .flank _ _ _ => .flank {}
  | .crossing _ _ _ => .crossing {}
  | .block _ _ _ _ => .block {}
  | .zone _ _ _ => .zone {}
  | .generic fs => .generic (fs.foldl (fun w f => w ||| BitVec.ofNat 48 (at_ f.lo (f.safe % 2 ^ f.width))) 0)

/-- An object created without state carried over, at a consensus cycle time (R82, R479). -/
def newObj (d : ObjDecl) (now : Ticks) : Obj :=
  let b := match defaultBody d.params with
    | .signal s => .signal { s with changeT := now, differSince := some now, unprovenSince := some now }
    | .stretch s => .stretch { s with changeT := now }
    | .generic g => safeBody d now (.generic g)
    | b => b
  { oid := d.oid, lost := d.source ≠ .internal, lastFresh := now, body := b }

/-- The railway in the cold state (R479). -/
def coldRail (i : Image) (now : Ticks) : Rail :=
  { objs := i.objects.map fun d => newObj d now
    retained := i.retained.map fun x => x.init
    timers := i.timers.map fun _ => {}
    edges := i.edges.map fun _ => none
    time := now }

/-- A body whose type has outputs (R93 to R114). -/
def Body.hasOutputs : Body → Bool
  | .point _ => true
  | .signal _ => true
  | .stretch _ => false
  | .route _ => false
  | .overlap _ => false
  | .flank _ => false
  | .crossing _ => true
  | .block _ => true
  | .zone _ => true
  | .generic _ => true

/-- SAFE_HELD on every object with outputs: those of a local or a partner source (R82, R83). -/
def Rail.holdSafe (i : Image) (r : Rail) (on : Bool) : Rail :=
  { r with objs := r.objs.map fun o =>
      if o.body.hasOutputs && (i.decl? o.oid).any fun d => d.source ≠ .internal then { o with safeHeld := on } else o }

end Sys2Proof.Machine
end

