-- ==== Sys2Proof/Machine/MirrorFrame.lean ====
section
/-! DEFINITION. Mirror messages as bytes (R349 to R351, R365): bodies, fragments, the checks of a message that arrives and the
fragments of one that leaves. -/

namespace Sys2Proof.Machine

/-! Bodies (R350, R351, R365) -/

/-- Content bytes of a partner's telegram (R295). -/
def PartnerRep.content (p : PartnerRep) : List Byte :=
  if p.qualified then
    beBytes 4 p.fix.toNat ++ beBytes 4 p.echoEpoch.toNat ++ beBytes 2 p.slots.length ++ [0, 0] ++ wordBytes p.slots
  else []

def PartnerRep.bytes (p : PartnerRep) : List Byte :=
  beBytes 3 p.node.toNat ++ [BitVec.ofNat 8 (boolNat p.qualified)] ++ beBytes 4 p.seq.toNat ++
    beBytes 2 p.content.length ++ [0, 0] ++ p.content

def CmdEntry.bytes (c : CmdEntry) : List Byte :=
  beBytes 2 c.op.toNat ++ [BitVec.ofNat 8 c.tray, BitVec.ofNat 8 c.payload.length] ++ beBytes 4 c.adm.toNat ++
    padTo 8 c.payload ++ beBytes 4 c.node.toNat

/-- A DELTA body as it is sent and as the mirror digest covers it (R190, R351). -/
def DeltaBody.bytes (b : DeltaBody) : List Byte :=
  beBytes 6 b.base.toNat ++ [BitVec.ofNat 8 (boolNat b.handover), 0] ++ beBytes 8 b.digest.toNat ++
    wordBytes (chanWords b.outputs) ++ wordBytes (chanWords b.inputs) ++ wordBytes (chanWords b.invalid) ++
    beBytes 4 b.cut.toNat ++ beBytes 8 b.time ++ beBytes 2 b.partners.length ++ beBytes 2 b.cmds.length ++
    b.partners.flatMap PartnerRep.bytes ++ b.cmds.flatMap CmdEntry.bytes

/-- One byte of flags, bit 0 first. -/
def flagByte (l : List Bool) : Byte := BitVec.ofNat 8 (l.foldr (fun b n => boolNat b + 2 * n) 0)

/-- Body of an ACK (R350). -/
def AckBody.bytes (b : AckBody) : List Byte :=
  beBytes 6 b.cycle.toNat ++ [flagByte [b.ready, b.differs, b.accepted, b.refused], 0] ++ beBytes 4 b.epoch.toNat

/-- Body of an ANNOUNCE (R350). -/
def AnnounceBody.bytes (b : AnnounceBody) : List Byte :=
  [b.role, flagByte [b.wantsBulk], 0, 0] ++ beBytes 4 b.epoch.toNat

/-- Cycle settings in the order of R52, pair settings in the order of R285: the form in a BULK is a DESIGN CHOICE (log 143). -/
def CycleSettings.bytes (c : CycleSettings) : List Byte :=
  beBytes 2 c.p ++ [BitVec.ofNat 8 c.develop, BitVec.ofNat 8 c.mirror, BitVec.ofNat 8 c.fixLatest, BitVec.ofNat 8 c.skipLimit,
    c.sync.setWidth 8, 0]

def PairSettings.bytes (p : PairSettings) : List Byte := [BitVec.ofNat 8 p.lease, 0] ++ beBytes 2 p.essential.toNat

/-- A channel table entry (R320). -/
def ChEntry.word (c : ChEntry) : W32 :=
  let mode := match c.mode with
    | .unused => 0
    | .input => 1
    | .output => 2
    | .paired => 3
  BitVec.ofNat 32 (at_ 30 mode + c.debounce % 65536)

/-- A section of a BULK (R365). -/
def bulkSection (type : Nat) (data : List Byte) : List Byte := beBytes 4 type ++ beBytes 4 data.length ++ data

/-- A waiting request in its 32 bytes (R365); their order is a DESIGN CHOICE (log 143). -/
def Wait.bytes (w : Wait) : List Byte := padTo 32 (beBytes 2 w.rid.toNat ++ beBytes 4 w.adm.toNat)

/-- Body of a BULK under the image that its state belongs to (R365). -/
def BulkBody.bytes (i : Image) (b : BulkBody) : List Byte :=
  bulkSection 1 (beBytes 6 b.base.toNat ++ [0, 0]) ++
    bulkSection 2 (railBytes i { b.rail with waiting := [], latched := [] } b.base) ++
    bulkSection 3 (b.rail.waiting.flatMap Wait.bytes) ++
    bulkSection 4 (b.telegrams.flatMap PartnerRep.bytes) ++
    bulkSection 5 (b.cycle.bytes ++ b.pair.bytes ++ wordBytes (b.channels.map ChEntry.word)) ++
    bulkSection 6 (beBytes 32 b.logicHash.toNat ++ beBytes 4 b.logicSerial.toNat) ++
    bulkSection 7 (b.rail.latched.flatMap fun x => beBytes 2 x.1 ++ beBytes 4 x.2.toNat)

/-- Kind of a mirror message (R349). -/
def MirrorBody.kind : MirrorBody → Byte
  | .delta _ => 1
  | .renew _ _ => 2
  | .ack _ => 3
  | .release _ _ => 4
  | .bulk _ => 5
  | .announce _ => 6

/-- Message data (R350). -/
def MirrorBody.bytes (i : Image) : MirrorBody → List Byte
  | .delta b => b.bytes
  | .renew base handover => beBytes 6 base.toNat ++ [flagByte [handover], 0]
  | .ack b => b.bytes
  | .release lastFix reason => beBytes 6 lastFix.toNat ++ [reason, 0]
  | .bulk b => b.bytes i
  | .announce b => b.bytes

/-! Fragments (R349) -/

/-- Bytes 0 to 23 of a fragment header. -/
def MirrorHdr.head (h : MirrorHdr) (kind : Byte) : List Byte :=
  [h.version, kind, h.flags, h.position] ++ beBytes 4 h.seq.toNat ++ beBytes 6 h.cycle.toNat ++ beBytes 2 h.index.toNat ++
    beBytes 2 h.count.toNat ++ beBytes 2 h.length.toNat ++ beBytes 4 h.epoch.toNat

/-- The two-lane seal over message data: each code from another lane. -/
def mirrorSeal (data : List Byte) : List Byte := beBytes 8 (crc64a data).toNat ++ beBytes 8 (crc64b data).toNat

/-- A fragment but for its CRC. -/
def MirrorHdr.covered (h : MirrorHdr) (kind : Byte) (check : W32) (rest : List Byte) : List Byte :=
  h.head kind ++ beBytes 4 check.toNat ++ rest

/-- The sender holds the Lamp (R349). -/
def MirrorHdr.holds (h : MirrorHdr) : Bool := h.flags.getLsbD 1

/-- The header of the last fragment: its fields within their ranges, and its check right. -/
def MirrorHdr.headerOk (h : MirrorHdr) (kind : Byte) : Bool :=
  h.version = 3 && h.flags.toNat < 4 && h.flags.getLsbD 0 && h.seq ≠ 0 && h.index.toNat + 1 = h.count.toNat &&
    h.length.toNat ≤ 1440 && h.check = crc32c (h.head kind)

/-- The data fill the fragments that the header counts, and the fragment's CRC and the seal are right. -/
def MirrorHdr.dataOk (h : MirrorHdr) (kind : Byte) (data : List Byte) : Bool :=
  let tail := data.drop (data.length - h.length.toNat)
  let coded := beBytes 8 h.sc1.toNat ++ beBytes 8 h.sc2.toNat
  h.length.toNat ≤ data.length && data.length - h.length.toNat ≤ 1440 * h.index.toNat && (h.index ≠ 0 || data.length = h.length.toNat) &&
    h.crc = crc32c (h.covered kind h.check (tail ++ coded)) && h.sc1 = crc64a data && h.sc2 = crc64b data

/-- Fragments that message data take. -/
def fragmentCount (n : Nat) : Nat := max 1 ((n + 1439) / 1440)

/-- The module's pair position (R345, R349). -/
def State.position (s : State) : Byte := BitVec.ofNat 8 s.v.strap.toNat

/-- The module sends the mirror of its cycles: it holds the Lamp by its pair role. -/
def State.mirrors (s : State) : Bool := s.pair.role = .active

/-- Fragment `k` of a message that the module sends. -/
def State.fragment (s : State) (kind : Byte) (seq : W32) (data : List Byte) (k : Nat) : List Byte :=
  let n := fragmentCount data.length
  let part := (data.drop (1440 * k)).take 1440
  let h : MirrorHdr :=
    { flags := flagByte [k + 1 = n, s.mirrors], position := s.position, seq := seq, cycle := s.cyc.cycle,
      index := BitVec.ofNat 16 k, count := BitVec.ofNat 16 n, length := BitVec.ofNat 16 part.length, epoch := s.ownEpoch }
  let f := h.covered kind (crc32c (h.head kind)) (part ++ if k + 1 = n then mirrorSeal data else [])
  f ++ beBytes 4 (crc32c f).toNat

/-- The number of the next message (R349): never 0. -/
def State.nextMirrorSeq (s : State) : W32 := if s.pair.txMirror = 0xFFFFFFFF then 1 else s.pair.txMirror + 1

/-- A mirror message leaves on both mirror ports, if two lanes can seal it (R348, R349). -/
def State.sendMirror (s : State) (m : MirrorBody) : State :=
  if s.mirrorUp then
    let seq := s.nextMirrorSeq
    let data := m.bytes s.image
    let sent : MirrorSent := { ports := [0, 1].filter fun p => s.portUsable (.m p), seq := seq, body := m, fragments := (List.range (fragmentCount data.length)).map (s.fragment m.kind seq data) }
    { s with pair.txMirror := seq }.emit (.mirror sent)
  else s

end Sys2Proof.Machine
end

