-- ==== Sys2Proof/Machine/Operands.lean ====
section
/-! DEFINITION. The operand forms of Develop: literals (R119), predicates (R120), the report that a
source delivers (R115, R296) and the conditions that several commands share (R86, R95, R98). -/

namespace Sys2Proof.Machine

/-- A literal of a row (R119). -/
structure Literal where
  neg : Bool
  claim : Bool
  alt : Nat
  sec : Nat
  pred : Nat
  oid : Nat
  deriving DecidableEq, Repr

def literal (w : W32) : Literal :=
  let v := w.toNat
  { neg := bitOf v 31, claim := bitOf v 30, alt := bitsOf v 29 27, sec := bitsOf v 26 21,
    pred := bitsOf v 19 14, oid := bitsOf v 13 0 }

/-- A row as the logic bank stores it begins with its header word: KIND, FORM, COUNT and ROUTE (R118). -/
structure RowHead where
  kind : Nat
  disjunctive : Bool
  count : Nat
  rid : BitVec 12
  deriving DecidableEq, Repr

def rowHead (w : W32) : RowHead :=
  let v := w.toNat
  { kind := bitsOf v 31 30, disjunctive := bitOf v 29, count := bitsOf v 28 20, rid := BitVec.ofNat 12 v }

/-- The header as its word (R118). -/
def RowHead.word (h : RowHead) : W32 :=
  BitVec.ofNat 32 (at_ 30 h.kind + at_ 29 (boolNat h.disjunctive) + at_ 20 h.count + h.rid.toNat)

/-- The literals of a stored row: as many words after its header as COUNT says (R118). -/
def rowLiterals (row : List W32) : List Literal :=
  match row with
  | [] => []
  | h :: rest => (rest.take (rowHead h).count).map literal

/-- A row of a kind of a route as the logic bank stores it. -/
def storedRow (kind : Nat) (rid : BitVec 12) (row : List W32) : List W32 :=
  ({ kind := kind, disjunctive := kind = 1, count := row.length, rid := rid } : RowHead).word :: row

/-- A stored row is in the form that `fqc` gives a row of a kind of a route: its KIND, FORM 1 for HOLD and only for
HOLD, at most 256 literals, as many as COUNT says (R116, R118). -/
def rowForm (kind : Nat) (rid : BitVec 12) (row : List W32) : Bool :=
  match row with
  | [] => false
  | _ :: rest => row = storedRow kind rid rest && rest.length ≤ 256

/-- The literal as its word (R119). -/
def Literal.word (l : Literal) : W32 :=
  BitVec.ofNat 32 (at_ 31 (boolNat l.neg) + at_ 30 (boolNat l.claim) + at_ 27 l.alt + at_ 21 l.sec +
    at_ 14 l.pred + l.oid)

/-- A section that reads CLEAR and whose data is good (R86, R95). -/
def Rail.sectionClear (r : Rail) (oid : Nat) : Bool :=
  match r.obj? oid with
  | some { lost, stale, body := .stretch s, .. } => !lost && !stale && s.occ = .clear
  | _ => false

/-- The first protecting section of a point that is not CLEAR (R94, R95). -/
def unclear (r : Rail) (protecting : List Nat) : Option Nat :=
  protecting.find? fun x => !r.sectionClear x

def protectingOf (i : Image) (oid : Nat) : List Nat :=
  match i.decl? oid with
  | some { params := .point _ _ p, .. } => p
  | _ => []

/-- Committed aspect proven (R98). `proving` in ms. -/
def SignalSt.proven (s : SignalSt) (proving : Nat) (now : Ticks) : Bool :=
  match s.agreeSince with
  | some a => a ≤ s.changeT + tk proving || tk proving ≤ now - a
  | none => false

def provingOf (i : Image) (oid : Nat) : Nat :=
  match i.decl? oid with
  | some { params := .signal p _, .. } => p
  | _ => 500

/-- STOP_PROVEN of a signal (R120). -/
def stopProven (i : Image) (r : Rail) (oid : Nat) : Bool :=
  match r.obj? oid with
  | some { lost, body := .signal s, .. } =>
    !lost && s.cmd = 0 && s.proven (provingOf i oid) r.time && !s.stopUnproven
  | _ => false

def Rail.isStale (r : Rail) (oid : Nat) : Bool :=
  match r.obj? oid with
  | some o => o.stale
  | none => false

/-- STOP_PROVEN on data that may release a lock: the signal is not STALE (R86). -/
def stopFresh (i : Image) (r : Rail) (oid : Nat) : Bool := stopProven i r oid && !r.isStale oid

/-- The move conditions of R95, the lock aside. -/
def moveFree (i : Image) (r : Rail) (o : Obj) : Bool :=
  !o.blocked && !o.lost && !o.stale && (unclear r (protectingOf i o.oid)).isNone

def insertField (f : GField) : List GField → List GField
  | [] => [f]
  | x :: r => if f.lo ≤ x.lo then f :: x :: r else x :: insertField f r

/-- The fields of a GENERIC object from the lowest bit upward, in whatever order the image declares them (R114, R120). -/
def byBit (fs : List GField) : List GField := fs.foldr insertField []

/-- The n-th boolean field, counted from the lowest bit upward (R120). -/
def boolField (fs : List GField) (n : Nat) : Option GField := ((byBit fs).filter fun f => f.isBool)[n]?

/-- A field of a state word body. -/
def fieldOf (b : BitVec 48) (lo width : Nat) : Nat := b.toNat / 2 ^ lo % 2 ^ width

/-- AVAIL_N and AVAIL_R (R120). -/
def availPoint (i : Image) (r : Rail) (o : Obj) (p : PointSt) (pos : Pos) : Bool :=
  !o.lost && !o.stale && (o.lock.pos = none || o.lock.pos = some pos) && o.lock.count < 63 &&
    (p.pos.toNat = pos.code ||
      (!o.blocked && (unclear r (protectingOf i o.oid)).isNone))

/-- A flank element lockable in REQ (R120). -/
def flankLockable (i : Image) (r : Rail) (element : Nat) (req : Pos) : Bool :=
  match r.obj? element with
  | some o =>
    match o.body with
    | .point p => (o.lock.pos = none || o.lock.pos = some req) &&
        (p.pos.toNat = req.code || (o.lock.mode = .none && moveFree i r o))
    | .signal _ => o.lock.mode ≠ .exclusive
    | _ => false
  | none => false

/-- The predicate of a code on an object (R120). -/
def predicate (i : Image) (r : Rail) (oid code : Nat) : Bool :=
  match r.obj? oid with
  | none => false
  | some o =>
    match code with
    | 0 => !o.lost && !o.stale
    | 1 => !o.lost
    | 2 => o.lock.mode = .none
    | 3 => !o.blocked
    | 4 => !o.fault
    | _ =>
      match o.body, code with
      | .point p, 8 => p.pos = 1
      | .point p, 9 => p.pos = 2
      | .point p, 10 => p.lockProven
      | .point p, 11 => availPoint i r o p .normal
      | .point p, 12 => availPoint i r o p .reverse
      | .signal _, 8 => stopProven i r oid
      | .stretch s, 8 => s.occ = .clear
      | .stretch s, 9 => s.occ ≠ .clear
      | .route x, 8 => x.state = .idle
      | .route x, 9 => x.state = .cleared
      | .overlap x, 8 => x.state = .free
      | .overlap x, 9 => x.state = .proven
      | .flank x, 8 =>
        match i.decl? oid with
        | some { params := .flank _ req el, .. } => x.claims < 63 && flankLockable i r el req
        | _ => false
      | .flank x, 9 => x.state = .proven
      | .crossing c, 8 => c.state = .closed
      | .crossing _, 9 => o.lock.count < 63
      | .block b, 8 => b.state = .normal && o.lock.mode = .none
      | .block b, 9 => b.state = .grantedOut
      | .zone z, 8 => z.barred
      | .zone z, 9 => z.state = .main
      | .generic g, n =>
        match i.decl? oid with
        | some { params := .generic fs, .. } =>
          match boolField fs (n - 8) with
          | some f => 8 ≤ n && fieldOf g f.lo 1 = 1
          | none => false
        | _ => false
      | _, _ => false

/-- A predicate that reads a lock entry or a route state (R129), by the type of its object. -/
def readsLock (r : Rail) (l : Literal) : Bool :=
  l.pred = 2 ||
  match r.obj? l.oid with
  | some o =>
    match o.body with
    | .point _ => l.pred = 11 || l.pred = 12
    | .route _ => l.pred = 8
    | .overlap _ => l.pred = 8
    | .flank _ => l.pred = 8
    | .crossing _ => l.pred = 9
    | .block _ => l.pred = 8
    | _ => false
  | none => false

/-- The data that a literal reads is STALE: its object's, or, for AVAIL of a FLANK object, its element's (R86, R120). -/
def literalStale (i : Image) (r : Rail) (l : Literal) : Bool :=
  r.isStale l.oid || match r.obj? l.oid, i.decl? l.oid with
    | some { body := .flank _, .. }, some { params := .flank _ _ el, .. } => l.pred = 8 && r.isStale el
    | _, _ => false

/-- Truth of a literal (R119, R121). `strict`: a SETTABLE row, or the CLEAR row of a route not CLEARED,
in which a literal on STALE data is false. -/
def holds (i : Image) (r : Rail) (strict : Bool) (l : Literal) : Bool :=
  !(strict && literalStale i r l) && (predicate i r l.oid l.pred != l.neg)

/-! Reports of sources -/

def roleOn (bind : List (Role × Fin 96)) (values : Chans) (role : Role) : Bool :=
  match bind.find? fun x => x.1 = role with
  | some x => values.getLsbD x.2.val
  | none => false

/-- The fields of one binding with the bits at which a slot packs them, ascending (R296). -/
def packed (fs : List GField) (b : FieldBound) : List (GField × Nat) :=
  (((byBit fs).filter fun f => f.bound = b).foldl (fun (acc : List (GField × Nat) × Nat) f =>
    (acc.1 ++ [(f, acc.2)], acc.2 + f.width)) ([], 0)).1

/-- The report that local channels make, laid out as the report slot of R296 (R115). A signal's shown
aspect is the declared aspect whose lamp groups are exactly those proven lit (log 13). -/
def localReport (d : ObjDecl) (bind : List (Role × Fin 96)) (v : Chans) : W64 :=
  let on := roleOn bind v
  BitVec.ofNat 64 <| match d.params with
    | .point _ _ _ => boolNat (on .detN) + 2 * boolNat (on .detR) + 4 * boolNat (on .lockProven)
    | .signal _ aspects =>
      let lit := (bind.filterMap fun x => match x.1 with
        | .prove g => if v.getLsbD x.2.val then some g else none
        | _ => none)
      match aspects.find? fun a => (a.lamps.all lit.contains) && (lit.all a.lamps.contains) with
      | some a => a.code.toNat + 16
      | none => 0
    | .stretch _ _ _ => boolNat (!on .clear)
    | .crossing _ _ obstacle => boolNat (on .down) + 2 * boolNat (on .up) + 4 * boolNat (on .lights) +
        8 * boolNat (!obstacle || on .obstacle)
    | .block _ _ _ _ => (List.range 16).foldl (fun a k => a + at_ k (boolNat (on (.indIn k)))) 0
    | .zone _ _ _ => boolNat (on .localReq) + 2 * boolNat (on .keyRestored)
    | .generic fs => (packed fs .input).zipIdx.foldl
        (fun a x => a + at_ x.1.2 (boolNat (on (.fieldIn x.2)))) 0
    | _ => 0

/-- Bits that a report slot of the type may carry (R296). -/
def reportMask (p : Params) : Nat :=
  match p with
  | .point _ _ _ => 0x7
  | .signal _ _ => 0x1F
  | .stretch _ axle _ => if axle then 0xFFFF0003 else 0x3
  | .crossing _ _ _ => 0xF
  | .block _ _ _ _ => 0xFFFF
  | .zone _ _ _ => 0x3
  | .generic fs => 2 ^ (((fs.filter fun f => f.bound = .input).map fun f => f.width).foldl (· + ·) 0) - 1
  | _ => 0

/-- Slots that an object takes (R295). -/
def slotsOf (p : Params) : Nat :=
  match p with
  | .generic fs =>
    if 32 < ((fs.filter fun f => f.bound ≠ .computed).map fun f => f.width).foldl (· + ·) 0 then 2 else 1
  | _ => 1

/-- The report slot value of an object in a telegram (R295). -/
def slotValue (d : ObjDecl) (slot : Nat) (slots : List W32) : W64 :=
  let lo := ((slots[slot]?).getD 0).setWidth 64
  if slotsOf d.params = 2 then lo ||| (((slots[slot + 1]?).getD 0).setWidth 64 <<< 32) else lo

/-- The objects bound to a slot of a partner's telegram (R295). -/
def boundTo (i : Image) (node : Node) (slot : Nat) : Option ObjDecl :=
  i.objects.find? fun d => match d.source with
    | .partner n s n2 => (n = node || n2 = some node) && s = slot
    | _ => false

/-- The nodes that feed an object. -/
def nodesOf (d : ObjDecl) : List Node :=
  match d.source with
  | .partner n _ n2 => n :: n2.toList
  | _ => []

end Sys2Proof.Machine
end

