-- ==== Sys2Proof/Machine/Objects.lean ====
section
/-! DEFINITION. The object state machines (R93 to R115): one step of each type in a Develop, the moves of
points, the claims of flanks, and what objects put on channels and into telegram slots. -/

namespace Sys2Proof.Machine

/-- What a cycle brings for every object step: image, consensus cycle time, settle period in force. -/
structure Env where
  img : Image
  now : Ticks
  settle : Bool
  holds : Bool := true
  deriving DecidableEq, Repr

/-- What the source of an object brings in a cycle. -/
inductive SourceIn where
  | internal
  | invalid (partnerLost : Bool)
  | valid (report : W64) (node : Node) (seq : W32)
  deriving DecidableEq, Repr

/-- Source bookkeeping of one cycle (R84, R85, R87, R88). A source just lost puts the object at its
safe value. -/
def sourceStep (d : ObjDecl) (now : Ticks) (x : SourceIn) (o : Obj) : Obj :=
  match x with
  | .internal => o
  | .valid _ node seq =>
    { o with stale := false, freshRun := o.freshRun + 1, lastFresh := now, appliedSeq := some (node, seq) }
  | .invalid gone =>
    let o := { o with freshRun := 0 }
    let isLocal := match d.source with
      | .locally _ => true
      | _ => false
    if o.lost then { o with stale := false }
    else if isLocal || gone || tk d.tLoss ≤ now - o.lastFresh then
      { o with lost := true, stale := false, body := safeBody d now o.body }
    else { o with stale := true }

/-! POINT (R93 to R96) -/

/-- One report of a point's source (R95, R296). -/
def pointReport (facing : Bool) (w : W64) (o : Obj) (p : PointSt) : Obj :=
  let pos : BitVec 2 := w.setWidth 2
  let p' := { p with lockProven := facing && w.getLsbD 2, pos := pos }
  if p.moving && pos = p.cmd then
    { o with fault := false, body := .point { p' with cmd := 0, moving := false } }
  else if pos = 3 then { o with fault := true, body := .point p' }
  else if p.moving then { o with body := .point p' }
  else
    let was := p.pos = 1 || p.pos = 2
    { o with fault := o.fault || (was && pos ≠ p.pos), body := .point p' }

/-- The move time limit (R95). -/
def pointTime (limit : Nat) (now : Ticks) (o : Obj) : Obj :=
  match o.body with
  | .point p =>
    if p.moving && !o.stale then
      let e := (now - p.start) / 10000
      if limit ≤ e then
        { o with fault := true, body := .point { p with pos := 0, cmd := 0, moving := false, elapsed := min 65535 e } }
      else { o with body := .point { p with elapsed := min 65535 e } }
    else o
  | _ => o

/-- A drive commanded (R95): CMD set, MOVE_ELAPSED restarts, MOVES increments. -/
def startMove (pos : Pos) (now : Ticks) (p : PointSt) : PointSt :=
  { p with cmd := BitVec.ofNat 2 pos.code, moving := true, start := now, elapsed := 0, moves := p.moves + 1 }

/-- Already detected there, or already moving there (R95, R133). -/
def atOrMoving (p : PointSt) (pos : Pos) : Bool :=
  if p.moving then p.cmd.toNat = pos.code else p.pos.toNat = pos.code

/-- A move commanded by a route or a FLANK object whose own lock, the `own` newest holders, is
disregarded (R133, R134). -/
def routeMove (e : Env) (oid : Nat) (pos : Pos) (own : Nat) (r : Rail) : Rail :=
  match r.obj? oid with
  | some o =>
    match o.body with
    | .point p =>
      if !atOrMoving p pos && o.lock.count ≤ own && moveFree e.img r o then
        r.modBody oid fun _ => .point (startMove pos e.now p)
      else r
    | _ => r
  | none => r

/-! SIGNAL (R97 to R99) -/

def Aspect.rankOf (as : List Aspect) (code : BitVec 4) : Nat :=
  match as.find? fun a => a.code = code with
  | some a => a.rank
  | none => 0

/-- The permitted aspect (R99, R152). -/
def permitted (as : List Aspect) (o : Obj) (s : SignalSt) : BitVec 4 :=
  if !s.proceedOk || o.blocked || o.lost || s.lampFault then 0
  else
    let top := match s.limit with
      | some c => Aspect.rankOf as (BitVec.ofNat 4 c)
      | none => as.foldl (fun m a => max m a.rank) 0
    let ok := as.filter fun a => a.rank ≤ top
    let best := ok.foldl (fun m a => max m a.rank) 0
    let cands := ok.filter fun a => a.rank = best
    match s.limit with
    | some c =>
      if cands.any fun a => a.code.toNat = c then BitVec.ofNat 4 c
      else match cands with
        | a :: _ => a.code
        | [] => 0
    | none =>
      match cands with
      | a :: _ => a.code
      | [] => 0

/-- Follows the agreement of the shown with the commanded aspect (R98). -/
def track (now : Ticks) (s : SignalSt) : SignalSt :=
  if s.shownValid && s.shown = s.cmd then
    { s with differSince := none, agreeSince := some (s.agreeSince.getD now) }
  else { s with agreeSince := none, differSince := some (s.differSince.getD now) }

/-- A change of CMD_ASPECT (R97, R98). -/
def setAspect (now : Ticks) (a : BitVec 4) (s : SignalSt) : SignalSt :=
  track now { s with
    cmd := a, changeT := now, aspectTime := 0, agreeSince := none, differSince := none, unprovenSince := some now }

def aspectTime (now : Ticks) (s : SignalSt) : SignalSt :=
  { s with aspectTime := min 65535 ((now - s.changeT) / 1000000) }

/-- Follows the time without proof of the commanded aspect (R98, R99). -/
def watch (proving : Nat) (now : Ticks) (s : SignalSt) : SignalSt :=
  { s with unprovenSince := if s.proven proving now then none else some (s.unprovenSince.getD now) }

/-- More than the proving time has passed since an instant (R99). -/
def longerThan (proving : Nat) (now : Ticks) : Option Ticks → Bool
  | some d => tk proving < now - d
  | none => false

/-- The proving time passed (R99): LAMP_FAULT at proceed after a difference longer than it, STOP_UNPROVEN at stop after a
longer time without proof of the stop aspect. -/
def provingTimeout (proving : Nat) (now : Ticks) (o : Obj) (s : SignalSt) : Obj × SignalSt :=
  if o.stale || o.lost then (o, s)
  else if s.cmd ≠ 0 then
    if longerThan proving now s.differSince then ({ o with fault := true }, { setAspect now 0 s with lampFault := true })
    else (o, s)
  else if longerThan proving now s.unprovenSince then ({ o with fault := true }, { s with stopUnproven := true })
  else (o, s)

/-- The stop aspect proven again clears both bits and FAULT (R99). -/
def stopRestored (proving : Nat) (now : Ticks) (o : Obj) (s : SignalSt) : Obj × SignalSt :=
  match s.agreeSince with
  | some a =>
    if s.cmd = 0 && (s.lampFault || s.stopUnproven) && tk proving ≤ now - a && !o.stale then
      ({ o with fault := false }, { s with lampFault := false, stopUnproven := false })
    else (o, s)
  | none => (o, s)

/-- The commanded aspect follows the permitted one (R99). -/
def followPermitted (proving : Nat) (as : List Aspect) (now : Ticks) (o : Obj) (s : SignalSt) : SignalSt :=
  let p := permitted as o s
  if p = s.cmd then s
  else if p = 0 then setAspect now 0 s
  else if Aspect.rankOf as p < Aspect.rankOf as s.cmd then setAspect now p s
  else if s.proven proving now && !s.stopUnproven && !o.stale then setAspect now p s
  else s

def signalStep (proving : Nat) (as : List Aspect) (now : Ticks) (reports : List W64) (o : Obj)
    (s : SignalSt) : Obj :=
  if o.lost then
    let s := { s with shownValid := false, shown := 0 }
    let s := if s.cmd = 0 then track now s else setAspect now 0 s
    { o with body := .signal (aspectTime now s) }
  else
    let s := reports.foldl (fun s w =>
      { s with shownValid := w.getLsbD 4, shown := if w.getLsbD 4 then w.setWidth 4 else 0 }) s
    let s := if o.stale then s else watch proving now (track now s)
    let x := provingTimeout proving now o s
    let x := stopRestored proving now x.1 x.2
    { x.1 with body := .signal (aspectTime now (followPermitted proving as now x.1 x.2)) }

/-! SECTION (R100 to R102) -/

/-- One report of a section's source (R101, R296). A cycle without a report leaves the clear delay running (DESIGN CHOICE,
log 119); every report with AXLES not 0 after a reset counts as axles counted in (DESIGN CHOICE, log 120). -/
def sectionReport (delay : Nat) (axle : Bool) (now : Ticks) (w : W64) (o : Obj) (s : SectionSt) :
    Obj × SectionSt :=
  let code := w.toNat % 4
  let s := if axle then { s with axles := BitVec.ofNat 16 (bitsOf w.toNat 31 16) } else s
  if axle && code = 2 then
    if s.occ = .disturbed then (o, s) else ({ o with fault := true }, setOcc now .disturbed s)
  else
    match s.occ with
    | .clear => if code = 0 then (o, s) else (o, setOcc now .occupied s)
    | .occupied =>
      if code = 0 then
        let since := s.clearSince.getD now
        if tk delay ≤ now - since then (o, setOcc now .clear s)
        else (o, { s with clearSince := some since })
      else (o, { s with clearSince := none })
    | .disturbed => (o, s)
    | .resetPending =>
      if s.axles ≠ 0 then (o, { s with countedIn := true })
      else if s.countedIn && code = 0 then ({ o with fault := false }, setOcc now .clear s)
      else (o, s)

def occTime (now : Ticks) (s : SectionSt) : SectionSt :=
  { s with occTime := min 65535 ((now - s.changeT) / 1000000) }

def sectionStep (delay : Nat) (axle : Bool) (now : Ticks) (reports : List W64) (o : Obj) (s : SectionSt) : Obj :=
  if o.lost then { o with body := .stretch (occTime now (setOcc now .occupied s)) }
  else
    let x := reports.foldl (fun x w => sectionReport delay axle now w x.1 x.2) (o, s)
    { x.1 with body := .stretch (occTime now x.2) }

/-! OVERLAP (R104, R105) and FLANK (R106, R107) -/

def facingLock (i : Image) (oid : Nat) : Bool :=
  match i.decl? oid with
  | some { params := .point _ facing _, .. } => facing
  | _ => false

/-- A point that a route's overlap or flank needs in a position is there: POS shows it, and its lock is proven where the
facing lock flag is yes (R94). -/
def Rail.pointAt (r : Rail) (i : Image) (oid : Nat) (pos : Pos) : Bool :=
  match r.obj? oid with
  | some { lost, body := .point p, .. } =>
    !lost && p.pos.toNat = pos.code && !p.moving && (!facingLock i oid || p.lockProven)
  | _ => false

/-- Section reads CLEAR as committed, stale or not. -/
def Rail.readsClear (r : Rail) (oid : Nat) : Bool :=
  match r.obj? oid with
  | some { body := .stretch s, .. } => s.occ = .clear
  | _ => false

/-- One lock of a holder withdrawn from an object (R125, R140). -/
def unlockOne (l : LockEntry) : LockEntry :=
  if l.mode = .shared && 1 < l.count then { l with count := l.count - 1 } else {}

def Rail.unlock (r : Rail) (oid : Nat) : Rail := r.modObj oid fun o => { o with lock := unlockOne o.lock }

/-- The last claim of a FLANK object, or one of several, withdrawn (R107). -/
def releaseFlank (i : Image) (oid : Nat) (r : Rail) : Rail :=
  match r.obj? oid, i.decl? oid with
  | some { body := .flank f, .. }, some { params := .flank _ _ el, .. } =>
    let r := r.unlock oid
    if f.claims ≤ 1 then (r.modBody oid fun _ => .flank {}).unlock el
    else r.modBody oid fun _ => .flank { f with claims := f.claims - 1 }
  | _, _ => r

/-- A claim of a FLANK object (R107, R125, R133): from FREE it locks its element in REQ and moves a
point there. -/
def claimFlank (e : Env) (oid : Nat) (r : Rail) : Rail :=
  match r.obj? oid, e.img.decl? oid with
  | some { body := .flank f, .. }, some { params := .flank sig req el, .. } =>
    let r := r.modObj oid fun o =>
      { o with lock := { mode := .shared, pos := none, count := o.lock.count + 1, owner := 0 } }
    if f.state = .free then
      let r := r.modBody oid fun _ => .flank { state := .claimed, claims := 1 }
      let r := r.modObj el fun o =>
        { o with lock := { mode := .shared, pos := if sig then none else some req,
                           count := o.lock.count + 1, owner := 0 } }
      if sig then r else routeMove e el req 1 r
    else r.modBody oid fun _ => .flank { f with claims := f.claims + 1 }
  | _, _ => r

def flankStep (e : Env) (oid : Nat) (r : Rail) : Rail :=
  match r.obj? oid, e.img.decl? oid with
  | some { body := .flank f, .. }, some { params := .flank sig req el, .. } =>
    let good := if sig then stopProven e.img { r with time := e.now } el else r.pointAt e.img el req
    if f.state = .claimed && good && !r.isStale el then r.modBody oid fun _ => .flank { f with state := .proven }
    else if f.state = .proven && !good then r.modBody oid fun _ => .flank { f with state := .claimed }
    else r
  | _, _ => r

/-- The overlap returns to FREE: its own lock and the locks on the elements of ALT are withdrawn
(R105, R140). -/
def freeOverlap (i : Image) (oid : Nat) (r : Rail) : Rail :=
  match r.obj? oid, i.decl? oid with
  | some { body := .overlap o, .. }, some { params := .overlap _ alts _, .. } =>
    if o.state = .free then r
    else
      let alt := (alts[o.alt]?).getD { points := [], sections := [] }
      let r := alt.points.foldl (fun r x => r.unlock x.1) r
      let r := alt.sections.foldl (fun r x => r.unlock x) r
      (r.unlock oid).modBody oid fun _ => .overlap {}
  | _, _ => r

/-- The route that owns an overlap has released its last section: it is IDLE while the overlap is
still locked (R105, R140). -/
def ownerDone (i : Image) (r : Rail) (rid : BitVec 12) : Bool :=
  match r.route? i rid with
  | some x => x.state = .idle
  | none => true

def overlapStep (e : Env) (oid : Nat) (r : Rail) : Rail :=
  match r.obj? oid, e.img.decl? oid with
  | some { body := .overlap o, .. }, some { params := .overlap release alts berth, .. } =>
    let alt := (alts[o.alt]?).getD { points := [], sections := [] }
    let clear := alt.sections.all r.readsClear
    let points := alt.points.all fun x => r.pointAt e.img x.1 x.2
    let stale := (alt.sections ++ alt.points.map (·.1)).any r.isStale
    let set := fun (x : OverlapSt) => r.modBody oid fun _ => .overlap x
    let berthed := !r.readsClear berth && ownerDone e.img r o.owner
    match o.state with
    | .free => r
    | .locked =>
      if points && clear && !stale then set { o with state := .proven }
      else if berthed then
        set { o with state := .releasing, timerStart := e.now, timerEnd := some (e.now + tk release) }
      else r
    | .proven =>
      if !points || !clear then set { o with state := .locked }
      else if berthed then
        set { o with state := .releasing, timerStart := e.now, timerEnd := some (e.now + tk release) }
      else r
    | .releasing =>
      if (o.timerEnd.getD 0) ≤ e.now && clear && !(alt.sections.any r.isStale) && !r.isStale berth then
        freeOverlap e.img oid r
      else r
  | _, _ => r

/-! CROSSING (R108, R109, R360) -/

/-- One report of a crossing's source (R296). -/
def crossingReport (w : W64) (c : CrossingSt) : CrossingSt :=
  { c with down := w.getLsbD 0, up := w.getLsbD 1, lightsOk := w.getLsbD 2, obstacleFree := w.getLsbD 3 }

/-- The hold of CLOSE_REQ in a settle period at the first consensus report (R360). -/
def settleReport (w : W64) (c : CrossingSt) : CrossingSt :=
  if c.hold = .untilReport then
    { c with hold := if w.getLsbD 1 && !w.getLsbD 2 then .none else .rest }
  else c

/-- CLOSE_REQ: a locked route claims the crossing, strike-in, or the settle hold (R133, R152, R360). -/
def closeReq (settle : Bool) (o : Obj) (c : CrossingSt) : Bool :=
  0 < o.lock.count || c.strikeIn || (settle && c.hold ≠ .none)

def crossingFail (c : CrossingSt) : CrossingSt :=
  { c with state := .failed, raise := false, lightsOff := false, timerEnd := none }

/-- One transition of R109; `stale` bars the rows that R109 names. -/
def crossingMove (warning closing : Nat) (now : Ticks) (o : Obj) (c : CrossingSt) : Obj × CrossingSt :=
  let c := if c.closeReq then { c with barred := false } else c
  let expired := match c.timerEnd with
    | some t => decide (t ≤ now)
    | none => false
  let fresh := !o.stale
  let warn := { c with state := .warning, lightsOff := false, raise := true, timerStart := now,
                       timerEnd := some (now + tk warning) }
  let flt := { o with fault := true }
  match c.state with
  | .opened => if c.closeReq then (o, warn) else (o, c)
  | .warning =>
    if expired then
      if c.lightsOk then
        (o, { c with state := .closing, raise := false, timerStart := now, timerEnd := some (now + tk closing) })
      else (flt, crossingFail c)
    else (o, c)
  | .closing =>
    if c.down && c.obstacleFree && c.lightsOk && fresh then (o, { c with state := .closed, timerEnd := none })
    else if expired then (flt, crossingFail c)
    else (o, c)
  | .closed =>
    if !c.down || !c.lightsOk || !c.obstacleFree then (flt, crossingFail c)
    else if !c.closeReq && fresh then (o, { c with state := .opening, raise := true })
    else (o, c)
  | .opening =>
    if c.closeReq then (o, warn)
    else if c.up && fresh then (o, { c with state := .opened, lightsOff := true })
    else (o, c)
  | .failed =>
    if !c.raise then
      if !c.closeReq && fresh && !o.lost && !c.barred then
        (o, { c with raise := true, lightsOff := false, timerStart := now, timerEnd := some (now + tk closing) })
      else (o, c)
    else if !c.lightsOff && c.up && !c.closeReq && fresh then (o, { c with lightsOff := true })
    else if c.lightsOff && c.up && !c.lightsOk && !c.closeReq && fresh then
      ({ o with fault := false }, { c with state := .opened, timerEnd := none })
    else if expired then (flt, { crossingFail c with barred := true })
    else if c.closeReq then (o, crossingFail c)
    else (o, c)

def crossingStep (e : Env) (warning closing : Nat) (reports : List W64) (o : Obj) (c : CrossingSt) : Obj :=
  let c := { c with closeReq := closeReq e.settle o c }
  if o.lost then { o with body := .crossing { crossingFail c with barred := c.barred && !c.closeReq } }
  else
    let c := reports.foldl (fun c w => crossingReport w c) c
    let x := crossingMove warning closing e.now o c
    { x.1 with body := .crossing x.2 }

/-! BLOCK (R110, R111) -/

/-- Bit of an indication. -/
def ind (w : BitVec 16) (k : Nat) : Bool := w.getLsbD k

/-- A report that the own state does not permit (R360; log 14). -/
def blockContradicts (b : BlockBits) (x : BlockSt) : Bool :=
  let r := x.received
  (ind r b.inGrant && !(x.state = .requested || x.state = .grantedOut || x.state = .trainOut)) ||
  (ind r b.inDeparture && !(x.state = .grantedIn || x.state = .trainIn)) ||
  (ind r b.inRequest && !(x.state = .normal || x.state = .grantedIn || x.state = .trainIn))

/-- Indications sent, by state (R111; log 14). Arrival complete stays until the block leaves NORMAL. -/
def blockSent (b : BlockBits) (x : BlockSt) (arrival : Bool) : BitVec 16 :=
  let on := fun (k : Nat) (c : Bool) => if c then (1 : BitVec 16) <<< k else 0
  on b.outRequest (x.state = .requested) ||| on b.outGrant (x.state = .grantedIn) |||
    on b.outNormal (x.state = .normal) ||| on b.outArrival (x.state = .normal && arrival)

/-- One transition of R111. The second part says whether arrival complete is reported now. -/
def blockMove (e : Env) (r : Rail) (dep arr : Nat) (b : BlockBits) (o : Obj) (x : BlockSt) : BlockSt × Bool :=
  let rx := x.received
  match x.state with
  | .normal =>
    if ind rx b.inRequest && o.lock.mode = .none && !e.settle && !o.stale then ({ x with state := .grantedIn }, false)
    else (x, ind x.sent b.outArrival)
  | .requested =>
    if ind rx b.inGrant && !o.stale then ({ x with state := .grantedOut }, false)
    else if ind rx b.inRefuse || o.lock.mode = .none then ({ x with state := .normal }, false)
    else (x, false)
  | .grantedOut =>
    if !r.readsClear dep then ({ x with state := .trainOut, trainOnLine := true }, false) else (x, false)
  | .trainOut =>
    if ind rx b.inArrival && !o.stale then ({ x with state := .normal, trainOnLine := false }, false) else (x, false)
  | .grantedIn =>
    if ind rx b.inDeparture then ({ x with state := .trainIn, trainOnLine := true, arrivalSeen := false }, false)
    else (x, false)
  | .trainIn =>
    if !r.readsClear arr then ({ x with arrivalSeen := true }, false)
    else if x.arrivalSeen && r.sectionClear arr then
      ({ x with state := .normal, trainOnLine := false, arrivalSeen := false }, true)
    else (x, false)
  | .failed => (x, false)

def blockStep (e : Env) (r : Rail) (dep arr : Nat) (b : BlockBits) (reports : List W64) (o : Obj) (x : BlockSt) :
    Obj :=
  if o.lost then { o with body := .block { x with state := .failed, sent := 0 } }
  else
    let x := reports.foldl (fun x w => { x with received := w.setWidth 16 }) x
    if e.settle && !reports.isEmpty && blockContradicts b x then
      { o with body := .block { x with state := .failed, trainOnLine := true, sent := 0 } }
    else
      let m := blockMove e r dep arr b o x
      { o with body := .block { m.1 with sent := blockSent b m.1 m.2 } }

/-! ZONE (R112, R113) -/

def pointsSettled (r : Rail) (points : List Nat) : Bool :=
  points.all fun p => match r.obj? p with
    | some { lost, stale, body := .point x, .. } => !lost && !stale && (x.pos = 1 || x.pos = 2) && !x.moving
    | _ => false

def zoneMove (r : Rail) (points : List Nat) (z : ZoneSt) : ZoneSt :=
  match z.state with
  | .main => if z.localReq then { z with state := .requested } else z
  | .requested => if z.localReq then z else { z with state := .main }
  | .granted => if z.keyRestored then { z with state := .returning, permit := false } else z
  | .returning => if pointsSettled r points then { z with state := .main, barred := false } else z
  | .unknown => if z.keyRestored then { z with state := .returning } else z

def zoneStep (r : Rail) (points : List Nat) (reports : List W64) (o : Obj) (z : ZoneSt) : Obj :=
  if o.lost then { o with body := .zone { z with state := .unknown, barred := true, permit := false } }
  else
    let z := reports.foldl (fun z w => { z with localReq := w.getLsbD 0, keyRestored := w.getLsbD 1 }) z
    { o with body := .zone (if o.stale then z else zoneMove r points z) }

/-! GENERIC (R114) -/

/-- A field written into a state word body, saturated to its width (R149). -/
def putField (f : GField) (v : Nat) (g : BitVec 48) : BitVec 48 :=
  (g &&& ~~~(BitVec.ofNat 48 ((2 ^ f.width - 1) * 2 ^ f.lo))) |||
    BitVec.ofNat 48 (at_ f.lo (min v (2 ^ f.width - 1)))

def genericReport (fs : List GField) (w : W64) (g : BitVec 48) : BitVec 48 :=
  (packed fs .input).foldl (fun g x => putField x.1 (w.toNat / 2 ^ x.2 % 2 ^ x.1.width) g) g

def genericStep (fs : List GField) (reports : List W64) (o : Obj) (g : BitVec 48) : Obj :=
  if o.lost then o else { o with body := .generic (reports.foldl (fun g w => genericReport fs w g) g) }

/-! The step of any object -/

/-- The state machine of one object in a Develop, on the reports that reach it (R154). -/
def objectStep (e : Env) (d : ObjDecl) (reports : List W64) (r : Rail) : Rail :=
  match r.obj? d.oid with
  | none => r
  | some o =>
    match d.params, o.body with
    | .point limit facing _, .point _ =>
      let o := if o.lost then o else reports.foldl (fun o w => match o.body with
        | .point p => pointReport facing w o p
        | _ => o) o
      r.modObj d.oid fun _ => pointTime limit e.now o
    | .signal proving as, .signal s => r.modObj d.oid fun _ => signalStep proving as e.now reports o s
    | .stretch delay axle _, .stretch s => r.modObj d.oid fun _ => sectionStep delay axle e.now reports o s
    | .overlap _ _ _, .overlap _ => overlapStep e d.oid r
    | .flank _ _ _, .flank _ => flankStep e d.oid r
    | .crossing w c _, .crossing x => r.modObj d.oid fun _ => crossingStep e w c reports o x
    | .block _ dep arr b, .block x => r.modObj d.oid fun _ => blockStep e r dep arr b reports o x
    | .zone points _ _, .zone z => r.modObj d.oid fun _ => zoneStep r points reports o z
    | .generic fs, .generic g => r.modObj d.oid fun _ => genericStep fs reports o g
    | _, _ => r

/-- The state that a type's recovery row gives (R95, R99, R101, R109, R111, R113, R114). -/
def recoverBody (d : ObjDecl) (now : Ticks) (w : W64) (o : Obj) : Obj :=
  let o := { o with lost := false }
  match d.params, o.body with
  | .point _ facing _, .point p =>
    let pos : BitVec 2 := w.setWidth 2
    { o with fault := o.fault || pos = 3,
             body := .point { p with pos := pos, cmd := 0, moving := false, lockProven := facing && w.getLsbD 2 } }
  | .signal _ _, .signal s =>
    let shown := if w.getLsbD 4 then w.setWidth 4 else 0
    let s := { s with shownValid := w.getLsbD 4, shown := shown, agreeSince := none, differSince := none,
                      unprovenSince := some now }
    { o with body := .signal (track now s) }
  | .stretch delay axle _, .stretch s =>
    if axle then
      let s := { setOcc now .disturbed s with axles := BitVec.ofNat 16 (bitsOf w.toNat 31 16) }
      { o with fault := true, body := .stretch s }
    else
      let x := sectionReport delay false now w o { s with clearSince := none }
      { x.1 with body := .stretch x.2 }
  | .crossing _ _ _, .crossing c => { o with body := .crossing (crossingReport w c) }
  | .block _ _ _ _, .block b => { o with body := .block { b with received := w.setWidth 16 } }
  | .zone _ _ _, .zone z =>
    let z := { z with localReq := w.getLsbD 0, keyRestored := w.getLsbD 1 }
    { o with body := .zone (if z.keyRestored then { z with state := .returning } else z) }
  | .generic fs, .generic g => { o with body := .generic (genericReport fs w g) }
  | _, _ => o

/-! What objects command (R89, R115, R296) -/

/-- The command slot of an object (R296). -/
def commandSlot (d : ObjDecl) (o : Obj) : Nat :=
  match d.params, o.body with
  | .point _ _ _, .point p => p.cmd.toNat
  | .signal _ _, .signal s => s.cmd.toNat
  | .crossing _ _ _, .crossing c => boolNat c.lightsOff + 2 * boolNat c.raise
  | .block _ _ _ _, .block b => b.sent.toNat
  | .zone _ _ _, .zone z => boolNat z.permit
  | .generic fs, .generic g =>
    (packed fs .output).foldl (fun a x => a + at_ x.2 (fieldOf g x.1.lo x.1.width)) 0
  | _, _ => 0

/-- The safe form of an object's command slot (R296). -/
def safeSlot (d : ObjDecl) : Nat :=
  match d.params with
  | .generic fs => (packed fs .output).foldl (fun a x => a + at_ x.2 (x.1.safe % 2 ^ x.1.width)) 0
  | _ => 0

/-- Whether an object energises the channel of a role (R115). A LOST object commands its safe value. -/
def drives (d : ObjDecl) (o : Obj) (role : Role) : Bool :=
  match role, d.params, o.body with
  | .driveN, _, .point p => p.cmd = 1
  | .driveR, _, .point p => p.cmd = 2
  | .lamp g, .signal _ as, .signal s =>
    match as.find? fun a => a.code = s.cmd with
    | some a => a.lamps.contains g
    | none => false
  | .lightsOff, _, .crossing c => c.lightsOff
  | .raised, _, .crossing c => c.raise
  | .indOut k, _, .block b => b.sent.getLsbD k
  | .permit, _, .zone z => z.permit
  | .fieldOut k, .generic fs, .generic g =>
    match (packed fs .output)[k]? with
    | some x => fieldOf g x.1.lo x.1.width = 1
    | none => false
  | _, _, _ => false

/-- The local output values of a railway state (R89, R115). -/
def localOutputs (i : Image) (r : Rail) : Chans :=
  i.objects.foldl (fun v d =>
    match d.source, r.obj? d.oid with
    | .locally bind, some o => bind.foldl (fun v x => if drives d o x.1 then v ||| chBit x.2.val else v) v
    | _, _ => v) 0

/-- Local points whose drives to normal and to reverse a vote would both energise, with the two channels (R115). -/
def twinDrives (i : Image) (v : Chans) : List (Nat × Chans) :=
  i.objects.filterMap fun d => match d.source with
    | .locally bind =>
      match bind.find? fun x => x.1 = .driveN, bind.find? fun x => x.1 = .driveR with
      | some x, some y => if v.getLsbD x.2.val && v.getLsbD y.2.val then some (d.oid, chBit x.2.val ||| chBit y.2.val) else none
      | _, _ => none
    | _ => none

/-- Both drives of such a point are commanded off (R115). -/
def singleDrives (i : Image) (v : Chans) : Chans := (twinDrives i v).foldl (fun v x => v &&& ~~~x.2) v

/-- FAULT is set on such a point (R115). -/
def faultTwins (i : Image) (v : Chans) (r : Rail) : Rail :=
  (twinDrives i v).foldl (fun r x => r.modObj x.1 fun o => { o with fault := true }) r

/-- The command slots for a partner (R295). -/
def commandSlots (i : Image) (r : Rail) (node : Node) (n : Nat) (safe : Bool) : List W32 :=
  let value := fun (d : ObjDecl) =>
    if safe then safeSlot d else match r.obj? d.oid with
      | some o => commandSlot d o
      | none => safeSlot d
  (List.range n).map fun k =>
    match boundTo i node k with
    | some d => BitVec.ofNat 32 (value d)
    | none =>
      match boundTo i node (k - 1) with
      | some d => if 0 < k && slotsOf d.params = 2 then BitVec.ofNat 32 (value d / 2 ^ 32) else 0
      | none => 0

end Sys2Proof.Machine
end

