-- ==== Sys2Proof/Machine/Sheet.lean ====
section
/-! DEFINITION. The Contact Sheet: rows (R117 to R123), claims (R124, R125), the locking pass (R128 to
R134), the route transitions (R135 to R142) and sectional release (R139, R140). -/

namespace Sys2Proof.Machine

/-- What a request asks of a route (R250 to R252). -/
inductive RouteOp where
  | set (mayWait : Bool) (limitMs : Nat)
  | cancel
  | step1
  | step2
  deriving DecidableEq, Repr

/-- A request in the locking pass: a command of the cut, or one of the waiting list. -/
structure Req where
  rid : BitVec 12
  what : RouteOp
  sid : Nat
  op : W16
  cmdSeq : W32
  adm : W32
  tray : Nat
  waiting : Bool
  since : Ticks
  deriving DecidableEq, Repr

/-- Results of a route's rows (R117, R123, R127, R129). -/
structure Rows where
  setOk : Bool
  holdOn : Bool
  clearOk : Bool
  mask : List Nat
  conflict : Bool
  falseAt : Option (Nat × Literal)
  deriving DecidableEq, Repr

def RouteDecl.set (d : RouteDecl) : List Literal := rowLiterals d.settable
def commonOf (l : List Literal) : List Literal := l.filter fun x => x.alt = 0
def altOf (l : List Literal) (k : Nat) : List Literal := l.filter fun x => x.alt = 4 + k

def Rail.routeSt (r : Rail) (oid : Nat) : RouteSt :=
  match r.obj? oid with
  | some { body := .route x, .. } => x
  | _ => {}

/-- The rows of a route on the committed state (R117, R121, R123, R126). -/
def rowsOf (i : Image) (base : Rail) (d : RouteDecl) : Rows :=
  let lits := d.set
  let mask := (List.range (min d.alts 4)).filter fun k => (altOf lits k).all (holds i base true)
  let common := (commonOf lits).all (holds i base true)
  let falses := lits.zipIdx.filter fun x => !holds i base true x.1
  let cleared := (base.routeSt d.oid).state = .cleared
  { setOk := common && (d.alts = 0 || !mask.isEmpty)
    holdOn := (rowLiterals d.hold).any (holds i base false)
    clearOk := (rowLiterals d.clear).all (holds i base (!cleared))
    mask := mask
    conflict := falses.any fun x => readsLock base x.1
    falseAt := (falses.head?).map fun x => (x.2, x.1) }

/-- The row result byte (R127). -/
def Rows.byte (x : Rows) : Byte :=
  BitVec.ofNat 8 (128 * boolNat x.setOk + 64 * boolNat x.holdOn + 32 * boolNat x.clearOk +
    x.mask.foldl (fun a k => a + 2 ^ k) 0)

/-- A shared claim, in a position or in none, is compatible with a lock entry (R125). -/
def LockEntry.shares (e : LockEntry) (pos : Option Pos) : Bool :=
  e.mode = .none || (e.mode = .shared && e.pos = pos && e.count < 63)

/-- The claim that a literal bears is compatible with the lock entry now, and so is the lock that a FREE FLANK object
would place on its element (R125). -/
def compatible (i : Image) (r : Rail) (l : Literal) : Bool :=
  match r.obj? l.oid with
  | none => false
  | some o =>
    match o.body with
    | .point _ => o.lock.shares (some (if l.pred = 11 then Pos.normal else .reverse))
    | .flank f => o.lock.shares none && (f.state ≠ .free || match i.decl? l.oid with
        | some { params := .flank sig req el, .. } =>
          match r.obj? el with
          | some x => x.lock.shares (if sig then none else some req)
          | none => false
        | _ => false)
    | .crossing _ => o.lock.shares none
    | _ => o.lock.mode = .none

/-- One claim taken for a route with alternative `alt` (R124, R133). -/
def takeClaim (e : Env) (rid : BitVec 12) (alt : Nat) (l : Literal) (r : Rail) : Rail :=
  let exclusive : LockEntry := { mode := .exclusive, count := 1, owner := rid }
  match r.obj? l.oid with
  | none => r
  | some o =>
    match o.body with
    | .point _ =>
      let pos := if l.pred = 11 then Pos.normal else .reverse
      r.modObj l.oid fun o => { o with lock := { mode := .shared, pos := some pos, count := o.lock.count + 1 } }
    | .flank _ => claimFlank e l.oid r
    | .crossing c => r.modObj l.oid fun o =>
        { o with lock := { mode := .shared, count := o.lock.count + 1 }, body := .crossing { c with closeReq := true } }
    | .overlap _ => r.modObj l.oid fun o =>
        { o with lock := exclusive, body := .overlap { state := .locked, alt := alt, owner := rid } }
    | .block b => r.modObj l.oid fun o =>
        { o with lock := exclusive, body := .block { b with state := if b.state = .normal then .requested else b.state } }
    | .signal s => r.modObj l.oid fun o =>
        { o with lock := exclusive, body := .signal { s with routeId := rid, routeValid := true } }
    | _ => r.modObj l.oid fun o => { o with lock := exclusive }

/-- The move that a claim on a point asks for (R133, R134). -/
def claimMove (e : Env) (l : Literal) (r : Rail) : Rail :=
  match r.obj? l.oid with
  | some { body := .point _, .. } => routeMove e l.oid (if l.pred = 11 then .normal else .reverse) 1 r
  | _ => r

def Rail.modRoute (r : Rail) (oid : Nat) (f : RouteSt → RouteSt) : Rail :=
  r.modBody oid fun b => match b with
    | .route x => .route (f x)
    | b => b

/-- The claims of a route with an alternative, in the order of the row. -/
def claimsOf (d : RouteDecl) (alt : Option Nat) : List Literal :=
  d.set.filter fun l => l.claim && (l.alt = 0 || alt.any fun k => l.alt = 4 + k)

/-- The first of a route's claims that is not compatible with the lock table, the claims before it taken (R124, R125). -/
def clash (e : Env) (rid : BitVec 12) (alt : Nat) : List Literal → Rail → Option Literal
  | [], _ => none
  | l :: rest, r =>
    if compatible e.img r l then clash e rid alt rest (takeClaim e rid alt l r) else some l

/-- Locks a route (R133). -/
def lockRoute (e : Env) (d : RouteDecl) (alt : Option Nat) (r : Rail) : Rail :=
  let cl := claimsOf d alt
  let r := cl.foldl (fun r l => takeClaim e d.rid (alt.getD 0) l r) r
  let r := cl.foldl (fun r l => claimMove e l r) r
  r.modRoute d.oid fun x => { x with
    state := .locked, waiting := false, armed := false, relIndex := 0, timerEnd := none, seen := 0,
    fellBack := false, permit := true, alt := alt }

/-- One claim withdrawn from an object (R140); the overlap claim is not withdrawn here. -/
def dropClaim (i : Image) (rid : BitVec 12) (l : Literal) (r : Rail) : Rail :=
  match r.obj? l.oid with
  | none => r
  | some o =>
    match o.body with
    | .overlap _ => r
    | .flank _ => releaseFlank i l.oid r
    | .signal s =>
      if o.lock.owner = rid then
        r.modObj l.oid fun o => { o with lock := {}, body := .signal { s with routeValid := false } }
      else r
    | .point _ => r.unlock l.oid
    | .crossing _ => r.unlock l.oid
    | _ => if o.lock.mode = .exclusive && o.lock.owner = rid then r.unlock l.oid else r

/-- Common claims tied to sections from an index on (R140). -/
def commonClaims (d : RouteDecl) (p : Nat → Bool) : List Literal :=
  (commonOf d.set).filter fun l => l.claim && p l.sec

/-- A route that has become IDLE (R141). -/
def idleRoute (x : RouteSt) : RouteSt := { rows := x.rows }

def isOverlap (r : Rail) (oid : Nat) : Bool :=
  match r.obj? oid with
  | some { body := .overlap _, .. } => true
  | _ => false

/-- Every remaining claim withdrawn and the overlap freed; the route IDLE (R137, R140, R142). -/
def releaseRoute (i : Image) (d : RouteDecl) (r : Rail) : Rail :=
  let x := r.routeSt d.oid
  let r := (commonClaims d fun k => x.relIndex ≤ k).foldl (fun r l => dropClaim i d.rid l r) r
  let r := (d.set.filter fun l => l.claim && isOverlap r l.oid).foldl (fun r l =>
    match r.obj? l.oid with
    | some { body := .overlap o, .. } => if o.owner = d.rid then freeOverlap i l.oid r else r
    | _ => r) r
  r.modRoute d.oid idleRoute

/-- The PROVEN condition of R135 on the committed state. Without `fresh` it is what keeps a PROVEN route: its points in
their required positions and its FLANK claims PROVEN; neither a lost lock proof nor STALE data ends that state by itself (log
97). A FLANK object has no source of its own; STALE data of its element bars the step to PROVEN (DESIGN CHOICE, log 122). -/
def provenCond (i : Image) (base : Rail) (d : RouteDecl) (fresh : Bool) : Bool :=
  let clear := rowLiterals d.clear
  (commonOf d.set).all fun l =>
    !l.claim || match base.obj? l.oid with
      | some o =>
        match o.body with
        | .point p => !o.lost && !(fresh && o.stale) &&
            p.pos.toNat = (if l.pred = 11 then 1 else 2) &&
            (!fresh || p.lockProven || !clear.any fun c => c.oid = l.oid && c.pred = 10)
        | .flank f => f.state = .proven && !(fresh && match i.decl? l.oid with
            | some { params := .flank _ _ el, .. } => base.isStale el
            | _ => false)
        | _ => true
      | none => false

/-- A fall back from CLEARED (R135, R136). -/
def fallBack (i : Image) (base : Rail) (d : RouteDecl) (x : RouteSt) : RouteSt :=
  { x with state := if provenCond i base d true then .proven else .locked, fellBack := true, permit := false }

/-- A CLEARED route falls back (R88, R103, R135). -/
def fallCleared (i : Image) (base : Rail) (o : Obj) : Obj :=
  match o.body, i.decl? o.oid with
  | .route x, some { params := .route rid, .. } =>
    match i.route? rid with
    | some d => if x.state = .cleared then { o with body := .route (fallBack i base d x) } else o
    | none => o
  | _, _ => o

/-- PROCEED_OK of every signal: its route is CLEARED (R136). -/
def setProceed (i : Image) (r : Rail) : Rail :=
  { r with objs := r.objs.map fun o => match o.body with
      | .signal s =>
        let ok := s.routeValid && match r.route? i s.routeId with
          | some x => x.state = .cleared
          | none => false
        { o with body := .signal { s with proceedOk := ok } }
      | _ => o }

/-- The rule of R88 for ROUTE objects: no route is CLEARED and no signal has PROCEED_OK; every lock is kept (R103). -/
def Rail.barClearing (i : Image) (r : Rail) : Rail :=
  setProceed i { r with objs := r.objs.map (fallCleared i r) }

/-! The locking pass -/

/-- State of the pass: the railway in hand, outcomes, routes acted on, waiting list as it becomes. -/
structure Pass where
  rail : Rail
  outs : List Outcome := []
  acted : List (BitVec 12) := []
  deriving DecidableEq, Repr

def Req.outcome (q : Req) (status : Byte) (det : List Byte) : Outcome :=
  { sid := q.sid, op := q.op, cmdSeq := q.cmdSeq, adm := q.adm, status := status,
    report := .route q.rid, det := det, notice := q.waiting }

def Pass.out (p : Pass) (o : Outcome) : Pass := { p with outs := p.outs ++ [o] }

def Pass.act (p : Pass) (rid : BitVec 12) : Pass := { p with acted := rid :: p.acted }

/-- A waiting request leaves the list. -/
def Rail.unwait (r : Rail) (rid : BitVec 12) : Rail :=
  { r with waiting := r.waiting.filter fun w => w.rid ≠ rid }

/-- A waiting request ends other than by locking: the route is IDLE again (R130). -/
def endWait (d : RouteDecl) (r : Rail) : Rail :=
  (r.unwait d.rid).modRoute d.oid fun x =>
    if x.state = .requested || x.state = .checked then idleRoute x else { x with waiting := false }

/-- Detail naming a literal of the SETTABLE row (R242, R250). -/
def literalDetail (i : Image) (k : Nat) (l : Literal) : List Byte :=
  detail 1 0 k l.oid (i.symbolOf l.oid)

/-- `fail` of R128: on the waiting list, or refused (R129, R130). A request already waiting moves
between REQUESTED and CHECKED. -/
def failSet (e : Env) (d : RouteDecl) (q : Req) (mayWait : Bool) (limit : Nat) (setOk : Bool)
    (status : Byte) (det : List Byte) (p : Pass) : Pass :=
  let st : RouteState := if setOk then .checked else .requested
  if q.waiting then
    { p with rail := p.rail.modRoute d.oid fun x => { x with state := st } }.act d.rid
  else if mayWait && p.rail.waiting.length < 256 then
    let w : Wait := { rid := d.rid, sid := q.sid, adm := q.adm, tray := q.tray, cmdSeq := q.cmdSeq,
                      since := e.now, limitMs := limit }
    let r := { p.rail with waiting := p.rail.waiting ++ [w] }
    ({ p with rail := r.modRoute d.oid fun x => { x with state := st, waiting := true } }.out
      (q.outcome 0x02 [])).act d.rid
  else p.out (q.outcome status det)

def setRoute (e : Env) (d : RouteDecl) (rows : Rows) (q : Req) (mayWait : Bool) (limit : Nat) (p : Pass) : Pass :=
  let x := p.rail.routeSt d.oid
  if !q.waiting && (x.state = .locked || x.state = .proven) && x.fellBack then
    ({ p with rail := p.rail.modRoute d.oid fun x => { x with permit := true } }.out (q.outcome 0x00 [])).act d.rid
  else if !q.waiting && x.state ≠ .idle then p.out (q.outcome 0x13 noDetail)
  else if e.settle then
    let p := if q.waiting then { p with rail := endWait d p.rail }.act d.rid else p
    p.out (q.outcome 0x21 noDetail)
  else if q.waiting && q.since + tk limit ≤ e.now then
    ({ p with rail := endWait d p.rail }.act d.rid).out (q.outcome 0x40 noDetail)
  else if !rows.setOk then
    let det := match rows.falseAt with
      | some y => literalDetail e.img y.1 y.2
      | none => noDetail
    failSet e d q mayWait limit false (if rows.conflict then 0x20 else 0x21) det p
  else
    let alts : List (Option Nat) := if d.alts = 0 then [none] else rows.mask.map some
    match alts.find? fun a => (clash e d.rid (a.getD 0) (claimsOf d a) p.rail).isNone with
    | some a =>
      ({ p with rail := lockRoute e d a (p.rail.unwait d.rid) }.out (q.outcome 0x00 [])).act d.rid
    | none =>
      let hits := alts.filterMap fun a => clash e d.rid (a.getD 0) (claimsOf d a) p.rail
      let bad := d.set.zipIdx.find? fun y => hits.contains y.1
      let det := match bad with
        | some y => literalDetail e.img y.2 y.1
        | none => noDetail
      failSet e d q mayWait limit true 0x20 det p

/-- The notice that ends a waiting request (R130). -/
def waitNotice (w : Wait) (status : Byte) : Outcome :=
  { sid := w.sid, op := 0x0101, cmdSeq := w.cmdSeq, adm := w.adm, status := status,
    report := .route w.rid, det := if status = 0 then [] else noDetail, notice := true }

def startTimer (now : Ticks) (msec : Nat) (x : RouteSt) : RouteSt :=
  { x with timerStart := now, timerEnd := some (now + tk msec) }

/-- CANCEL_ROUTE (R137). -/
def cancelRoute (e : Env) (base : Rail) (d : RouteDecl) (rows : Rows) (q : Req) (p : Pass) : Pass :=
  let x := p.rail.routeSt d.oid
  let stop := stopFresh e.img base d.entry
  let al := fun (msec : Nat) => { p with rail := p.rail.modRoute d.oid fun x =>
    { startTimer e.now msec x with state := .approachLocked } }
  let done := fun (p : Pass) => (p.out (q.outcome 0x00 [])).act d.rid
  match x.state with
  | .idle => p.out (q.outcome 0x13 noDetail)
  | .requested =>
    done { p with outs := p.outs ++ (p.rail.waiting.filter fun w => w.rid = d.rid).map fun w => waitNotice w 0x21,
                  rail := endWait d p.rail }
  | .checked =>
    done { p with outs := p.outs ++ (p.rail.waiting.filter fun w => w.rid = d.rid).map fun w => waitNotice w 0x21,
                  rail := endWait d p.rail }
  | .approachLocked => p.out (q.outcome 0x13 noDetail)
  | .occupied => p.out (q.outcome 0x22 noDetail)
  | .releasing => p.out (q.outcome 0x22 noDetail)
  | .cleared => done (al (if rows.holdOn then d.approachMs else 0))
  | _ =>
    if stop then done { p with rail := releaseRoute e.img d p.rail }
    else if x.armed then p.out (q.outcome 0x13 noDetail)
    else done (al d.approachMs)

/-- RELEASE_ROUTE_EMERGENCY step 1 (R141). -/
def emergencyStep1 (e : Env) (base : Rail) (d : RouteDecl) (q : Req) (p : Pass) : Pass :=
  let x := p.rail.routeSt d.oid
  let arm := fun (f : RouteSt → RouteSt) =>
    ({ p with rail := p.rail.modRoute d.oid fun x => { startTimer e.now d.emergencyMs (f x) with armed := true } }.out
      (q.outcome 0x00 [])).act d.rid
  if x.armed then p.out (q.outcome 0x13 noDetail)
  else match x.state with
    | .locked => arm id
    | .proven => arm id
    | .occupied => arm id
    | .releasing => arm id
    | .cleared => arm (fallBack e.img base d)
    | _ => p.out (q.outcome 0x13 noDetail)

/-- RELEASE_ROUTE_EMERGENCY step 2 (R142, R360). -/
def emergencyStep2 (e : Env) (base : Rail) (d : RouteDecl) (q : Req) (p : Pass) : Pass :=
  let x := p.rail.routeSt d.oid
  if !x.armed then p.out (q.outcome 0x13 noDetail)
  else if e.settle || e.now < x.timerEnd.getD 0 || !stopFresh e.img base d.entry then
    p.out (q.outcome 0x21 noDetail)
  else ({ p with rail := releaseRoute e.img d p.rail }.out (q.outcome 0x00 [])).act d.rid

/-- The confirmation window ends (R142): EMERG_ARMED is cleared and the route keeps its state. -/
def windowEnd (now : Ticks) (confirmMs : Nat) (x : RouteSt) : RouteSt :=
  match x.timerEnd with
  | some t => if x.armed && t + tk confirmMs ≤ now then { x with armed := false, timerEnd := none } else x
  | none => x

/-- One request of the pass (R128). -/
def passOne (e : Env) (base : Rail) (p : Pass) (q : Req) : Pass :=
  match e.img.route? q.rid with
  | none => p.out (q.outcome 0x21 (detail 6 0 0 q.rid.toNat))
  | some d =>
    let rows := rowsOf e.img base d
    match q.what with
    | .set mayWait limit =>
      if q.waiting && !(p.rail.waiting.any fun w => w.adm = q.adm) then p
      else setRoute e d rows q mayWait (if limit = 0 then d.waitMs else limit) p
    | .cancel => cancelRoute e base d rows q p
    | .step1 => emergencyStep1 e base d q p
    | .step2 => emergencyStep2 e base d q p

/-- Order of R128: tray rank, then admission sequence. -/
def before (a b : Req) : Bool := a.tray < b.tray || (a.tray = b.tray && serialLt a.adm b.adm)

def insertReq (q : Req) : List Req → List Req
  | [] => [q]
  | x :: r => if before q x then q :: x :: r else x :: insertReq q r

def sortReqs (l : List Req) : List Req := l.foldr insertReq []

def waitReq (w : Wait) : Req :=
  { rid := w.rid, what := .set true w.limitMs, sid := w.sid, op := 0x0101, cmdSeq := w.cmdSeq,
    adm := w.adm, tray := w.tray, waiting := true, since := w.since }

/-! Route transitions -/

/-- Sections of a route in index order (R122). -/
def sectionsOf (r : Rail) (d : RouteDecl) : List Nat :=
  let secs := (commonOf d.set).filter fun l => l.claim && match r.obj? l.oid with
    | some { body := .stretch _, .. } => true
    | _ => false
  (List.range secs.length).filterMap fun k => (secs.find? fun l => l.sec = k).map fun l => l.oid

/-- OCC = OCCUPIED with good data (R139). -/
def Rail.seenOccupied (r : Rail) (oid : Nat) : Bool :=
  match r.obj? oid with
  | some { lost, stale, body := .stretch s, .. } => !lost && !stale && s.occ = .occupied
  | _ => false

/-- Sections seen OCCUPIED as a mask (R139). -/
def seenMask (base : Rail) (secs : List Nat) : BitVec 64 :=
  secs.zipIdx.foldl (fun m x => if base.seenOccupied x.1 then m ||| (1 <<< x.2) else m) 0

/-- Whether section i may be released, the sections before it counting as released (R139). -/
def mayRelease (i : Image) (base : Rail) (d : RouteDecl) (secs : List Nat) (seen : BitVec 64) (k : Nat) : Bool :=
  let n := secs.length
  let sec := fun j => (secs[j]?).getD 0
  let stop := stopFresh i base d.entry
  if k + 1 < n then
    seen.getLsbD k && base.sectionClear (sec k) && base.seenOccupied (sec (k + 1)) && (k ≠ 0 || stop)
  else if k + 1 = n then
    base.seenOccupied (sec k) &&
      (if 2 ≤ n then base.sectionClear (sec (k - 1))
       else stop && match d.approach with
         | a :: _ => base.sectionClear a
         | [] => false)
  else false

/-- Releases sections in index order while their conditions hold (R139, R140); the route is then RELEASING (R135). -/
def releaseSections (i : Image) (base : Rail) (d : RouteDecl) (secs : List Nat) : Nat → Rail → Rail
  | 0, r => r
  | fuel + 1, r =>
    let x := r.routeSt d.oid
    if mayRelease i base d secs x.seen x.relIndex then
      let r := (commonClaims d fun k => k = x.relIndex).foldl (fun r l => dropClaim i d.rid l r) r
      releaseSections i base d secs fuel
        (r.modRoute d.oid fun x => { x with state := .releasing, relIndex := x.relIndex + 1 })
    else r

/-- A transition of step 4 for a route not acted on in the pass (R126, R135). -/
def routeStep (e : Env) (base : Rail) (d : RouteDecl) (rows : Rows) (r : Rail) : Rail :=
  let secs := sectionsOf base d
  let occ := match secs with
    | s :: _ => predicate e.img base s 9
    | [] => false
  let set := fun (f : RouteSt → RouteSt) => r.modRoute d.oid f
  let seen := seenMask base secs
  let enter := fun (x : RouteSt) => { x with
    state := .occupied, seen := seen, relIndex := 0, timerEnd := if x.armed then x.timerEnd else none }
  let x := r.routeSt d.oid
  match x.state with
  | .locked =>
    if provenCond e.img base d true then set fun x => { x with state := .proven }
    else if occ then set enter
    else r
  | .proven =>
    if !provenCond e.img base d false then set fun x => { x with state := .locked }
    else if occ then set enter
    else if rows.clearOk && (x.permit || (x.fellBack && d.automatic)) && !x.armed then
      set fun x => { x with state := .cleared, fellBack := false, permit := false }
    else r
  | .cleared =>
    if occ then set enter
    else if !rows.clearOk then set (fallBack e.img base d)
    else r
  | .approachLocked =>
    if occ then set enter
    else if (x.timerEnd.getD 0 ≤ e.now || !rows.holdOn) && stopFresh e.img base d.entry then
      releaseRoute e.img d r
    else r
  | .occupied =>
    releaseSections e.img base d secs secs.length (set fun x => { x with seen := x.seen ||| seen })
  | .releasing =>
    (releaseSections e.img base d secs secs.length (set fun x => { x with seen := x.seen ||| seen })).modRoute d.oid
      fun x => if secs.length ≤ x.relIndex then idleRoute x else x
  | _ => r

/-- A route that a train occupies: its sections are released whether or not the pass has armed it (R139, R141). -/
def RouteSt.running (x : RouteSt) : Bool := x.state = .occupied || x.state = .releasing

/-- Route reports show the route after the locking pass (R249). -/
def passReports (e : Env) (p : Pass) : Pass :=
  { p with outs := p.outs.map fun o => match o.report with
      | .route rid => { o with report := .body (routeReport e.img { p.rail with time := e.now } rid) }
      | _ => o }

/-- The Contact Sheet step of Develop (R126): rows on the committed state `base`, the locking pass, then
step 4. -/
def contactSheet (e : Env) (base : Rail) (reqs : List Req) : Pass :=
  let all := sortReqs (reqs ++ base.waiting.map waitReq)
  let start := e.img.routes.foldl (fun r d =>
    r.modRoute d.oid fun x => windowEnd e.now d.confirmMs { x with rows := (rowsOf e.img base d).byte }) base
  let p := passReports e (all.foldl (passOne e base) { rail := start })
  let r := e.img.routes.foldl (fun r d =>
    if p.acted.contains d.rid && !(r.routeSt d.oid).running then r
    else routeStep e base d (rowsOf e.img base d) r) p.rail
  { p with rail := setProceed e.img r }

end Sys2Proof.Machine
end

