-- ==== Sys2Proof/Machine/Folquel.lean ====
section
/-! DEFINITION. Folquel at run time: values, expressions, timers, edges (R149 to R163), the inputs that
equations drive (R152, R153), and the carry-over of an exchange (R169 to R174). -/

namespace Sys2Proof.Machine

/-- Saturation into a type (R149). -/
def saturate (ty : VType) (v : Int) : Int :=
  match ty with
  | .bool => if v = 0 then 0 else 1
  | .uint => max 0 (min v 65535)
  | .int => max (-32768) (min v 32767)

def boolInt (b : Bool) : Int := if b then 1 else 0

/-- One operator (R149); arithmetic is saturated in its type. -/
def applyOp (op : BinOp) (ty : VType) (a b : Int) : Int :=
  match op with
  | .and => boolInt (a ≠ 0 && b ≠ 0)
  | .or => boolInt (a ≠ 0 || b ≠ 0)
  | .xor => boolInt ((a ≠ 0) != (b ≠ 0))
  | .add => saturate ty (a + b)
  | .sub => saturate ty (a - b)
  | .mul => saturate ty (a * b)
  | .min => min a b
  | .max => max a b
  | .eq => boolInt (a = b)
  | .ne => boolInt (a ≠ b)
  | .lt => boolInt (a < b)
  | .le => boolInt (a ≤ b)
  | .gt => boolInt (b < a)
  | .ge => boolInt (b ≤ a)

/-- The value an operand has in the Develop in hand (R150, R157, R162). -/
def readOperand (i : Image) (r : Rail) (x : Operand) : Int :=
  match x with
  | .sym id =>
    match (r.values.find? fun y => y.1 = id) <|> (i.constants.find? fun y => y.1 = id) with
    | some y => y.2
    | none => 0
  | .field oid lo width => ((r.word i oid / 2 ^ lo % 2 ^ width : Nat) : Int)
  | .pred oid code => boolInt (predicate i r oid code)

/-- One Develop of a timer (R158, R160); a timer created by an exchange first takes its phase from its
input (R172). -/
def timerStep (k : TimerKind) (presetMs : Nat) (now : Ticks) (inp : Bool) (x : TimerSt) : TimerSt :=
  let run := { x with phase := .running, start := now, expiry := now + tk presetMs, inPrev := inp, fresh := false }
  let go := fun (p : Phase) (q : Bool) => { x with phase := p, q := q, inPrev := inp, fresh := false }
  let due : Bool := x.expiry ≤ now
  if x.fresh then
    match k with
    | .onDelay => if inp then { run with q := false } else go .idle false
    | .offDelay => if inp then go .held true else go .idle false
    | .pulse => if inp then go .held false else go .idle false
  else
    match k, x.phase with
    | .onDelay, .idle => if inp then { run with q := false } else go .idle false
    | .onDelay, .running => if !inp then go .idle false else if due then go .held true else go .running false
    | .onDelay, .held => if inp then go .held true else go .idle false
    | .offDelay, .idle => if inp then go .held true else go .idle false
    | .offDelay, .held => if inp then go .held true else { run with q := true }
    | .offDelay, .running => if inp then go .held true else if due then go .idle false else go .running true
    | .pulse, .idle => if inp && !x.inPrev then { run with q := true } else go .idle false
    | .pulse, .running => if due then (if inp then go .held false else go .idle false) else go .running true
    | .pulse, .held => if inp then go .held false else go .idle false

/-- Evaluates an expression; timers step as they are met (R150 to R162). `base` is the committed state,
the second part the state in hand. -/
def eval (i : Image) (base : Rail) (now : Ticks) : Expr → Rail → Int × Rail
  | .const v, r => (v, r)
  | .read x, r => (readOperand i r x, r)
  | .not x, r =>
    let a := eval i base now x r
    (boolInt (a.1 = 0), a.2)
  | .bin op ty x y, r =>
    let a := eval i base now x r
    let b := eval i base now y a.2
    (applyOp op ty a.1 b.1, b.2)
  | .select c x y, r =>
    let a := eval i base now c r
    let b := eval i base now x a.2
    let d := eval i base now y b.2
    (if a.1 = 0 then d.1 else b.1, d.2)
  | .prev k, r => ((base.retained[k]?).getD 0, r)
  | .rise k, r =>
    match i.edges[k]?, base.edges[k]? with
    | some d, some (some p) => (boolInt (!p && readOperand i r d.operand ≠ 0), r)
    | _, _ => (0, r)
  | .fall k, r =>
    match i.edges[k]?, base.edges[k]? with
    | some d, some (some p) => (boolInt (p && readOperand i r d.operand = 0), r)
    | _, _ => (0, r)
  | .timer k x, r =>
    let a := eval i base now x r
    match i.timers[k]?, base.timers[k]? with
    | some d, some t =>
      let t' := timerStep d.kind d.preset now (a.1 ≠ 0) t
      (boolInt t'.q, { a.2 with timers := modifyNth a.2.timers k fun _ => t' })
    | _, _ => (0, a.2)

def Rail.setValue (r : Rail) (id : BitVec 24) (v : Int) : Rail :=
  { r with values := (r.values.filter fun x => x.1 ≠ id) ++ [(id, v)] }

/-- A driven object input moves (R152, R153). `gated`: an object of its set is STALE. An ASPECT_LIMIT above 15 is taken
modulo 16 (DESIGN CHOICE, log 115). -/
def drive (inp : ObjInput) (v : Int) (gated : Bool) (d : Option ObjDecl) (o : Obj) : Obj :=
  match inp, o.body with
  | .aspectLimit, .signal s =>
    let code := v.toNat % 16
    let looser := match d, s.limit with
      | some { params := .signal _ as, .. }, some c =>
        Aspect.rankOf as (BitVec.ofNat 4 c) < Aspect.rankOf as (BitVec.ofNat 4 code)
      | _, _ => false
    if gated && looser then o else { o with body := .signal { s with limit := some code } }
  | .strikeIn, .crossing c =>
    if gated && v = 0 && c.strikeIn then o else { o with body := .crossing { c with strikeIn := v ≠ 0 } }
  | .field lo width, .generic g =>
    match d with
    | some { params := .generic fs, .. } =>
      match fs.find? fun f => f.lo = lo && f.width = width with
      | some f =>
        let nv := min v.toNat (2 ^ width - 1)
        let old := fieldOf g lo width
        let far := fun (x : Nat) => (max x f.safe) - (min x f.safe)
        if gated && far old < far nv then o else { o with body := .generic (putField f nv g) }
      | none => o
    | _ => o
  | _, _ => o

/-- One equation of the develop order (R150, R154). -/
def equationStep (i : Image) (base : Rail) (now : Ticks) (q : Equation) (r : Rail) : Rail :=
  let a := eval i base now q.expr r
  let v := saturate q.ty a.1
  match q.target with
  | .value id => a.2.setValue id v
  | .input oid inp reads =>
    a.2.modObj oid (drive inp v (reads.any a.2.isStale) (i.decl? oid))

/-- Retained values and edge previous values, as this cycle would commit them (R157, R163). -/
def latchValues (i : Image) (r : Rail) : Rail :=
  { r with
    retained := i.retained.map fun x => saturate x.ty (readOperand i r x.operand)
    edges := i.edges.map fun x => some (readOperand i r x.operand ≠ 0) }

/-! Exchange conditions and carry-over -/

/-- Released state of an object (R169). -/
def releasedState (d : ObjDecl) (r : Rail) (o : Obj) : Bool :=
  match o.body with
  | .route x => x.state = .idle && !(r.waiting.any fun w => match d.params with
      | .route rid => w.rid = rid
      | _ => false)
  | .overlap x => x.state = .free
  | .flank x => x.state = .free
  | .point p => o.lock.mode = .none && !p.moving
  | .signal s => o.lock.mode = .none && s.cmd = 0
  | .stretch _ => o.lock.mode = .none
  | .crossing c => o.lock.count = 0 && !c.closeReq && (c.state = .opened || c.state = .failed)
  | .block b => b.state = .normal && !b.trainOnLine && o.lock.mode = .none
  | .zone z => z.state = .main
  | .generic g =>
    match d.params with
    | .generic fs => fs.all fun f => fieldOf g f.lo f.width = f.safe % 2 ^ f.width
    | _ => true

def sameType (a b : Params) : Bool :=
  match a, b with
  | .point _ _ _, .point _ _ _ => true
  | .signal _ _, .signal _ _ => true
  | .stretch _ _ _, .stretch _ _ _ => true
  | .route _, .route _ => true
  | .overlap _ _ _, .overlap _ _ _ => true
  | .flank _ _ _, .flank _ _ _ => true
  | .crossing _ _ _, .crossing _ _ _ => true
  | .block _ _ _ _, .block _ _ _ _ => true
  | .zone _ _ _, .zone _ _ _ => true
  | .generic _, .generic _ => true
  | _, _ => false

def Image.bySymbol (i : Image) (s : BitVec 24) : Option ObjDecl := i.objects.find? fun d => d.symbol = s

/-- The claims of a route by symbol (R169): object, claim kind, SEC, ALT. -/
def claimSet (i : Image) (d : RouteDecl) : List (Nat × Nat × Nat × Nat) :=
  (d.set.filter fun l => l.claim).map fun l => (i.symbolOf l.oid, l.pred, l.sec, l.alt)

/-- Two routes have the same claim set, in whatever order their rows name the claims (R169). -/
def sameClaims (a b : List (Nat × Nat × Nat × Nat)) : Bool := a.all b.contains && b.all a.contains

/-- Why an exchange is refused (R169): status and detail; none when the conditions hold. `old` is the
active image, where a bank is ACTIVE. -/
def exchangeRefusal (active : Option Image) (new : Image) (newState : BankState) (cs : CycleSettings) (paired testing : Bool)
    (r : Rail) : Option (Byte × List Byte) :=
  let old := active.getD {}
  let sym := fun (d : ObjDecl) => (detail 3 0 0 0 d.symbol.toNat)
  let moved := old.objects.find? fun d => match new.bySymbol d.symbol with
    | some n => n.oid ≠ d.oid
    | none => false
  let movedRoute := old.routes.find? fun d => match new.routes.find? fun n => n.symbol = d.symbol with
    | some n => n.rid ≠ d.rid
    | none => false
  let gone := old.objects.find? fun d =>
    (match new.bySymbol d.symbol with
      | some n => !sameType n.params d.params
      | none => true) && match r.obj? d.oid with
      | some o => !releasedState d r o
      | none => false
  let changed := old.routes.find? fun d => (r.routeSt d.oid).state ≠ .idle &&
    match new.route? d.rid with
    | some n => !sameClaims (claimSet new n) (claimSet old d)
    | none => true
  if newState ≠ .verified then some (0x13, noDetail)
  else if !fits new.hdr cs paired then some (0x21, noDetail)
  else if active.any fun i => i.hdr.station ≠ new.hdr.station then some (0x21, noDetail)
  else match moved, movedRoute, gone, changed with
    | some d, _, _, _ => some (0x21, sym d)
    | none, some d, _, _ => some (0x21, detail 3 0 0 0 d.symbol.toNat)
    | none, none, some d, _ => some (0x21, detail 2 0 0 d.oid d.symbol.toNat)
    | none, none, none, some d => some (0x21, detail 3 0 0 0 d.symbol.toNat)
    | none, none, none, none => if testing then some (0x10, noDetail) else none

/-- A delay that permits, carried over (R172, R173): max(old expiry, start + new preset). -/
def carryDelay (start fin : Ticks) (presetMs : Nat) : Ticks := max fin (start + tk presetMs)

/-- The same for an object's timer, which keeps its expiry where it has run out (R172, R173). -/
def carryRunning (now start fin : Ticks) (presetMs : Nat) : Ticks :=
  if fin ≤ now then fin else carryDelay start fin presetMs

/-- Timers of an object carried over under its new parameters, at a consensus cycle time (R173). -/
def carryBody (p : Params) (now : Ticks) (b : Body) : Body :=
  match p, b with
  | .overlap release _ _, .overlap o =>
    .overlap { o with timerEnd := o.timerEnd.map fun e => carryRunning now o.timerStart e release }
  | .crossing warning closing _, .crossing c =>
    .crossing { c with timerEnd := c.timerEnd.map fun e =>
      if c.state = .warning then carryRunning now c.timerStart e warning
      else if c.state = .closing || c.state = .failed && c.raise then c.timerStart + tk closing else e }
  | _, b => b

def carryRoute (d : RouteDecl) (now : Ticks) (x : RouteSt) : RouteSt :=
  { x with timerEnd := x.timerEnd.map fun e =>
      carryRunning now x.timerStart e (if x.armed then d.emergencyMs else d.approachMs) }

/-- An equation of the image drives an object input (R152). -/
def Image.drives (i : Image) (oid : Nat) (inp : ObjInput) : Bool :=
  i.equations.any fun q => match q.target with
    | .input o x _ => o = oid && x = inp
    | .value _ => false

/-- An object input that no equation of the image drives takes its Undriven value (R152). -/
def undrive (i : Image) (d : ObjDecl) (b : Body) : Body :=
  match b, d.params with
  | .signal s, _ => if i.drives d.oid .aspectLimit then b else .signal { s with limit := none }
  | .crossing c, _ => if i.drives d.oid .strikeIn then b else .crossing { c with strikeIn := false }
  | .generic g, .generic fs =>
    .generic (fs.foldl (fun g f =>
      if f.bound = .input || i.drives d.oid (.field f.lo f.width) then g else putField f (f.safe % 2 ^ f.width) g) g)
  | b, _ => b

/-- The state under a new image (R170 to R174); transient values do not carry over (R171). An object that comes to have no
source is not LOST and has its safe value (R88, R170; log 116). -/
def carryRail (old new : Image) (r : Rail) : Rail :=
  let obj := fun (n : ObjDecl) =>
    match old.bySymbol n.symbol with
    | some d =>
      match r.obj? d.oid with
      | some o =>
        if !sameType d.params n.params then newObj n r.time
        else
          let o := { o with oid := n.oid, body := carryBody n.params r.time o.body }
          let o := match o.body with
            | .route x =>
              match new.routes.find? fun (q : RouteDecl) => q.oid = n.oid with
              | some q => { o with body := .route (if x.timerEnd.isSome && x.armed && x.state ≠ RouteState.approachLocked ||
                    x.state = RouteState.approachLocked then carryRoute q r.time x else x) }
              | none => o
            | _ => o
          let o := { o with body := undrive new n o.body }
          if d.source = n.source then o
          else { o with lost := n.source ≠ .internal, stale := false, freshRun := 0, appliedSeq := none,
                        body := safeBody n r.time o.body }
      | none => newObj n r.time
    | none => newObj n r.time
  let kept := fun (n : RetainedDecl) =>
    match old.retained.zipIdx.find? fun x => x.1.symbol = n.symbol with
    | some x => if (x.1.ty = .bool) = (n.ty = .bool) then saturate n.ty ((r.retained[x.2]?).getD n.init) else n.init
    | none => n.init
  let timer := fun (n : TimerDecl) =>
    match old.timers.zipIdx.find? fun x => x.1.symbol = n.symbol && x.1.kind = n.kind with
    | some x =>
      match r.timers[x.2]? with
      | some t => if t.phase = .running then { t with expiry := carryDelay t.start t.expiry n.preset } else t
      | none => { fresh := true }
    | none => { fresh := true }
  let edge := fun (n : EdgeDecl) =>
    match old.edges.zipIdx.find? fun x => x.1.symbol = n.symbol && x.1.operand = n.operand with
    | some x => (r.edges[x.2]?).getD none
    | none => none
  { r with objs := new.objects.map obj, values := [], retained := new.retained.map kept, timers := new.timers.map timer,
           edges := new.edges.map edge, latched := r.latched.filter fun x => (new.decl? x.1).isSome }

end Sys2Proof.Machine
end

