-- ==== Sys2Proof/Machine/Develop.lean ====
section
/-! DEFINITION. One Develop (R59, R90 to R92, R126, R154): the Contact Sheet, then equations and object
steps in the order of the image, each object with the EVENTs (R309, R310) and the element commands
(R253 to R258) addressed to it, then recovery (R87). -/

namespace Sys2Proof.Machine

/-- An element command of the cut (R253). `arg` is byte 2 of its payload. -/
structure Elem where
  op : W16
  oid : Nat
  arg : Nat
  sid : Nat
  cmdSeq : W32
  adm : W32
  tray : Nat
  deriving DecidableEq, Repr

/-- A partner EVENT of the cut (R309). -/
structure Evt where
  sid : Nat
  node : Node
  slot : Nat
  value : W32
  adm : W32
  tray : Nat
  deriving DecidableEq, Repr

/-- What a Develop works on beside the committed state: environment, consensus values of local channels,
consensus telegrams by node, nodes declared lost, the commands of the cut in the order of R90. -/
structure DevIn where
  env : Env
  values : Chans
  invalid : Chans
  tels : List (Node × HeldTelegram)
  lost : List Node
  cut : W32
  reqs : List Req
  elems : List Elem
  events : List Evt
  deriving DecidableEq, Repr

/-- The answer to an EVENT (R309); opcode 0 marks an EVENT_REPLY. -/
def Evt.outcome (v : Evt) (status : Byte) : Outcome :=
  { sid := v.sid, op := 0, cmdSeq := 0, adm := v.adm, status := status, report := .body [], det := detail 5 }

/-- A Develop in progress: the railway in hand and the outcomes so far. -/
structure Dev where
  rail : Rail
  outs : List Outcome := []
  deriving DecidableEq, Repr

/-! Reports -/

/-- The telegram that feeds an object: STANDBY 0 and the highest own epoch among its nodes (R313). -/
def feeding (d : ObjDecl) (tels : List (Node × HeldTelegram)) : Option (Node × HeldTelegram) :=
  (tels.filter fun x => (nodesOf d).contains x.1 && !x.2.standby).foldl (fun best x =>
    match best with
    | some b => if b.2.ownEpoch.toNat < x.2.ownEpoch.toNat then some x else some b
    | none => some x) none

def newer (applied : Option (Node × W32)) (node : Node) (seq : W32) : Bool :=
  match applied with
  | some a => a.1 ≠ node || serialLt a.2 seq
  | none => true

/-- What the source of an object brings (R84, R85). -/
def sourceOf (x : DevIn) (d : ObjDecl) (o : Obj) : SourceIn :=
  match d.source with
  | .internal => .internal
  | .locally bind =>
    if bind.any fun b => x.invalid.getLsbD b.2.val then .invalid false
    else .valid (localReport d bind x.values) 0 0
  | .partner _ slot _ =>
    if (nodesOf d).all x.lost.contains then .invalid true
    else match feeding d x.tels with
      | some t =>
        if newer o.appliedSeq t.1 t.2.seq then .valid (slotValue d slot t.2.slots) t.1 t.2.seq
        else .invalid false
      | none => .invalid false

/-- Report slot bits that GENERIC input fields hold now. -/
def inputBits (fs : List GField) (g : BitVec 48) : Nat :=
  (packed fs .input).foldl (fun a x => a + at_ x.2 (fieldOf g x.1.lo x.1.width)) 0

/-- The report that an EVENT on a slot makes; on one slot of two the other keeps what the object holds
(R295, R309). -/
def eventReport (d : ObjDecl) (o : Obj) (upper : Bool) (v : W32) : W64 :=
  match d.params, o.body with
  | .generic fs, .generic g =>
    if slotsOf d.params = 2 then
      let now := inputBits fs g
      BitVec.ofNat 64 (if upper then now % 2 ^ 32 + at_ 32 v.toNat else v.toNat + at_ 32 (now / 2 ^ 32))
    else v.setWidth 64
  | _, _ => v.setWidth 64

/-- The object that a partner's slot is bound to, and whether it is the second of two slots (R295). -/
def slotObject (i : Image) (node : Node) (slot : Nat) : Option (ObjDecl × Bool) :=
  match boundTo i node slot with
  | some d => some (d, false)
  | none =>
    match if 0 < slot then boundTo i node (slot - 1) else none with
    | some d => if slotsOf d.params = 2 then some (d, true) else none
    | none => none

/-- The slot value has no reserved bit set for the bound object (R296, R309). -/
def slotClean (d : ObjDecl) (upper : Bool) (v : W32) : Bool :=
  let m := if upper then reportMask d.params / 2 ^ 32 else reportMask d.params % 2 ^ 32
  v &&& ~~~(BitVec.ofNat 32 m) = 0

/-- A latched report that a later one does not replace: a counting disturbance on a SECTION (R310). -/
def isDisturbance (d : ObjDecl) (v : W32) : Bool :=
  match d.params with
  | .stretch _ axle _ => axle && v.toNat % 4 = 2
  | _ => false

/-- Keeps an EVENT as the latched report of its object (R310). -/
def latch (d : ObjDecl) (v : W32) (r : Rail) : Rail :=
  match r.latched.find? fun x => x.1 = d.oid with
  | some x => if isDisturbance d x.2 && !isDisturbance d v then r else { r with latched := setKey r.latched d.oid v }
  | none => { r with latched := setKey r.latched d.oid v }

/-! Element commands -/

def Elem.outcome (c : Elem) (status : Byte) (det : List Byte) : Outcome :=
  { sid := c.sid, op := c.op, cmdSeq := c.cmdSeq, adm := c.adm, status := status, report := .object c.oid, det := det }

def objDetail (i : Image) (oid : Nat) : List Byte := detail 2 0 0 oid (i.symbolOf oid)

/-- POINT_MOVE (R95, R96, R254, R360). -/
def pointMoveCmd (e : Env) (r : Rail) (o : Obj) (p : PointSt) (pos : Pos) : Byte × List Byte × Obj :=
  if o.lost || o.stale then (0x21, objDetail e.img o.oid, o)
  else if e.settle then (0x21, noDetail, o)
  else if atOrMoving p pos then (0x00, [], o)
  else if o.lock.mode ≠ .none then (0x22, noDetail, o)
  else if o.blocked then (0x21, objDetail e.img o.oid, o)
  else match unclear r (protectingOf e.img o.oid) with
    | some x => (0x21, objDetail e.img x, o)
    | none => (0x00, [], { o with body := .point (startMove pos e.now p) })

/-- POINT_BLOCK and SIGNAL_BLOCK (R255); a signal blocked is commanded to aspect 0 (R99). -/
def blockCmd (now : Ticks) (o : Obj) (on : Bool) : Byte × List Byte × Obj :=
  if !on && (o.lost || o.stale) then (0x21, noDetail, o)
  else
    let o := { o with blocked := on }
    match o.body with
    | .signal s => (0x00, [], if on && s.cmd ≠ 0 then { o with body := .signal (setAspect now 0 s) } else o)
    | _ => (0x00, [], o)

/-- SECTION_RESET (R101, R102, R256, R360). -/
def sectionCmd (e : Env) (axle direct : Bool) (o : Obj) (s : SectionSt) : Byte × List Byte × Obj :=
  if o.lost || o.stale then (0x21, noDetail, o)
  else if !axle || s.occ ≠ .disturbed then (0x13, noDetail, o)
  else if !direct then (0x00, [], { o with body := .stretch (setOcc e.now .resetPending s) })
  else if e.settle then (0x21, noDetail, o)
  else if o.lock.mode ≠ .none then (0x22, noDetail, o)
  else if s.axles ≠ 0 then (0x21, noDetail, o)
  else (0x00, [], { o with fault := false, body := .stretch (setOcc e.now .clear s) })

/-- BLOCK_RESTORE (R111, R257, R360). -/
def restoreCmd (e : Env) (b : BlockBits) (o : Obj) (x : BlockSt) : Byte × List Byte × Obj :=
  if o.lost || o.stale then (0x21, noDetail, o)
  else if x.state ≠ .failed then (0x13, noDetail, o)
  else if e.settle || !ind x.received b.inNormal || (x.trainOnLine && !ind x.received b.inArrival) then
    (0x21, noDetail, o)
  else
    let y := { x with state := .normal, trainOnLine := false, arrivalSeen := false }
    (0x00, [], { o with body := .block { y with sent := blockSent b y false } })

/-- ZONE_GRANT (R113, R258, R360). -/
def zoneCmd (e : Env) (r : Rail) (points : List Nat) (routes : List (BitVec 12)) (o : Obj) (z : ZoneSt) :
    Byte × List Byte × Obj :=
  let busy := routes.any fun x => match r.route? e.img x with
    | some y => y.state ≠ .idle
    | none => false
  let moving := points.any fun x => match r.obj? x with
    | some { stale, body := .point p, .. } => p.moving || stale
    | _ => false
  if o.lost || o.stale || e.settle then (0x21, noDetail, o)
  else if z.state ≠ .requested then (0x13, noDetail, o)
  else if busy || moving then (0x21, noDetail, o)
  else (0x00, [], { o with body := .zone { z with state := .granted, barred := true, permit := true } })

/-- One element command on its object; an object of a type the opcode does not act on is refused (R243). -/
def elementCmd (e : Env) (r : Rail) (d : ObjDecl) (c : Elem) (o : Obj) : Byte × List Byte × Obj :=
  match c.op.toNat, d.params, o.body with
  | 0x0201, .point _ _ _, .point p => pointMoveCmd e r o p (if c.arg = 1 then .normal else .reverse)
  | 0x0202, .point _ _ _, .point _ => blockCmd e.now o (c.arg = 1)
  | 0x0211, .signal _ _, .signal _ => blockCmd e.now o (c.arg = 1)
  | 0x0221, .stretch _ axle direct, .stretch s => sectionCmd e axle direct o s
  | 0x0231, .block _ _ _ b, .block x => restoreCmd e b o x
  | 0x0241, .zone points _ routes, .zone z => zoneCmd e r points routes o z
  | _, _, _ => (0x21, detail 6 0 0 c.oid, o)

/-- A command that ended DONE asks for a value of a field: it sets it, or finds it so already. A POINT_MOVE to the position
in which the point is detected asks for no change (R90, R91, R96). -/
def asksValue (c : Elem) (o : Obj) : Bool :=
  match o.body with
  | .point p => c.op ≠ 0x0201 || p.moving
  | _ => true

/-- Element commands of one object in the order of R90, with the conflicts of R91: a command that asks for a value of a
field bars a later one that asks for another; the same value again ends DONE. -/
def elementCmds (e : Env) (d : ObjDecl) : List Elem → List (W16 × W32 × Nat) → Dev → Dev
  | [], _, x => x
  | c :: rest, first, x =>
    let say := fun (st : Byte) (det : List Byte) (y : Dev) => { y with outs := y.outs ++ [c.outcome st det] }
    match first.find? fun f => f.1 = c.op with
    | some f =>
      if f.2.2 = c.arg then elementCmds e d rest first (say 0x00 [] x)
      else elementCmds e d rest first (say 0x20 (detail 7 0 0 0 f.2.1.toNat) x)
    | none =>
      match x.rail.obj? d.oid with
      | none => elementCmds e d rest first (say 0x21 (detail 6 0 0 c.oid) x)
      | some o =>
        let z := elementCmd e x.rail d c o
        let first := if z.1 = 0x00 && asksValue c z.2.2 then (c.op, c.adm, c.arg) :: first else first
        elementCmds e d rest first (say z.1 z.2.1 { x with rail := x.rail.modObj d.oid fun _ => z.2.2 })

/-! The object step -/

/-- The crossing's hold of R360 at a consensus report. -/
def settleHold (e : Env) (reports : List W64) (o : Obj) : Obj :=
  match o.body, reports with
  | .crossing c, w :: _ => if e.settle then { o with body := .crossing (settleReport w c) } else o
  | _, _ => o

/-- The object step (R154): source, latched report, EVENTs, consensus report, transitions, commands. -/
def objectDevelop (x : DevIn) (d : ObjDecl) (y : Dev) : Dev :=
  match y.rail.obj? d.oid with
  | none => elementCmds x.env d (x.elems.filter fun c => c.oid = d.oid) [] y
  | some o =>
    let src := sourceOf x d o
    let o := sourceStep d x.env.now src o
    let telegram := match src with
      | .valid w _ _ => [w]
      | _ => []
    let o := settleHold x.env telegram o
    let evs := x.events.filterMap fun v => match slotObject x.env.img v.node v.slot with
      | some (k, upper) => if k.oid = d.oid && slotClean d upper v.value then some (v, upper) else none
      | none => none
    let held := y.rail.latched.filter fun z => z.1 = d.oid
    let r := y.rail.modObj d.oid fun _ => o
    let replies := evs.map fun v => v.1.outcome 0x00
    let r :=
      if o.lost then objectStep x.env d [] (evs.foldl (fun r v => latch d v.1.value r) r)
      else
        let r := { r with latched := r.latched.filter fun z => z.1 ≠ d.oid }
        let reports := held.map (fun z => eventReport d o false z.2) ++
          evs.map (fun v => eventReport d o v.2 v.1.value) ++ telegram
        objectStep x.env d reports r
    elementCmds x.env d (x.elems.filter fun c => c.oid = d.oid) [] { y with rail := r, outs := y.outs ++ replies }

/-- One step of the develop order. -/
def devStep (x : DevIn) (base : Rail) (y : Dev) : DevStep → Dev
  | .eqn k =>
    match x.env.img.equations[k]? with
    | some q => { y with rail := equationStep x.env.img base x.env.now q y.rail }
    | none => y
  | .obj oid =>
    match x.env.img.decl? oid with
    | some d => objectDevelop x d y
    | none => y

/-- Recovery at the end of the second fresh cycle (R87). -/
def recover (x : DevIn) (base : Rail) (r : Rail) : Rail :=
  x.env.img.objects.foldl (fun r d =>
    match r.obj? d.oid, base.obj? d.oid with
    | some o, some o' =>
      match sourceOf x d o' with
      | .valid w _ _ => if o.lost && 2 ≤ o.freshRun then r.modObj d.oid fun o => recoverBody d x.env.now w o else r
      | _ => r
    | _, _ => r) r

/-- An EVENT that names no object of the image or sets a reserved bit (R309). -/
def badEvent (i : Image) (v : Evt) : Bool :=
  match slotObject i v.node v.slot with
  | some (d, upper) => !slotClean d upper v.value
  | none => true

/-- Objects with an object step. -/
def stepped (i : Image) (oid : Nat) : Bool := i.order.any fun s => s = .obj oid

/-- Commands on objects that have no step, or that the image does not declare (R243). -/
def strayElems (x : DevIn) : List Outcome :=
  (x.elems.filter fun c => !stepped x.env.img c.oid || (x.env.img.decl? c.oid).isNone).map fun c =>
    c.outcome 0x21 (detail 6 0 0 c.oid)

/-- A whole Develop (R59). -/
def develop (x : DevIn) (base : Rail) : Dev :=
  let pass := contactSheet x.env base x.reqs
  let start : Dev :=
    { rail := { pass.rail with time := x.env.now, cut := x.cut }
      outs := pass.outs ++ (x.events.filter (badEvent x.env.img)).map fun v => v.outcome 0x21 }
  let y := x.env.img.order.foldl (devStep x base) start
  let r := recover x base y.rail
  let r := if x.env.settle then r else { r with settleEnd := none }
  { y with rail := r.holdSafe x.env.img false, outs := y.outs ++ strayElems x }

/-- What a Fix on some outputs makes of a Develop's state: FAULT on a point whose two drives the vote would energise
together (R115), SAFE_HELD under force-safe (R82; log 113), and then the retained values and the edge detectors' previous
values as that state has them (R157, R163). -/
def closeRail (i : Image) (on : Chans) (forced : Bool) (r : Rail) : Rail :=
  let r := faultTwins i on r
  latchValues i (if forced then r.holdSafe i true else r)

/-- The report bytes of an outcome, from the state that the cycle commits (R249, R253). -/
def reportBytes (i : Image) (r : Rail) : ReportOn → List Byte
  | .route rid => routeReport i r rid
  | .object oid => objectReport i r oid
  | .body b => b

/-- The body of an outcome after its prefix (R241). -/
def Outcome.bytes (i : Image) (r : Rail) (o : Outcome) : List Byte :=
  reportBytes i r o.report ++ (if o.status = 0x00 || o.status = 0x02 then [] else padTo 12 o.det)

def Outcome.answer (i : Image) (r : Rail) (o : Outcome) : Answer :=
  { sid := o.sid, op := o.op, cmdSeq := o.cmdSeq, adm := o.adm, status := o.status, body := o.bytes i r,
    notice := o.notice }

end Sys2Proof.Machine
end

