-- ==== Sys2Proof/Machine/Replies.lean ====
section
/-! DEFINITION. Admitted entries and their outcomes (R235, R237, R241), and what leaving a mode or the
Lamp does to them. -/

namespace Sys2Proof.Machine

def Entry.isRoute (e : Entry) : Bool := e.op.toNat / 256 = 1
def Entry.isElem (e : Entry) : Bool := e.op.toNat / 256 = 2
def Entry.isEvent (e : Entry) : Bool := e.op = 0
/-- Groups 0x01xx and 0x02xx. -/
def Entry.vital (e : Entry) : Bool := e.isRoute || e.isElem
/-- Route ID or object ID in bytes 0 and 1. -/
def Entry.rid (e : Entry) : BitVec 12 := BitVec.ofNat 12 (fieldAt e.payload 0 2)
def Entry.oid (e : Entry) : Nat := fieldAt e.payload 0 2 % 2 ^ 14
/-- Byte n of the payload. -/
def Entry.byte (e : Entry) (n : Nat) : Nat := fieldAt e.payload n 1

/-- The inactive firmware slot holds what an UPDATE_OFFER brings (R276, R425): slot 1 while slot 0
runs. -/
def State.offerSlot (s : State) : Slot := if s.upd.running then s.upd.slot0 else s.upd.slot1

def State.modOfferSlot (s : State) (f : Slot → Slot) : State :=
  if s.upd.running then { s with upd.slot0 := f s.upd.slot0 } else { s with upd.slot1 := f s.upd.slot1 }

/-- The inactive logic bank (R166). -/
def State.loadBank (s : State) : LogicBank := s.bank !s.logic.activeBank

/-- What an outcome carries on every status (R249, R253, R276, R286). -/
def State.everyOutcome (s : State) (e : Entry) : List Byte :=
  if e.isRoute then routeReport s.image s.rail e.rid
  else if e.isElem then objectReport s.image s.rail e.oid
  else if e.op = 0x0701 then beBytes 4 s.offerSlot.held
  else if e.op = 0x0A01 then beBytes 4 s.loadBank.held
  else []

def Entry.answer (e : Entry) (status : Byte) (body : List Byte) : Answer :=
  { sid := e.sid, op := e.op, cmdSeq := e.cmdSeq, adm := e.adm, status := status, body := body }

def State.say (s : State) (a : Answer) : State := { s with net.answers := s.net.answers ++ [a] }

def State.sayAll (s : State) (l : List Answer) : State := { s with net.answers := s.net.answers ++ l }

/-- The refusal of an entry (R241). -/
def State.refusal (s : State) (e : Entry) (status : Byte) (det : List Byte) : Answer :=
  e.answer status (s.everyOutcome e ++ padTo 12 det)

def State.refuse (s : State) (e : Entry) (status : Byte) (det : List Byte) : State := s.say (s.refusal e status det)

/-- DONE with a reply payload. -/
def State.done (s : State) (e : Entry) (body : List Byte) : State := s.say (e.answer 0x00 body)

/-- An entry leaves its tray. -/
def State.take (s : State) (adm : W32) : State :=
  { s with net.entries := s.net.entries.filter fun e => e.adm ≠ adm }

/-- Every entry that a test picks ends with one status and leaves its tray (R237). -/
def State.endEntries (s : State) (p : Entry → Bool) (status : Byte) (det : List Byte) : State :=
  let gone := s.net.entries.filter p
  { s.sayAll (gone.map fun e => s.refusal e status det) with
    net.entries := s.net.entries.filter fun e => !p e }

/-- Every waiting request ends with a final notice (R130). -/
def State.endWaits (s : State) (status : Byte) : State :=
  let i := s.image
  let r := s.rail.waiting.foldl (fun r w => match i.route? w.rid with
    | some d => endWait d r
    | none => r) s.rail
  let notices := s.rail.waiting.map fun w => (waitNotice w status).answer i r
  { s with rail := { r with waiting := [] }, net.answers := s.net.answers ++ notices }

/-- The replies that a hold owes (R78, R267) end with one status. -/
def State.endHold (s : State) (status : Byte) : State :=
  match s.cyc.hold with
  | some h =>
    let owed := h.owed.toList ++ h.stepOwed ++ h.resume
    { s with cyc.hold := none,
             net.answers := s.net.answers ++ owed.map fun a => { a with status := status, body := noDetail } }
  | none => s

/-- Entry to STOP (R77, R82, R88, R103, R143, R237): no route stays CLEARED and every lock is kept (log 117). -/
def State.enterStop (s : State) : State :=
  let s := s.endEntries Entry.vital 0x12 noDetail
  let s := s.endWaits 0x12
  { s with
    cyc.mode := .stop, cyc.modeDue := none, cyc.dev := none, cyc.outputs := 0, cyc.fixedInRun := false
    fio.prevOutputs := 0, fio.pulseFrom := none
    rail := (s.rail.barClearing s.image).holdSafe s.image true }.darken

end Sys2Proof.Machine
end

