-- ==== Sys2Proof/Machine/Faults.lean ====
section
/-! DEFINITION. The Stop Bath (R369 to R381), Safelight and LOCKOUT (R372, R373, R382 to R385), the
withdrawal of a lane (R182, R199) and giving up the Lamp (R357, R358). -/

namespace Sys2Proof.Machine

/-- Class code, baseline level and sources of a class (R375, R376). -/
structure SrcClass where
  code : Nat
  base : Nat
  sources : Sources
  deriving DecidableEq, Repr

/-- The source table by class (R375, R376). -/
def srcClasses : List SrcClass :=
  [ { code := 0x01, base := 0, sources := srcBit 0x010 ||| srcBit 0x013 ||| srcBit 0x020 ||| srcBit 0x023 ||| srcBit 0x051 },
    { code := 0x02, base := 0, sources := rangeMask 0x054 2 ||| rangeMask 0x060 3 ||| rangeMask 0x1C3 2 },
    { code := 0x03, base := 0, sources := rangeMask 0x074 2 },
    { code := 0x04, base := 0, sources := rangeMask 0x100 96 },
    { code := 0x05, base := 0, sources := rangeMask 0x160 12 ||| rangeMask 0x1D2 3 },
    { code := 0x06, base := 0, sources := rangeMask 0x182 2 ||| rangeMask 0x1A2 2 },
    { code := 0x07, base := 0, sources := srcBit 0x1C2 ||| srcBit 0x1E0 ||| srcBit 0x1E2 },
    { code := 0x08, base := 0, sources := rangeMask 0x1F0 4 },
    { code := 0x09, base := 1, sources := rangeMask 0x030 2 },
    { code := 0x0A, base := 1, sources := srcBit 0x050 },
    { code := 0x0B, base := 1, sources := rangeMask 0x185 27 ||| rangeMask 0x1A5 27 },
    { code := 0x0C, base := 1, sources := rangeMask 0x180 2 ||| rangeMask 0x1A0 2 },
    { code := 0x0D, base := 2, sources := rangeMask 0x000 6 },
    { code := 0x0E, base := 2, sources := srcBit 0x006 ||| rangeMask 0x011 2 },
    { code := 0x0F, base := 2, sources := rangeMask 0x021 2 ||| srcBit 0x024 },
    { code := 0x10, base := 2, sources := rangeMask 0x040 5 },
    { code := 0x11, base := 2, sources := rangeMask 0x063 3 },
    { code := 0x12, base := 2, sources := srcBit 0x184 ||| srcBit 0x1A4 },
    { code := 0x13, base := 3, sources := rangeMask 0x070 4 },
    { code := 0x14, base := 3, sources := srcBit 0x076 ||| rangeMask 0x1C0 2 ||| rangeMask 0x1D0 2 ||| srcBit 0x1E1 },
    { code := 0x15, base := 4, sources := srcBit 0x16C ||| srcBit 0x1E3 } ]

/-- The class of a source; none for a position that the table does not list. -/
def classOf (n : Nat) : Option SrcClass := srcClasses.find? fun c => c.sources.getLsbD n

/-- Sources that FAULT_INJECT accepts (R376). -/
def injectable : Sources :=
  rangeMask 0x000 5 ||| srcBit 0x006 ||| rangeMask 0x010 4 ||| rangeMask 0x030 2 ||| srcBit 0x050 |||
  rangeMask 0x054 2 ||| rangeMask 0x060 3 ||| rangeMask 0x180 2 ||| rangeMask 0x185 27 ||| rangeMask 0x1A0 2 |||
  rangeMask 0x1A5 27 ||| srcBit 0x1C1 ||| rangeMask 0x1C3 2

/-- Sources within a lane: each lane sees its own, or observes for itself (R16, R376). -/
def ownLane (n : Nat) : Bool := n < 0x060 || (0x100 ≤ n && n ≤ 0x16C)

/-- The port of a PORT source (R376). -/
def portOf (n : Nat) : Option Port :=
  if h : 0x185 ≤ n ∧ n < 0x19D then some (.f ⟨n - 0x185, by omega⟩)
  else if n = 0x19D then some (.h 0)
  else if n = 0x19E then some (.h 1)
  else if n = 0x19F then some (.m 0)
  else if h : 0x1A5 ≤ n ∧ n < 0x1BD then some (.f ⟨n - 0x1A5 + 24, by omega⟩)
  else if n = 0x1BD then some (.h 2)
  else if n = 0x1BE then some (.h 3)
  else if n = 0x1BF then some (.m 1)
  else none

/-- The block that a level 1 reaction resets (R375). -/
def blockOf (n : Nat) (l : Lane) : Option Block :=
  if n = 0x030 then some (.engine l false)
  else if n = 0x031 then some (.engine l true)
  else if n = 0x050 then some (.crossing l)
  else if n = 0x180 || n = 0x181 then some (.die .n1)
  else if n = 0x1A0 || n = 0x1A1 then some (.die .n2)
  else (portOf n).map .port

/-- The source index of a port. -/
def portSource : Port → Nat
  | .f i => if i.val < 24 then 0x185 + i.val else 0x1A5 + (i.val - 24)
  | .h i => if i.val = 0 then 0x19D else if i.val = 1 then 0x19E else if i.val = 2 then 0x1BD else 0x1BE
  | .m i => if i.val = 0 then 0x19F else 0x1BF
  | .s => 0x1FF

/-- Detectors in the reaction shadow of a block reset, in one lane (R379). -/
def shadowOf (b : Block) (l : Lane) : Sources :=
  match b with
  | .engine k _ => if k = l then rangeMask 0x030 2 else 0
  | .crossing k => if k = l then rangeMask 0x050 2 ||| rangeMask 0x100 96 ||| rangeMask 0x160 12 else 0
  | .port p => srcBit (portSource p)
  | .die .n1 => rangeMask 0x180 32 ||| srcBit 0x054 ||| srcBit 0x1A1 ||| srcBit 0x1C3
  | .die .n2 => rangeMask 0x1A0 32 ||| srcBit 0x055 ||| srcBit 0x181 ||| srcBit 0x1C4

/-- Bound of a block reset (R379). -/
def Block.bound : Block → Time
  | .engine _ _ => ms 1
  | .crossing _ => ms 2
  | .port _ => ms 50
  | .die _ => ms 250

def State.shadowMask (s : State) (l : Lane) : Sources :=
  s.dies.resets.foldl (fun m r => m ||| shadowOf r.1 l) 0

/-- A lane whose Stop Bath takes reports (R16, R198). -/
def LanePhase.live : LanePhase → Bool
  | .joining => true
  | .resync => true
  | .probation => true
  | .voting => true
  | .testing => true
  | _ => false

def State.liveLanes (s : State) : List Lane := Lane.all.filter fun l => (s.lane l).phase.live

/-- Detail of a FAULT record (R391). -/
def faultDetail (code num sym v1 v2 dark cand other : Nat) : List Byte :=
  beBytes 2 code ++ beBytes 2 num ++ beBytes 4 sym ++ beBytes 8 v1 ++ beBytes 8 v2 ++
    [BitVec.ofNat 8 dark, BitVec.ofNat 8 cand] ++ beBytes 2 other

/-- A code and a number, nothing else. -/
def codeDetail (code num : Nat) : List Byte := faultDetail code num 0 0 0 0 0 0

/-! The occurrence in one Stop Bath -/

/-- Level of an occurrence in a Stop Bath: one above the baseline while another source of its class
holds an unacknowledged bit outside a shadow (R377, R380). -/
def StopBath.levelOf (b : StopBath) (c : SrcClass) (n : Nat) : Nat :=
  if b.sticky &&& ~~~b.shadowed &&& c.sources &&& ~~~(srcBit n) ≠ 0 then min 4 (c.base + 1) else c.base

/-- A report in one Stop Bath: the Stop Bath after it and, for an occurrence, its level (R370, R380,
R381). -/
def StopBath.report (b : StopBath) (c : SrcClass) (n : Nat) (shadow : Bool) : StopBath × Option Nat :=
  let bit := srcBit n
  if shadow then
    if b.sticky.getLsbD n then (b, none)
    else ({ b with sticky := b.sticky ||| bit, shadowed := b.shadowed ||| bit }, some (b.levelOf c n))
  else if b.sticky.getLsbD n && !b.shadowed.getLsbD n then (b, none)
  else
    let v := b.levelOf c n
    ({ b with sticky := b.sticky ||| bit, shadowed := b.shadowed &&& ~~~bit, levels := setKey b.levels n v }, some v)

/-! Records of a report -/

/-- The armed injection that a report of a source in given lanes uses (R275, R387). -/
def State.injected (s : State) (n : Nat) (lanes : List Lane) : Bool :=
  match s.flt.injection with
  | some j => j.source = n && (j.lane = 0xFF || lanes.any fun l => j.lane.toNat = l.idx)
  | none => false

/-- An INJECT record (R391). -/
def State.injectRecord (s : State) (j : Injection) (action : Byte) : State :=
  s.record { kind := 7, lanes := laneMask s.voting,
             detail := beBytes 2 j.source ++ [j.lane, BitVec.ofNat 8 j.left, action] }

/-- One check of an armed injection used up (R387). -/
def State.useInjection (s : State) : State :=
  match s.flt.injection with
  | some j =>
    if j.left ≤ 1 then { s with flt.injection := none }.injectRecord { j with left := 0 } 0x02
    else { s with flt.injection := some { j with left := j.left - 1 } }
  | none => s

/-- Every check that an armed injection has left is used up (R387). -/
def State.spendInjection (s : State) : State :=
  match s.flt.injection with
  | some j => { s with flt.injection := none }.injectRecord { j with left := 0 } 0x02
  | none => s

/-- A report of a source whose bit is set: counted, and a REPEAT record at most every 60 s (R391, R393;
log 15). -/
def State.repeatReport (s : State) (n : Nat) (lanes : List Lane) : State :=
  let old := (s.neg.repeats.find? fun r => r.source = n).getD { source := n, count := 0, cycle := 0, written := none }
  let r := { old with count := min (old.count + 1) (2 ^ 32 - 1), cycle := s.cyc.cycle }
  let others := s.neg.repeats.filter fun r => r.source ≠ n
  match r.written with
  | some t =>
    if t + ms 60000 ≤ s.now then
      { s with neg.repeats := others ++ [{ r with count := 0, written := some s.now }] }.record
        { kind := 2, source := BitVec.ofNat 16 n, cls := BitVec.ofNat 8 ((classOf n).elim 0 (·.code)),
          lanes := laneMask lanes, detail := beBytes 4 r.count ++ beBytes 6 r.cycle.toNat }
    else { s with neg.repeats := others ++ [r] }
  | none => { s with neg.repeats := others ++ [{ r with written := some s.now }] }

/-- A source's repeats are counted from its record on. -/
def State.startRepeats (s : State) (n : Nat) : State :=
  { s with neg.repeats := (s.neg.repeats.filter fun r => r.source ≠ n) ++
      [{ source := n, count := 0, cycle := s.cyc.cycle, written := some s.now }] }

/-! Reactions -/

/-- A lane stops (R182, R199): its switches go off, what it held for the cycle is gone. -/
def stopLane (src : Nat) (now : Time) (r : LaneRec) : LaneRec :=
  { r with phase := .withdrawn, cause := BitVec.ofNat 9 src, withdrawnAt := some now, heldIn := [], sets := [],
           passed := [], minority := [], devDone := false, arrived := none, image := none, lateDue := false,
           joined := false, resync := {}, enter := false, matched := 0, tardyRun := 0,
           calls := 0, board := r.board.quench now }

/-- A WITHDRAWAL record (R391) with the lane's sticky bits. -/
def State.withdrawalRecord (s : State) (l : Lane) (src : Nat) : State :=
  s.record { kind := 8, source := BitVec.ofNat 16 src, cls := BitVec.ofNat 8 ((classOf src).elim 0 (·.code)),
             level := 2, lanes := laneMask [l],
             detail := [BitVec.ofNat 8 l.idx] ++ beBytes 2 src ++ beBytes 64 (s.lane l).bath.sticky.toNat }

/-- A lane withdrawn for a source (R199); a lane that is not live stays as it is. -/
def State.withdrawOne (s : State) (l : Lane) (src : Nat) : State :=
  if (s.lane l).phase.live then
    (s.withdrawalRecord l src).modLane l (stopLane src s.now)
  else s

/-- A lane in RESYNC loses a source lane (R199, R202). -/
def State.loseSource (s : State) (k : Lane) : State :=
  if (s.lane k).phase = .resync then
    let s := s.modLane k fun r => { r with
      bath.sticky := r.bath.sticky ||| srcBit 0x044, bath.levels := setKey r.bath.levels 0x044 2 }
    (s.record { kind := 1, level := 2, source := 0x044, cls := 0x10, lanes := laneMask [k],
                detail := codeDetail 0 0 }).withdrawOne k 0x044
  else s

/-- Withdrawal, with the lanes in RESYNC that lose a source lane (R199, R202). -/
def State.withdraw (s : State) (l : Lane) (src : Nat) : State :=
  let wasVoting := s.isVoting l
  let s := s.withdrawOne l src
  if wasVoting then Lane.all.foldl State.loseSource s else s

/-- A network die lost (R31): sessions on its ports close. -/
def State.loseDie (s : State) (d : Die) : State :=
  let s := s.setDie d .outOfService
  { s with
    net.sessions := s.net.sessions.map fun x => if portDie x.port = d then x.close else x
    net.openings := s.net.openings.filter fun o => portDie o.port ≠ d }

/-- A Detector reset (R375): for a channel, debounce and readback comparison start again in the lane, where the channel stays
INVALID until its debounce has passed; elsewhere the counters that the detector keeps start again (log 142). -/
def State.detectorReset (s : State) (n : Nat) (lanes : List Lane) : State :=
  if 0x100 ≤ n && n < 0x160 then
    lanes.foldl (fun s l => s.modLane l fun r =>
      { r with
        board.changing := r.board.changing.filter fun x => x.1 ≠ n - 0x100
        board.restarting := setKey r.board.restarting (n - 0x100) s.now
        board.changedAt := setKey r.board.changedAt (n - 0x100) s.now
        board.mismatch := r.board.mismatch.filter fun x => x.1 ≠ n - 0x100 }) s
  else if 0x160 ≤ n && n < 0x16C then
    lanes.foldl (fun s l => s.modLane l fun r =>
      { r with board.groups := modifyNth r.board.groups (n - 0x160) fun g =>
          { g with low192 := 0, low170 := 0, busRun := 0 } }) s
  else if n = 0x020 then lanes.foldl (fun s l => s.modLane l fun r => { r with piLow := 0 }) s
  else if n = 0x060 then s.modChan .ab fun c => { c with run := 0 }
  else if n = 0x061 then s.modChan .bc fun c => { c with run := 0 }
  else if n = 0x062 then s.modChan .ca fun c => { c with run := 0 }
  else s

/-- A block out of service until the next start (R31, R372, R378). -/
def State.blockOut (s : State) (b : Block) (src : Nat) : State :=
  let s := { s with dies.resets := s.dies.resets.filter fun r => r.1 ≠ b }
  match b with
  | .engine l _ => s.withdraw l src
  | .crossing l => s.withdraw l src
  | .port p => s.modPort p fun x => { x with outOfService := true, up := false }
  | .die d => s.loseDie d

/-- A reset of the block would be its fourth within 60 s (R378). -/
def State.fourthReset (s : State) (b : Block) : Bool :=
  3 ≤ (s.dies.resetHistory.filter fun r => r.1 = b && s.now < r.2 + ms 60000).length

/-- A RINSE begins; the fourth within 60 s takes the block at level 2 instead (R378). -/
def State.rinse (s : State) (b : Block) (src : Nat) : State :=
  let hist := (s.dies.resetHistory.filter fun r => s.now < r.2 + ms 60000) ++ [(b, s.now)]
  if s.fourthReset b then { s with dies.resetHistory := hist }.blockOut b src
  else
    let s := { s with
      dies.resetHistory := hist
      dies.resets := (s.dies.resets.filter fun r => r.1 ≠ b) ++ [(b, s.now)] }
    match b with
    | .die d => s.setDie d .inReset
    | .port p => s.modPort p fun x => { x with up := false }
    | _ => s

/-- A lane calls for level 3 or 4: its switches and cut-offs go off (R373). -/
def callLevel (now : Time) (v : Nat) (r : LaneRec) : LaneRec :=
  if v < 3 then r else { r with calls := max r.calls v, board := r.board.quench now }

/-- Reaction of a source in a lane (R372, R373, R377). A lane outside VOTING is withdrawn from level 2 up (R199). -/
def State.reactLane (s : State) (n : Nat) (base v : Nat) (l : Lane) : State :=
  if 3 ≤ v && s.isVoting l then s.modLane l (callLevel s.now v)
  else if 2 ≤ v then s.withdraw l n
  else if v = 1 then
    if base = 0 then s.detectorReset n [l]
    else match blockOf n l with
      | some b => s.rinse b n
      | none => s
  else s

/-- The lane that a faulted channel withdraws (R27). -/
def channelVictim (n : Nat) : Option Lane :=
  if n = 0x063 then some (Chan.victim .ab)
  else if n = 0x064 then some (Chan.victim .bc)
  else if n = 0x065 then some (Chan.victim .ca)
  else none

/-- Reaction of a source outside the lanes (R27, R31, R372). Levels 3 and 4 are called for in every lane
that sees the source. -/
def State.reactModule (s : State) (n : Nat) (base v : Nat) (lanes : List Lane) : State :=
  if 3 ≤ v then lanes.foldl (fun s l => s.modLane l (callLevel s.now v)) s
  else if v = 2 then
    match channelVictim n with
    | some l => s.withdraw l n
    | none =>
      if n = 0x184 then s.loseDie .n1
      else if n = 0x1A4 then s.loseDie .n2
      else match blockOf n .a with
        | some b => s.blockOut b n
        | none => s
  else if v = 1 then
    if base = 0 then s.detectorReset n lanes
    else match blockOf n .a with
      | some b => s.rinse b n
      | none => s
  else s

/-! Giving up the Lamp and Safelight -/

/-- The hash of the image that the partner of a holder runs: its own, or, where the images differ, that of its inactive bank
(R175). -/
def State.partnerLogic (s : State) : Hash :=
  let b := s.bank (!s.logic.activeBank)
  if s.pair.mirror.differs && b.state = .verified then b.image.hdr.hash else s.image.hdr.hash

/-- The module ceases to hold the Lamp (R357): outputs and cut-offs off, role STANDBY, mirror to be built
anew; with a reason a RELEASE that names the last Fix leaves if two lanes can seal it (R358). -/
def State.ceaseHolding (s : State) (reason : Option Byte) : State :=
  if s.pair.role ≠ .active then s
  else
    let s := s.darken.modLanes fun _ r => { r with leaseAt := none }
    let send := reason.isSome && s.mirrorUp
    let s := match reason with
      | some c => s.sendMirror (.release s.cyc.lastFix c)
      | none => s
    { s with
      cyc.outputs := 0
      pair.role := .standby
      pair.lease := { released := if send then some s.cyc.lastFix else none }
      pair.mirror := { committed := some s.cyc.lastFix, rxSeq := s.pair.mirror.rxSeq, differs := s.pair.mirror.differs,
                       ownPosition := s.pair.mirror.ownPosition, ownPositionNow := s.pair.mirror.ownPositionNow,
                       holder := some { cycle := s.cs, pair := s.ps, channels := s.image.channels, logic := s.partnerLogic },
                       mismatches := s.pair.mirror.mismatches,
                       stopped := s.pair.mirror.stopped } }

/-- LOCKOUT is stored once (R385). -/
def State.storeLockout (s : State) (src : Nat) : State :=
  if s.flt.persistent.lockout then s
  else { s with flt.persistent := { s.flt.persistent with
    lockout := true, lockoutBoot := s.upd.boot.bootCount, lockoutSource := src } }.storeLamp

/-- Where the cycle goes on from when its results are discarded: Expose is still completed in STOP, and a cycle
that has had neither Fix nor release has its release (R76, R303). -/
def State.discardCycle (s : State) : State :=
  match s.cyc.phase with
  | .expose => s
  | .setWait => s
  | .idle => s
  | .release => s
  | .done => s
  | _ => { s with cyc.phase := if s.cyc.fenceCycle = s.cyc.cycle.setWidth 32 then .done else .release }

/-- A Test Strip run ends for any reason (R450, R451, R455): its record, its target restored, its outcome. -/
def State.endTest (s : State) (status result : Byte) (det : List Byte) : State :=
  match s.test with
  | none => s
  | some r =>
    let source := r.found.getD 0xFFFF
    let time := if r.begun = 0 then 0 else (s.now - r.begun) / 1000000
    let s := if 0 < r.taken then s.event 0x0302 ([BitVec.ofNat 8 r.target, BitVec.ofNat 8 r.index, result] ++ beBytes 4 time) else s
    let body := if status = 0x00 then [result, 0] ++ beBytes 2 source ++ beBytes 4 time else padTo 12 det
    let s := s.modLanes fun l x =>
      if r.target = 1 && r.index = l.idx && x.phase = .testing then { x with phase := .resync, resync := {} } else x
    { s with test := none }.say { sid := r.sid, op := 0x0601, cmdSeq := r.cmdSeq, adm := r.adm, status := status, body := body }

/-- The target of the Test Strip run owns a source (R446, R450). -/
def TestRun.owns (r : TestRun) (n : Nat) (seen : List Lane) : Bool :=
  if r.target = 1 then (n < 0x060 && seen.any fun l => r.index = l.idx)
  else if r.target = 2 then n = 0x160 + (r.index - 1) || (0x100 + 8 * (r.index - 1) ≤ n && n < 0x108 + 8 * (r.index - 1))
  else if r.index = 1 then 0x180 ≤ n && n < 0x1A0
  else 0x1A0 ≤ n && n < 0x1C0

/-- A source that a run in progress finds is noted for its result (R450). -/
def State.noteFound (s : State) (n : Nat) (seen : List Lane) : State :=
  { s with test := s.test.map fun r =>
      if 0 < r.taken && r.found.isNone && r.owns n seen then { r with found := some n } else r }

/-- Images being verified end with a status; the verification itself goes on and answers nobody. -/
def State.endVerifying (s : State) (status : Byte) : State :=
  let pick := fun (e : Option Entry) => e.toList.filter fun e => !e.done
  let ended := fun (e : Option Entry) => e.map fun (e : Entry) => { e with done := true }
  let gone := pick s.upd.slot0.verifying ++ pick s.upd.slot1.verifying ++ pick s.logic.bank0.verifying ++
    pick s.logic.bank1.verifying
  { s.sayAll (gone.map fun e => s.refusal e status noDetail) with
    upd.slot0.verifying := ended s.upd.slot0.verifying
    upd.slot1.verifying := ended s.upd.slot1.verifying
    logic.bank0.verifying := ended s.logic.bank0.verifying
    logic.bank1.verifying := ended s.logic.bank1.verifying }

/-- A handover under way ends with a status (R361). -/
def State.endHandover (s : State) (status : Byte) (det : List Byte) : State :=
  match s.pair.lease.handover with
  | some e =>
    let s := { s with pair.lease.handover := none, pair.lease.handed := false, pair.lease.handoverAnswer := none }
    (s.take e.adm).refuse e status det
  | none => s

/-- The module enters Safelight (R382), or takes a Safelight to LOCKOUT (R385). -/
def State.enterSafelight (s : State) (src level : Nat) : State :=
  let lock := level = 4
  if s.flt.safelight.on then
    if lock && !s.flt.safelight.lockout then
      { s with flt.safelight := { s.flt.safelight with lockout := true, source := src } }.storeLockout src
    else s
  else
    let s := s.darken
    let s := { s with cyc.outputs := 0, fio.prevOutputs := 0 }
    let s := s.endHandover 0x7F noDetail
    let s := s.ceaseHolding (some 0x02)
    let s := s.endHold 0x7F
    let s := s.endEntries (fun _ => true) 0x7F noDetail
    let s := (s.endVerifying 0x7F).endTest 0x7F 0 noDetail
    let s := s.enterStop.discardCycle
    let s := { s with flt.safelight :=
      { on := true, since := s.now, cycle := s.cyc.cycle, source := src, lockout := lock } }
    let s := if lock then s.storeLockout src else s
    s.record { kind := 4, level := level, source := BitVec.ofNat 16 src, lanes := laneMask s.voting,
               detail := beBytes 2 src ++ [BitVec.ofNat 8 level] }

/-- A WITHDRAWN or BARRED lane's Stop Bath takes a source from outside the lanes too (R16); nothing reacts there. -/
def State.markAside (s : State) (c : SrcClass) (n : Nat) : State :=
  if ownLane n then s
  else
    let m := s.shadowMask
    s.modLanes fun l r =>
      if r.phase = .withdrawn || r.phase = .barred then { r with bath := (r.bath.report c n ((m l).getLsbD n)).1 } else r

/-- Sets a VOTE source in every live lane and calls for its level (R65, R193, R200). -/
def State.callAll (s : State) (n : Nat) : State :=
  match classOf n with
  | none => s
  | some c =>
    let lanes := s.liveLanes
    let top := lanes.foldl (fun m l => max m ((s.lane l).bath.levelOf c n)) c.base
    let fresh := lanes.isEmpty || lanes.any fun l => !(s.lane l).bath.sticky.getLsbD n
    let s := (lanes.foldl (fun s l => s.modLane l fun r =>
      let x := r.bath.report c n false
      callLevel s.now (x.2.getD 0) { r with bath := x.1 }) s).markAside c n
    if fresh then
      (s.record { kind := 1, level := top, source := BitVec.ofNat 16 n, cls := BitVec.ofNat 8 c.code,
                  lanes := laneMask lanes, escalated := c.base < top, detail := codeDetail 0 0 }).startRepeats n
    else s.repeatReport n lanes

/-- Highest level that at least two voting lanes call for (R373). -/
def State.calledLevel (s : State) : Nat :=
  if 2 ≤ (s.voting.filter fun l => 4 ≤ (s.lane l).calls).length then 4
  else if 2 ≤ (s.voting.filter fun l => 3 ≤ (s.lane l).calls).length then 3
  else 0

/-- The module has passed its first boundary and its dies run (R476, R486). -/
def State.alive (s : State) : Bool := s.v.power.phase = .running || s.v.power.phase = .rideThrough

/-- A level 3 call in every live lane for a source that has reacted at a lower level (R48). -/
def State.callThree (s : State) (n : Nat) : State :=
  s.liveLanes.foldl (fun s l => s.modLane l fun r =>
    callLevel s.now 3 { r with bath.levels := setKey r.bath.levels n 3 }) s

/-- Both network dies are lost (R48). -/
def State.bothDiesLost (s : State) : Bool := s.dieOut .n1 && s.dieOut .n2 && s.alive && !s.flt.safelight.on

/-- Safelight where the lanes call for it, too few vote or both network dies are lost (R48, R200, R373). -/
def State.judge (s : State) (src : Nat) : State :=
  let s := if s.bothDiesLost then s.callThree src else s
  let lv := s.calledLevel
  let s := if 3 ≤ lv then s.enterSafelight src lv else s
  if s.alive && s.votes < 2 && !s.flt.safelight.on then
    let s := s.callAll 0x070
    s.enterSafelight 0x070 (max 3 (s.liveLanes.foldl (fun m l => max m (s.lane l).calls) 0))
  else s

/-- A source of level 2 whose bit is set already brings no occurrence, but what its rule says of the lane still holds: the lane
that it is in, or that a faulted channel names, is withdrawn, unless it is in Safelight alone (R27, R182, R185, R373; DEDUCED
log 129). -/
def State.withdrawAgain (s : State) (n : Nat) (lanes : List Lane) : State :=
  let out := match channelVictim n with
    | some k => [k]
    | none => if ownLane n then lanes else []
  out.foldl (fun s l => if (s.lane l).calls < 3 then s.withdraw l n else s) s

/-- A report of a source in a set of lanes, whole (R369 to R381): bits, record, reaction, Safelight. -/
def State.report (s : State) (n : Nat) (seen : List Lane) (det : List Byte) : State :=
  match classOf n with
  | none => s
  | some c =>
    let lanes := (if ownLane n then seen else Lane.all).filter fun l => (s.lane l).phase.live
    let inj := s.injected n lanes
    let s := (s.noteFound n lanes).markAside c n
    let s := lanes.foldl (fun s l => s.modLane l fun r =>
      if (s.shadowMask l).getLsbD n then { r with bath.reporting := r.bath.reporting ||| srcBit n } else r) s
    let res := lanes.map fun l => (l, (s.lane l).bath.report c n ((s.shadowMask l).getLsbD n),
      (s.shadowMask l).getLsbD n)
    let s := res.foldl (fun s x => s.modLane x.1 fun r => { r with bath := x.2.1.1 }) s
    let hits := res.filter fun x => x.2.1.2.isSome
    let top := hits.foldl (fun m x => max m (x.2.1.2.getD 0)) c.base
    let during := !hits.isEmpty && hits.all fun x => x.2.2
    let held := if c.base = 2 then (res.filter fun x => x.2.1.2.isNone).map fun x => x.1 else []
    if lanes.isEmpty then s
    else if hits.isEmpty then
      let s := (if inj then s.useInjection else s).repeatReport n lanes
      if held.isEmpty then s else (s.withdrawAgain n held).judge n
    else
      let acts := hits.filter fun x => !x.2.2
      let fourth := acts.any fun x => c.base = 1 && x.2.1.2 = some 1 && match blockOf n x.1 with
        | some b => s.fourthReset b
        | none => false
      let s := s.record
        { kind := 1, level := if fourth then 2 else top, source := BitVec.ofNat 16 n, cls := BitVec.ofNat 8 c.code,
          lanes := laneMask lanes, escalated := fourth || c.base < top, during := during, injected := inj,
          detail := det }
      let s :=
        if ownLane n then acts.foldl (fun s x => s.reactLane n c.base (x.2.1.2.getD 0) x.1) s
        else if acts.isEmpty then s
        else s.reactModule n c.base top (acts.map fun x => x.1)
      let s := if inj then s.useInjection else s
      ((s.startRepeats n).withdrawAgain n held).judge n

/-- A report without further detail. -/
def State.note (s : State) (n : Nat) (seen : List Lane) : State := s.report n seen (codeDetail 0 0)

/-- A report of a source that withdraws the lane at once, whatever level it reacts at (R193, R196, R205, R478). -/
def State.noteOut (s : State) (n : Nat) (l : Lane) : State := ((s.note n [l]).withdraw l n).judge n

/-- A VOTE source raised by the firmware itself: the module enters Safelight (R25, R58, R65, R70,
R193). -/
def State.voteFault (s : State) (n : Nat) : State :=
  let s := s.callAll n
  s.enterSafelight n (max 3 s.calledLevel)

end Sys2Proof.Machine
end

