-- ==== Sys2Proof/Machine/Memory.lean ====
section
/-! DEFINITION. The memory of a lane: its SRAM with check bits over data and address (R15, R17) and the caches of its two cores
(R19). -/

namespace Sys2Proof.Machine

/-- A report of a source in one lane, where its Stop Bath takes reports. -/
def State.noteLane (s : State) (n : Nat) (l : Lane) : State := if (s.lane l).phase.live then s.note n [l] else s

/-- A word of a lane's memory as it stands, checked or not. -/
def LaneRec.word (r : LaneRec) (a : BitVec 22) : W64 :=
  (lookupOr r.sram a.toNat (Config.sramContent a, 0)).1

/-- A word stored with given check bits. -/
def putWord (a : BitVec 22) (w : W64) (check : Byte) (r : LaneRec) : LaneRec := { r with sram := setKey r.sram a.toNat (w, check) }

/-- What the check bits say of a word (R17). -/
def sramOutcome (a : BitVec 22) (w : W64) (check : Byte) : SramOutcome :=
  if check = Config.sramCheck w a then .matches
  else
    let n := (Config.sramSyndrome w check a).val
    if n < 64 then .single n else if n = 64 then .double else .otherAddress

/-- Source of an SRAM read (R17). -/
def SramOutcome.source : SramOutcome → Option Nat
  | .matches => none
  | .single _ => some 0x010
  | .double => some 0x011
  | .otherAddress => some 0x012

/-- The word as corrected (R17). -/
def SramOutcome.corrected (o : SramOutcome) (w : W64) : W64 :=
  match o with
  | .single n => w ^^^ (1 <<< n)
  | _ => w

/-- The source of a read, or the one that an armed injection makes of it (R387). -/
def State.readSource (s : State) (l : Lane) (o : SramOutcome) : Option Nat :=
  ([0x010, 0x011, 0x012].find? fun n => s.injected n [l]) <|> o.source

/-- A lane reads a word: the array delivers it with its check bits (R17). A single-bit error is corrected and written back; a
word that is past correction stays as it is. -/
def State.sramRead (s : State) (l : Lane) (a : BitVec 22) (w : W64) (check : Byte) : State :=
  let o := sramOutcome a w check
  match s.readSource l o with
  | none => s
  | some n =>
    let v := o.corrected w
    let code := if n = 0x010 then Config.sramCheck v a else check
    (s.modLane l (putWord a v code)).noteLane n l

/-- Parity of a cache line (R19). -/
def lineParity (l : List W64) : Bool :=
  l.foldl (fun p w => (List.range 64).foldl (fun q i => q != w.getLsbD i) p) false

/-- A line filled from lane memory (R19). -/
def LaneRec.fill (r : LaneRec) (shadow data : Bool) (number : Nat) : CacheLine :=
  let words := (List.range Config.lineWords).map fun i => r.word (BitVec.ofNat 22 (number * Config.lineWords + i))
  { shadow := shadow, data := data, number := number, words := words, parity := lineParity words }

/-- CACHE_PARITY_ERROR: the line is invalidated and refilled, and the lane records a note (R19). -/
def State.refill (s : State) (l : Lane) (shadow data : Bool) (number : Nat) : State :=
  (s.modLane l fun r => { r with
    caches := (r.caches.filter fun x => !(x.shadow == shadow && x.data == data && x.number = number)) ++ [r.fill shadow data number] }).noteLane
    0x013 l

end Sys2Proof.Machine
end

