-- ==== Sys2Proof/Machine/Firmware.lean ====
section
/-! DEFINITION. What K reads of a firmware image: header, component directory, vendor block and countersignature block (R421 to
R423), with the checks of R428 that need nothing but the image. The primitives are uninterpreted (log 6). -/

namespace Sys2Proof.Machine

/-- Offset and length of a component: 0 lane, 1 network die, 2 supervisor (R421, R422). -/
def fwComponent (b : List Byte) (k : Nat) : Nat × Nat := (fieldAt b (64 + 16 * k) 4, fieldAt b (68 + 16 * k) 4)

def fwSlice (b : List Byte) (k : Nat) : List Byte := slice b (fwComponent b k).1 (fwComponent b k).2

/-- The image hash as K computes it (R421). -/
def fwHash (b : List Byte) : Hash := Config.sha3 (slice b 48 208 ++ fwSlice b 0 ++ fwSlice b 1 ++ fwSlice b 2)

/-- Bytes of the vendor block (R423). -/
def vendorBytes : Nat := 3736 + 2420

/-- Header fields, lengths, component directory and reserved fields (R421, R422, R428 check 1). -/
def fwHeaderOk (b : List Byte) : Bool :=
  let f := fieldAt b
  let len := f 8 8
  f 0 4 = 0x54464D31 && f 4 2 = 1 && f 6 2 = 256 && f 55 1 = 0 && f 112 144 = 0 && 256 + vendorBytes ≤ len && len ≤ b.length &&
    (List.range 3).all fun k =>
      256 ≤ (fwComponent b k).1 && (fwComponent b k).1 + (fwComponent b k).2 + vendorBytes ≤ len && f (72 + 16 * k) 8 = 0

/-- The vendor firmware key certificate at an offset, under the vendor root key (R423, R428 check 2); that its key serial is the
header's is DEDUCED (log 144). -/
def fwCertOk (b : List Byte) (at_ : Nat) : Bool :=
  fieldAt b at_ 2 = fieldAt b 60 2 && fieldAt b (at_ + 2) 2 = 0 &&
    Config.verifies Config.vendorRootKey (Config.sha3 (slice b at_ 1316)) (slice b (at_ + 1316) 2420)

/-- The vendor signature over the image hash, computed afresh (R428 check 4). -/
def fwVendorOk (b : List Byte) (at_ : Nat) : Bool :=
  (fwHash b).toNat = fieldAt b 16 32 && Config.verifies (slice b (at_ + 4) 1312) (fwHash b) (slice b (at_ + 3736) 2420)

/-- The image that the bytes of a slot hold. -/
def fwImage (b : List Byte) : FwImage :=
  let f := fieldAt b
  let len := f 8 8
  let at_ := len - vendorBytes
  { headerOk := fwHeaderOk b, length := len, hash := fwHash b, version := BitVec.ofNat 32 (f 48 4), security := f 52 2,
    minIssue := BitVec.ofNat 8 (f 54 1), format := f 56 2, oldest := f 58 2, keySerial := f 60 2, keyFloor := f 62 2,
    certOk := fwCertOk b at_, vendorOk := fwVendorOk b at_, laneHash := Config.sha3 (fwSlice b 0),
    netHash := Config.sha3 (fwSlice b 1), blockOk := f (len + 1) 3 = 0, signer := f len 1, counterSign := slice b (len + 4) 2420 }

end Sys2Proof.Machine
end

