-- ==== Sys2Proof/Machine/Flags.lean ====
section
/-! DEFINITION. Status words: the module status record (R261, R262), lane status words (R201), session
words (R216) and the front LEDs (R484). -/

namespace Sys2Proof.Machine

/-- LOW_SUPPLY, SYNC_LOST and the others: the Flags byte (R262). -/
def State.statusFlags (s : State) : Nat :=
  at_ 7 (boolNat s.flt.safelight.on) + at_ 6 (boolNat s.flt.safelight.lockout) + at_ 5 (boolNat s.fio.fieldFault) +
    at_ 4 (boolNat s.cyc.unmirrored) + at_ 3 (boolNat s.v.sync.lost) + at_ 2 (boolNat s.v.ptp.valid) +
    at_ 1 (boolNat s.trust.cfg.ownerLock) + boolNat s.v.power.lowSupply

/-- Automatic restarts within the last 24 h (R201, R203). -/
def LaneRec.restartsIn24h (r : LaneRec) (now : Time) : Nat :=
  (r.restarts.filter fun t => now < t + ms 86400000).length

/-- The lane status word (R201). -/
def State.laneWord (s : State) (l : Lane) : Nat :=
  let r := s.lane l
  at_ 60 r.phase.code + at_ 58 l.code + at_ 48 r.pi.toNat + at_ 40 r.piMin.toNat + at_ 31 r.cause.toNat +
    at_ 29 (min 3 (r.restartsIn24h s.now)) + at_ 27 (min 2 r.tardyRun) + r.tardyTotal.toNat

/-- STATE code of a session (R216). -/
def SessState.code : SessState → Nat
  | .opening => 1
  | .opened => 2
  | .closing => 3

/-- The session word (R216). -/
def Session.word (x : Session) : Nat :=
  at_ 58 x.sid + at_ 56 x.pclass.toNat + at_ 54 x.gclass.toNat + at_ 52 x.state.code + at_ 51 (boolNat x.legacy) +
    at_ 47 x.tray + at_ 46 (boolNat x.emerg) + at_ 40 (portCode x.port) + at_ 20 x.node.toNat +
    at_ 16 (min 10 x.missed) + x.refused.toNat

/-- The word of an opening in progress, which is bound to its ID (R216, R218), its home tray and emergency right once OPEN_2 has
granted them (R219). -/
def Opening.word (o : Opening) : Nat :=
  at_ 58 o.sid + at_ 56 o.pclass.toNat + at_ 54 o.gclass.toNat + at_ 52 1 + at_ 51 (boolNat o.legacy) +
    at_ 47 o.tray + at_ 46 (boolNat o.emerg) + at_ 40 (portCode o.port) + at_ 20 o.node.toNat

/-- A command or its outcome stands in the module: the outcome has not been reported (R229). -/
def State.stands (s : State) (op : W16) : Bool :=
  (s.net.entries.any fun e => e.op = op) || s.net.answers.any fun a => a.op = op && !a.notice

/-- A transfer of an image that holds an operation in flight (R225, R229). -/
def State.offering (s : State) : Bool := (s.offerSlot.state = .loading && s.offerSlot.holder ≠ 0) || s.stands 0x0701

def State.loading (s : State) : Bool := (s.loadBank.state = .loading && s.loadBank.holder ≠ 0) || s.stands 0x0A01

/-- Opcodes that hold an operation in flight each by itself (R236). -/
def holdsAlone (op : W16) : Bool := [(0x0601 : W16), 0x0801, 0x0802, 0x0810, 0x0902].contains op

/-- Operations in flight (R229), until the outcome is reported; one whose session has closed is released. -/
def State.inFlight (s : State) : Nat :=
  (s.net.entries.filter fun e => holdsAlone e.op).length + (s.net.answers.filter fun a => holdsAlone a.op && !a.notice).length +
    boolNat s.offering + boolNat s.loading + boolNat (s.test.any fun r => r.sid ≠ 0) +
    boolNat (s.pair.lease.handed && s.pair.lease.handover.any fun e => e.sid ≠ 0)

/-- The module status record (R261), 64 bytes. -/
def State.statusRecord (s : State) : List Byte :=
  let c := s.cs
  let inactive := match s.loadBank.state with
    | .active => 0
    | b => b.code
  [BitVec.ofNat 8 s.cyc.mode.code, BitVec.ofNat 8 s.voteMode, BitVec.ofNat 8 s.trust.cfg.lifecycle.code,
   BitVec.ofNat 8 (s.pair.role.code + at_ 4 (boolNat s.pair.mirror.differs)), BitVec.ofNat 8 s.statusFlags,
   BitVec.ofNat 8 s.v.power.charge] ++
  beBytes 6 s.cyc.cycle.toNat ++ beBytes 4 s.pair.epochKnown.toNat ++ beBytes 2 c.p ++
  [BitVec.ofNat 8 c.develop, BitVec.ofNat 8 c.mirror, BitVec.ofNat 8 c.fixLatest,
   BitVec.ofNat 8 (c.skipLimit + at_ 2 (min 3 s.cyc.skips) + at_ 4 c.sync.toNat)] ++
  beBytes 2 s.inFlight ++ beBytes 4 s.cyc.skipTotal.toNat ++ beBytes 4 s.v.sync.outOfWindow.toNat ++
  beBytes 8 (s.laneWord .a) ++ beBytes 8 (s.laneWord .b) ++ beBytes 8 (s.laneWord .c) ++
  [BitVec.ofNat 8 (boolNat s.logic.activeBank + at_ 1 inactive),
   BitVec.ofNat 8 (boolNat s.upd.running + at_ 1 (boolNat s.upd.onTrial)), 0, 0] ++
  beBytes 4 s.image.hdr.serial.toNat

/-- What a front LED shows (R484). -/
inductive Led where
  | dark | flashing | lit
  deriving DecidableEq, Repr

/-- SAFE: off from the first Fix in RUN, flashing in LOCKOUT; lit by a module that finds no image to load (R484). -/
def State.ledSafe (s : State) : Led :=
  if s.flt.safelight.lockout then .flashing
  else if s.v.power.phase = .running && s.cyc.mode ≠ .stop && s.cyc.fixedInRun && !s.flt.safelight.on then .dark
  else if s.v.power.phase = .off then .dark
  else .lit

/-- LANE A, B, C (R484). -/
def State.ledLane (s : State) (l : Lane) : Led :=
  match (s.lane l).phase with
  | .voting => .lit
  | .down => .dark
  | .withdrawn => .dark
  | .barred => .dark
  | _ => .flashing

/-- LAMP (R484). -/
def State.ledLamp (s : State) : Led :=
  if s.pair.lease.guard then .flashing
  else if s.holdsLamp then .lit
  else .dark

/-- FIELD (R484). -/
def State.ledField (s : State) : Led := if s.fio.fieldFault then .lit else .dark

end Sys2Proof.Machine
end

