-- ==== Sys2Proof/Machine/Admission.lean ====
section
/-! DEFINITION. Packets at a network die: the checks of R231, the payload maps of 08 as admission reads
them (R243), the arithmetic of R233, R234 and R236, and the packets that the module sends (R208 to R214,
R315). -/

namespace Sys2Proof.Machine

/-! What the module sends -/

/-- Flags byte of a packet of the module (R209, R212). -/
def packetFlags (notice tag sealBit sc : Bool) (cls : Nat) : Byte :=
  BitVec.ofNat 8 (0x80 + (if notice then 0x40 else 0x20) + at_ 4 (boolNat tag) + at_ 3 (boolNat sealBit) +
    at_ 2 (boolNat sc) + cls)

/-- Header bytes 0 to 7 (R208, R315). -/
def headBytes (legacy : Bool) (flags : Byte) (op sid trayPrio len : Nat) : List Byte :=
  [if legacy then 2 else 3, flags] ++ beBytes 2 op ++ [BitVec.ofNat 8 sid, BitVec.ofNat 8 trayPrio] ++ beBytes 2 len

/-- The 12-byte prefix (R214). -/
def replyPrefix (status : Byte) (cmdSeq adm : W32) : List Byte :=
  [status, 0, 0, 0] ++ beBytes 4 cmdSeq.toNat ++ beBytes 4 adm.toNat

/-- What of R212 a packet of the module is: with safety code 1 alone, under the seal of two lanes, the INTERNAL_SAFELIGHT
outcome without code, or the reply to NEGATIVE_READ with the scribe's code. -/
inductive PktForm where
  | single | sealed | bare | scribe
  deriving DecidableEq, Repr

def PktForm.sc (f : PktForm) : Bool := f ≠ .bare
def PktForm.twoLanes (f : PktForm) : Bool := f = .sealed
/-- It carries the fence block of the last Fix (R212). -/
def PktForm.late (f : PktForm) : Bool := f = .bare || f = .scribe

/-- Where a packet goes, and in what session (R208, R290): `key` is the tag key of class S and TS. -/
structure Carriage where
  port : Port
  endpoint : Nat
  legacy : Bool := false
  cls : Nat := 0
  key : Option Hash := none
  sid : Nat := 0
  seq : W32 := 1
  alive : W16 := 0
  deriving DecidableEq, Repr

/-- Header bytes 0 to 27 of a native packet of the module, 0 to 13 of a legacy one (R208, R315). -/
def Reply.head (r : Reply) : List Byte :=
  headBytes r.legacy r.flags r.op.toNat r.sid 0 r.payload.length ++
    if r.legacy then beBytes 2 (r.seq.toNat % 65536) ++ beBytes 2 r.alive.toNat ++ [0, 0]
    else beBytes 4 r.seq.toNat ++ beBytes 4 r.deadline.toNat ++ beBytes 8 r.stamp.toNat ++ beBytes 2 r.alive.toNat ++ [0, 0]

/-- Its fence block (R210). -/
def Reply.fenceBytes (r : Reply) : List Byte := beBytes 4 r.epoch.toNat ++ beBytes 4 r.fence.toNat

/-- What its safety codes cover (R211, R315). -/
def Reply.covered (r : Reply) : List Byte := r.head.take 8 ++ r.payload ++ r.fenceBytes

/-- A packet of the module with its header check, its safety codes and its tag (R208 to R213, R315). -/
def Reply.close (r : Reply) (form : PktForm) (key : Option Hash) : Reply :=
  let check : W32 := if r.legacy then (crc16 0xFFFF r.head).setWidth 32 else crc32c r.head
  let code := fun (init16 : W16) (init64 : W64) =>
    if r.legacy then (crc16 init16 r.covered).setWidth 64 else crc64 init64 r.covered
  let sc1 := if form.sc then some (code 0xFFFF 0) else none
  let sc2 := if form.twoLanes then some (code 0 0xFFFFFFFFFFFFFFFF) else none
  let codes := [sc1, sc2].flatMap fun c => c.elim [] fun v => beBytes 8 v.toNat
  { r with
    check := check, sc1 := sc1, sc2 := sc2
    tag := key.map fun k => tagOver k (r.head ++ beBytes 4 check.toNat ++ r.payload ++ r.fenceBytes ++ codes) }

/-- A packet that the module sends (R208 to R213, R315). -/
def State.packet (s : State) (c : Carriage) (form : PktForm) (notice : Bool) (op : W16) (deadline : W32)
    (payload : List Byte) : Reply :=
  ({ port := c.port, endpoint := c.endpoint, legacy := c.legacy
     flags := packetFlags notice c.key.isSome form.twoLanes form.sc c.cls
     op := op, sid := c.sid, seq := c.seq, deadline := if c.legacy then 0 else deadline, stamp := s.stamp, alive := c.alive
     payload := payload, epoch := if form.late then s.cyc.fenceEpoch else s.ownEpoch, fence := s.cyc.fenceCycle } : Reply).close
    form c.key

def State.session? (s : State) (sid : Nat) : Option Session := s.net.sessions.find? fun x => x.sid = sid

def State.modSession (s : State) (sid : Nat) (f : Session → Session) : State :=
  { s with net.sessions := updateWhere (fun x => x.sid = sid) f s.net.sessions }

/-- How the next packet of a session is carried (R216, R223). -/
def Session.carriage (x : Session) : Carriage :=
  { port := x.port, endpoint := x.endpoint, legacy := x.legacy, cls := x.gclass.toNat
    key := if 2 ≤ x.gclass.toNat && !x.legacy then some x.keyOut else none
    sid := x.sid, seq := x.tx + 1, alive := x.alive }

/-- Sends a packet in a session: its sequence number advances (R223). After SESSION_CLOSE's DONE nothing leaves (R266). -/
def State.sendIn (s : State) (sid : Nat) (form : PktForm) (notice : Bool) (op : W16) (deadline : W32) (payload : List Byte) :
    State :=
  match s.session? sid with
  | none => s
  | some x =>
    if x.lastSaid then s
    else
      (s.modSession sid fun y => { y with tx := y.tx + 1, sentThisPeriod := s.now }).emit
        (.reply (s.packet x.carriage form notice op deadline payload))

/-- A reply outside any session carries no tag and the first sequence number (R223, R241; log 16). -/
def State.sendOut (s : State) (p : Pkt) (op : W16) (payload : List Byte) : State :=
  s.emit (.reply (s.packet { port := p.port, endpoint := p.endpoint, legacy := p.version = 2, cls := p.flags.toNat % 4 }
    .single false op 0 payload))

/-! Payload maps at admission -/

/-- Length range of a payload (R243, 08). -/
def lengthOf (op : Nat) (phase : Nat) : Nat × Nat :=
  match op with
  | 0x0101 => (8, 8)
  | 0x0102 => (4, 4)
  | 0x0103 => (4, 4)
  | 0x0201 => (4, 4)
  | 0x0202 => (4, 4)
  | 0x0211 => (4, 4)
  | 0x0221 => (4, 4)
  | 0x0231 => (4, 4)
  | 0x0241 => (4, 4)
  | 0x0301 => (8, 8)
  | 0x0302 => (12, 12)
  | 0x0303 => (4, 4)
  | 0x0402 => (0, 0)
  | 0x0403 => (0, 0)
  | 0x0501 => (4, 4)
  | 0x0502 => (8, 8)
  | 0x0503 => (0, 0)
  | 0x0601 => (4, 4)
  | 0x0610 => (8, 8)
  | 0x0620 => (4, 4)
  | 0x0621 => (12, 12)
  | 0x0630 => (4, 4)
  | 0x0640 => (4, 4)
  | 0x0701 => (9, 1024)
  | 0x0704 => (44, 44)
  | 0x0708 => (32, 32)
  | 0x0801 => if phase = 2 then (9, 1024) else (8, 8)
  | 0x0802 => (9, 1024)
  | 0x0810 => if phase = 2 then (9, 1024) else (8, 8)
  | 0x0901 => (0, 0)
  | 0x0902 => (4, 4)
  | 0x0903 => (4, 4)
  | 0x0A01 => (9, 1024)
  | 0x0A02 => (32, 32)
  | _ => (0, 1024)

/-- Fields of a payload with their offsets and whether each is in its range (08). -/
def fieldsOf (op : Nat) (l : List Byte) : List (Nat × Bool) :=
  let f := fieldAt l
  let zero := fun (off n : Nat) => (off, decide (f off n = 0))
  let rid := (0, decide (f 0 2 < 4096))
  let oid := (0, decide (f 0 2 < 16384))
  match op with
  | 0x0101 => [rid, (2, decide (f 2 1 ≤ 1)), zero 3 1,
      (4, decide (f 4 4 = 0 ∨ (f 2 1 = 1 ∧ 1000 ≤ f 4 4 ∧ f 4 4 ≤ 600000)))]
  | 0x0102 => [rid, zero 2 2]
  | 0x0103 => [rid, (2, decide (f 2 1 = 1 ∨ f 2 1 = 2)), zero 3 1]
  | 0x0201 => [oid, (2, decide (f 2 1 = 1 ∨ f 2 1 = 2)), zero 3 1]
  | 0x0202 => [oid, (2, decide (f 2 1 ≤ 1)), zero 3 1]
  | 0x0211 => [oid, (2, decide (f 2 1 ≤ 1)), zero 3 1]
  | 0x0221 => [oid, zero 2 2]
  | 0x0231 => [oid, zero 2 2]
  | 0x0241 => [oid, zero 2 2]
  | 0x0301 => [(0, decide (1 ≤ f 0 1 ∧ f 0 1 ≤ 6)), zero 1 1,
      (4, decide (f 4 4 = 0 ∨ (2 ≤ f 0 1 ∧ f 0 1 ≤ 4)))]
  | 0x0302 => [(0, decide (1 ≤ f 0 1 ∧ f 0 1 ≤ 4)), (1, decide (f 1 1 ≤ 1)), (4, decide (f 4 4 = 0 ∨ 2 ≤ f 0 1)),
      (8, decide (if f 1 1 = 1 then 1 ≤ f 8 1 else f 8 1 = 0)), zero 9 3]
  | 0x0303 => [zero 1 3]
  | 0x0501 => [(0, decide (f 0 1 ≤ 2)), (1, decide (f 1 1 = 0 ∨ (f 1 1 = 1 ∧ f 0 1 = 2))), zero 2 2]
  | 0x0502 => [(0, decide (5 ≤ f 0 2 ∧ f 0 2 ≤ 1000)), (2, decide (50 ≤ f 2 1 ∧ f 2 1 ≤ 80)),
      (3, decide (55 ≤ f 3 1 ∧ f 3 1 ≤ 85)), (4, decide (60 ≤ f 4 1 ∧ f 4 1 ≤ 90)),
      (5, decide (1 ≤ f 5 1 ∧ f 5 1 ≤ 3)), (6, decide (f 6 1 ≤ 2)), zero 7 1]
  | 0x0601 => [(0, decide (1 ≤ f 0 1 ∧ f 0 1 ≤ 3)),
      (1, decide (if f 0 1 = 1 then f 1 1 ≤ 2 else if f 0 1 = 2 then 1 ≤ f 1 1 ∧ f 1 1 ≤ 12 else 1 ≤ f 1 1 ∧ f 1 1 ≤ 2)),
      zero 2 2]
  | 0x0610 => [(0, decide (f 0 1 ≤ 1)), (1, decide (f 1 1 ≤ 2)),
      (2, decide (if f 0 1 = 0 then 1 ≤ f 2 1 ∧ f 2 1 ≤ 3 else f 2 1 ≤ 2)),
      (3, decide (if f 0 1 = 0 then f 3 1 ≤ 9 else f 3 1 = 0))]
  | 0x0620 => [(0, decide (f 0 1 ≤ 2)), (1, decide (f 1 1 ≤ 31)), (2, decide (1 ≤ f 2 1 ∧ f 1 1 + f 2 1 ≤ 32)), zero 3 1]
  | 0x0621 => [(0, decide (1 ≤ f 0 1 ∧ f 0 1 ≤ 7)), (1, decide (f 1 1 ≤ 31)), (2, decide (f 2 1 ≤ 2)),
      (3, decide (f 3 1 ≤ 3)), (4, decide (if f 2 1 = 2 then f 4 2 ≤ 127 else f 2 1 = 1 ∨ f 4 2 = 0)), zero 6 2,
      (8, decide (f 2 1 = 1 ∨ f 8 4 = 0))]
  | 0x0630 => [(0, decide (f 0 2 ≤ 511 ∨ f 0 2 = 0xFFFF)), (2, decide (f 2 1 ≤ 1)), zero 3 1]
  | 0x0640 => [(0, decide (f 0 2 ≤ 511)), (2, decide (if ownLane (f 0 2) then f 2 1 ≤ 2 else f 2 1 = 0xFF)), (3, decide (1 ≤ f 3 1 ∧ f 3 1 ≤ 16))]
  | 0x0701 => [(4, decide (1 ≤ f 4 4 ∧ f 4 4 ≤ 16777216)), (8, decide (f 0 4 + (l.length - 8) ≤ f 4 4))]
  | 0x0704 => [(40, decide (f 40 1 ≤ 1)), zero 41 3]
  | 0x0801 => [(0, decide (1 ≤ f 0 1 ∧ f 0 1 ≤ 3)), (1, decide (f 0 1 = 2 ∨ f 1 1 = 0)),
      (2, decide (if f 0 1 = 2 then 1 ≤ f 2 1 else f 2 1 = 0)), zero 3 1, (4, decide (f 0 1 ≠ 1 ∨ f 4 4 = 0))]
  | 0x0802 => [(0, decide (f 0 1 = 2)), (2, decide (1 ≤ f 2 1)), zero 3 1]
  | 0x0810 => [(0, decide (1 ≤ f 0 1 ∧ f 0 1 ≤ 3)), (1, decide (f 0 1 = 2 ∨ f 1 1 = 0)),
      (2, decide (if f 0 1 = 2 then 1 ≤ f 2 1 else f 2 1 = 0)), zero 3 1, (4, decide (f 0 1 ≠ 1 ∨ f 4 4 = 0))]
  | 0x0902 => [(0, decide (f 0 1 = 1)), zero 1 3]
  | 0x0903 => [(0, decide (2 ≤ f 0 1 ∧ f 0 1 ≤ 16)), zero 1 1, (2, decide (f 2 2 < 4096))]
  | 0x0A01 => [(4, decide (1 ≤ f 4 4 ∧ f 4 4 ≤ 16777216)), (8, decide (f 0 4 + (l.length - 8) ≤ f 4 4))]
  | _ => []

/-- Byte offset at which a payload departs from its map (R243); none where it does not. -/
def offence (op : Nat) (l : List Byte) : Option Nat :=
  let r := lengthOf op (fieldAt l 0 1)
  if l.length < r.1 then some l.length
  else if r.2 < l.length then some r.2
  else ((fieldsOf op l).find? fun x => !x.2).map fun x => x.1

/-! Opcode table (R236, R247) -/

/-- Kinds of commands (R236). -/
inductive OpKind where
  | cut | service
  deriving DecidableEq, Repr

/-- A row of R236 and R247: kind, promise for a cycle setting and L, operation in flight, Slack cost in ns,
partner classes (bit n for PCLASS n), SERVICE limited to C and M, lifecycle states (bit n for code n). -/
structure OpRow where
  kind : OpKind
  promise : Nat
  extraNs : Time
  holdsOp : Bool
  cost : Nat
  classes : BitVec 4
  onlyCM : Bool
  lifecycles : BitVec 6
  deriving DecidableEq, Repr

def hostService : BitVec 4 := 0b1001
def hostNbService : BitVec 4 := 0b1011
def lcCVM : BitVec 6 := 0b011100
def lcPCVM : BitVec 6 := 0b011110
def lcAll : BitVec 6 := 0b111110
def lcCM : BitVec 6 := 0b010100

/-- Row of an opcode (R236, R247). `promise` counts periods, `extraNs` the rest. -/
def opRow (op : Nat) (lease : Nat) : Option OpRow :=
  let cut := fun (c : BitVec 4) (cm : Bool) (lc : BitVec 6) =>
    some { kind := .cut, promise := 2, extraNs := ms 10, holdsOp := false, cost := 0, classes := c, onlyCM := cm, lifecycles := lc }
  let svc := fun (cost : Nat) (op : Bool) (c : BitVec 4) (lc : BitVec 6) =>
    some { kind := .service, promise := 3, extraNs := ms 10, holdsOp := op, cost := cost * 1000, classes := c, onlyCM := false, lifecycles := lc }
  let trust := some { kind := .service, promise := 0, extraNs := ms 1000, holdsOp := true, cost := 10000, classes := hostService, onlyCM := false, lifecycles := lcPCVM }
  match op with
  | 0x0101 => cut hostService true lcCVM
  | 0x0102 => cut hostService true lcCVM
  | 0x0103 => cut hostService true lcCVM
  | 0x0201 => cut hostService true lcCVM
  | 0x0202 => cut hostService true lcCVM
  | 0x0211 => cut hostService true lcCVM
  | 0x0221 => cut hostService true lcCVM
  | 0x0231 => cut hostService true lcCVM
  | 0x0241 => cut hostService true lcCVM
  | 0x0301 => svc 20 false hostNbService lcAll
  | 0x0302 => svc 20 false hostNbService lcAll
  | 0x0303 => svc 20 false hostNbService lcAll
  | 0x0402 => cut hostNbService false lcAll
  | 0x0403 => cut hostNbService false lcAll
  | 0x0501 => cut hostService false lcCVM
  | 0x0502 => cut hostService false lcCVM
  | 0x0503 => cut hostService false lcCM
  | 0x0601 => svc 0 true hostService lcCVM
  | 0x0610 => svc 40 false hostService lcAll
  | 0x0620 => svc 20 false hostService lcCVM
  | 0x0621 => cut hostService false lcCVM
  | 0x0630 => cut hostService false lcAll
  | 0x0640 => cut 0b1000 false lcCM
  | 0x0701 => svc 50 true hostNbService lcPCVM
  | 0x0704 => svc 10 false hostService lcPCVM
  | 0x0708 => svc 10 false hostService lcPCVM
  | 0x0801 => trust
  | 0x0802 => trust
  | 0x0810 => trust
  | 0x0901 => svc 20 false hostService lcCVM
  | 0x0902 => some { kind := .cut, promise := lease + 3, extraNs := ms 10, holdsOp := true, cost := 0, classes := hostService, onlyCM := false, lifecycles := lcCVM }
  | 0x0903 => svc 10 false hostService lcCVM
  | 0x0A01 => svc 50 true hostService lcCVM
  | 0x0A02 => cut hostService false lcCVM
  | _ => none

/-! Budgets (R233) -/

/-- Slack S at floor pace after E, D, B and 0.2 ms, in ns (R233); without an active image D is 0 (DESIGN CHOICE, log 127). -/
def State.slackNs (s : State) : Nat :=
  let h := (s.image).hdr
  let used := match s.image? with
    | some _ => budgetE h + budgetD h + (if s.paired then budgetB h else 0)
    | none => 1000000
  s.periodNs - used - 200000

/-- The Slack service budget Q in ns (R233). -/
def State.slackQ (s : State) : Nat :=
  let take := fun (want left : Nat) => min want left
  let s0 := s.slackNs
  let s1 := s0 - take (s.periodNs / 20) s0
  let svc := take 500000 s1
  let s2 := s1 - svc
  let s3 := s2 - take (s.periodNs / 10) s2
  let s4 := s3 - take (s.periodNs / 5) s3
  svc + s4

/-- The Test Strip part T of the Slack in ns (R233, R449). -/
def State.testPart (s : State) : Nat :=
  let s0 := s.slackNs
  let s1 := s0 - min (s.periodNs / 20) s0
  let s2 := s1 - min 500000 s1
  let s3 := s2 - min (s.periodNs / 10) s2
  min (s.periodNs / 5) s3

/-- Slices of a run (R446, R449). -/
def State.testSlices (s : State) (target : Nat) : Nat :=
  let w := if target = 1 then ms 120 else if target = 2 then ms 12 else ms 60
  if s.testPart = 0 then 0 else (w + s.testPart - 1) / s.testPart

/-- Run-time bound of a Test Strip run (R449). -/
def State.testBound (s : State) (target : Nat) : Time := s.testSlices target * s.periodNs

/-- Subscriptions that hold, those whose SUBSCRIBE waits included. -/
def State.subCount (s : State) : Nat := s.net.subs.length + (s.net.entries.filter fun e => e.op = 0x0302).length

/-- The per-cycle charge of the subscriptions where an update of each is due (R236). -/
def State.standing (s : State) : Nat := 20000 * s.subCount

/-- The Fix or release of the cycle in hand is past. -/
def State.released (s : State) : Bool := s.cyc.fenceCycle = s.cyc.cycle.setWidth 32

/-- An update may be due in a cycle: on change in every one, every N cycles in every N-th (R236, R263; log 17). -/
def State.dueIn (s : State) (cycle : Nat) (u : Subscription) : Bool :=
  let next := s.cyc.cycle.toNat + u.left - boolNat (!s.released)
  !u.everyN || (next ≤ cycle && (cycle - next) % (max 1 u.n) = 0)

/-- The charge of the updates that are due in a cycle, 20 us each; of a SUBSCRIBE that waits, in every cycle after its own. -/
def State.standingIn (s : State) (cycle : Nat) : Nat :=
  20000 * ((s.net.subs.filter (s.dueIn cycle)).length +
    (s.net.entries.filter fun e => e.op = 0x0302 && decide (e.cycle < cycle)).length)

/-- Charges of a kind in a cycle; `p` picks the trays. Kinds: 0 route, 1 element, 2 other cut, 3 Q. -/
def State.charged (s : State) (cycle kind : Nat) (p : Nat → Bool) : Nat :=
  (s.net.charges.filter fun c => c.1 = cycle && c.2.1 = kind && p c.2.2.1).foldl (fun a c => a + c.2.2.2) 0

/-- The cut of a cycle has room for one more command of a kind from a tray (R233). -/
def State.cutRoom (s : State) (cycle kind tray : Nat) : Bool :=
  if kind = 2 then s.charged cycle 2 (fun _ => true) < 64
  else s.charged cycle kind (fun _ => true) < 1024 && (tray = 0 || s.charged cycle kind (fun x => x ≠ 0) < 960)

/-- The Q that a cycle has been charged, the updates due in it included (R234, R236). -/
def State.chargedQ (s : State) (cycle : Nat) : Nat := s.charged cycle 3 (fun _ => true) + s.standingIn cycle

/-- First cycle from k whose uncharged Q covers a cost (R234), and in which `more` holds; looked for over the fuel given. -/
def State.firstQ (s : State) (cost : Nat) (more : Nat → Bool) : Nat → Nat → Option Nat
  | 0, _ => none
  | fuel + 1, k =>
    if s.chargedQ k + cost ≤ s.slackQ && more k then some k else s.firstQ cost more fuel (k + 1)

/-- The updates of one more subscription fit into every cycle after k that is charged already (R236, R238). -/
def State.updatesFit (s : State) (k : Nat) : Bool :=
  s.net.charges.all fun c => c.2.1 ≠ 3 || decide (c.1 ≤ k) || decide (s.chargedQ c.1 + 20000 ≤ s.slackQ)

/-! Admission (R234) -/

/-- What admission asks of a command: opcode row, origin and budget. -/
structure Ask where
  op : Nat
  row : OpRow
  tray : Nat
  prio : Nat
  timed : Bool
  deadline : Option Time
  last : Bool
  deriving DecidableEq, Repr

/-- Kind of cut budget (R233). -/
def cutKind (op : Nat) : Nat := if op / 256 = 1 then 0 else if op / 256 = 2 then 1 else 2

/-- Promise in ns (R236). -/
def State.promiseNs (s : State) (a : Ask) (payload : List Byte) : Time :=
  if a.last && (a.op = 0x0701 || a.op = 0x0A01) then ms 5000
  else a.row.promise * s.periodNs + a.row.extraNs +
    (if a.op = 0x0601 then s.testBound (fieldAt payload 0 1) else 0)

/-- Outcome of R234: refusal status, or the charges and the outcome limit. Where the Slack within the promise is taken the
refusal is BUSY, and NO_GUARANTEE where only the command's own deadline is too short (R236; log 98). -/
def State.admission (s : State) (a : Ask) (payload : List Byte) : Byte ⊕ (List (Nat × Nat × Nat × Nat) × Nat × Option Time) :=
  let b := max s.nextBoundary s.now
  let near := b - s.now < 100000
  let c0 := s.cyc.cycle.toNat + 1
  let k := if near then c0 + 1 else c0
  let startOf := fun (c : Nat) => b + (c - c0) * s.periodNs
  let fixLatest := deadlineNs s.cs s.cs.fixLatest
  let occupancy := (s.net.entries.filter fun e => e.tray = a.tray && !e.left).length
  let held := if a.op = 0x0701 then s.offering else if a.op = 0x0A01 then s.loading else false
  if 136 + 8 * a.prio ≤ occupancy then .inl 0x10
  else if a.row.holdsOp && !held && 64 ≤ s.inFlight then .inl 0x10
  else if a.op = 0x0302 && s.slackQ < 2 * (s.standing + 20000) then .inl 0x10
  else
    let limit := match a.deadline with
      | some d => min (s.now + s.promiseNs a payload) d
      | none => s.now + s.promiseNs a payload
    let lim := if a.timed then some limit else none
    match a.row.kind with
    | .cut =>
      let cycles := if near then [c0, c0 + 1] else [c0]
      let kind := cutKind a.op
      if !cycles.all fun c => s.cutRoom c kind a.tray then .inl 0x10
      else if a.timed && limit < startOf k + fixLatest + 1000000 then .inl 0x11
      else .inr (cycles.map fun c => (c, kind, a.tray, 1), k, lim)
    | .service =>
      match s.firstQ a.row.cost (fun c => a.op ≠ 0x0302 || s.updatesFit c) 4096 k with
      | none => .inl 0x10
      | some j =>
        let out := startOf (j + 1) + fixLatest + 1000000
        if a.timed && s.now + s.promiseNs a payload < out then .inl 0x10
        else if a.timed && limit < out then .inl 0x11
        else .inr ([(j, 3, a.tray, a.row.cost)], j, lim)

/-! The checks of R231 -/

/-- Status codes counted in REFUSED (R216). -/
def countsRefused (status : Byte) : Bool := 0x30 ≤ status.toNat && status.toNat ≤ 0x34

/-- One packet refused with BAD_AUTH: eight within 1 s close the session (R225). -/
def noteBadAuth (now : Time) (x : Session) : Session :=
  let l := (x.badAuth.filter fun t => now < t + ms 1000) ++ [now]
  if 8 ≤ l.length then { x.close with badAuth := l } else { x with badAuth := l }

/-- An admission reply in an open session (R232). -/
def State.refuseIn (s : State) (x : Session) (op : W16) (seq : W32) (status : Byte) (det : List Byte) : State :=
  let s := s.modSession x.sid fun y =>
    let y := if countsRefused status then { y with refused := if y.refused = 0xFFFF then 0xFFFF else y.refused + 1 } else y
    if status = 0x34 then noteBadAuth s.now y else y
  s.sendIn x.sid .single false op 0 (replyPrefix status seq 0 ++ padTo 12 det)

/-- Header bytes covered by the header check (R208, R315). -/
def Pkt.head (p : Pkt) (op : Nat) : List Byte :=
  [p.version, p.flags] ++ beBytes 2 op ++ [p.session, p.trayPrio] ++ beBytes 2 p.length.toNat

/-- Header bytes that the header check covers (R208, R315). -/
def Pkt.checked (p : Pkt) (op : Nat) : List Byte :=
  if p.version = 2 then
    p.head op ++ beBytes 2 (p.seq.toNat % 65536) ++ beBytes 2 p.alive.toNat ++ beBytes 2 p.reserved.toNat
  else
    p.head op ++ beBytes 4 p.seq.toNat ++ beBytes 4 p.deadline.toNat ++ beBytes 8 p.stamp.toNat ++
      beBytes 2 p.alive.toNat ++ beBytes 2 p.reserved.toNat

def Pkt.headerOk (p : Pkt) (op : Nat) : Bool :=
  if p.version = 2 then p.check.setWidth 16 = crc16 0xFFFF (p.checked op) else p.check = crc32c (p.checked op)

/-- Version 0x3 on host ports and port S, version 0x2 on host ports (R207, R291). -/
def Pkt.versionOk (p : Pkt) : Bool :=
  match p.port with
  | .h _ => p.version = 3 || p.version = 2
  | .s => p.version = 3
  | _ => false

def Pkt.sid (p : Pkt) : Nat := p.session.toNat % 64
def Pkt.tray (p : Pkt) : Nat := p.trayPrio.toNat % 16
def Pkt.prio (p : Pkt) : Nat := p.trayPrio.toNat / 16
def Pkt.flag (p : Pkt) (n : Nat) : Bool := bitOf p.flags.toNat n

/-- Safety code 1 of a packet without fence block (R211, R315). -/
def Pkt.scOk (p : Pkt) (op : Nat) : Bool :=
  let covered := p.head op ++ p.payload
  if p.version = 2 then p.sc1.setWidth 16 = crc16 0xFFFF covered else p.sc1 = crc64a covered

/-- The tag under the key for its direction, over the header, the payload and the trailer before it (R213). -/
def Pkt.tagOk (p : Pkt) (x : Session) (op : Nat) : Bool :=
  p.tag = tagOver x.keyIn (p.checked op ++ beBytes 4 p.check.toNat ++ p.payload ++ if p.flag 2 then beBytes 8 p.sc1.toNat else [])

/-- Trailer flags of a command (R212, R315). -/
def Pkt.flagsOk (p : Pkt) (op : Nat) (cls : BitVec 2) : Bool :=
  let sealed := 2 ≤ cls.toNat
  let g := op / 256
  let scNeeded := g = 1 || g = 2 || g = 5 || g = 9 || g = 10
  !p.flag 7 && !p.flag 6 && !p.flag 5 && !p.flag 3 &&
    (if p.version = 2 then !p.flag 4 && p.flag 2
     else (p.flag 4 == sealed) && (p.flag 2 || (!scNeeded && p.flag 4)))

/-- Opcode permitted to the partner class in the current lifecycle state (R247, R248, R316). -/
def State.permitted (s : State) (x : Session) (op : Nat) (row : OpRow) (payload : List Byte) : Bool :=
  let cm := s.trust.cfg.lifecycle = .commissioning || s.trust.cfg.lifecycle = .maintenance
  row.classes.getLsbD x.pclass.toNat &&
    !(x.pclass = 3 && row.onlyCM && !cm) &&
    !(x.pclass = 3 && op = 0x0103 && fieldAt payload 2 1 = 2) &&
    !(x.legacy && 4 < op / 256)

/-- Results of the sequence check (R223, R316). -/
inductive SeqResult where
  | accepted (h : W32) | duplicate | refused | wrap
  deriving DecidableEq, Repr

def seqCheck (legacy : Bool) (h seq : W32) : SeqResult :=
  if legacy then
    let d := (seq.setWidth 16 - h.setWidth 16 : W16).toNat
    if d = 0 then .duplicate
    else if 64 < d || seq.setWidth 16 = (0 : W16) then .refused
    else if 0xFF00 < (seq.setWidth 16 : W16).toNat then .wrap
    else .accepted ((seq.setWidth 16 : W16).setWidth 32)
  else if seq = h then .duplicate
  else if seq.toNat ≤ h.toNat || h.toNat + 64 < seq.toNat then .refused
  else if 0xFFFFFF00 < seq.toNat then .wrap
  else .accepted seq

/-- A timestamp lies within a freshness limit in ms, or is not checked (R224, R316). -/
def State.stampFresh (s : State) (legacy : Bool) (freshMs : Nat) (stamp : W64) : Bool :=
  match s.ptpTime with
  | some t => legacy || max t.toNat stamp.toNat - min t.toNat stamp.toNat ≤ ms freshMs
  | none => true

/-- The timestamp of a packet of a session. -/
def State.stampOk (s : State) (x : Session) (stamp : W64) : Bool := s.stampFresh x.legacy x.freshMs stamp

/-- A new alive value seen (R224). -/
def Session.seeAlive (x : Session) (alive : W16) (now : Time) : Session :=
  if alive = x.aliveSeen then x else { x with aliveSeen := alive, aliveIn := now, missed := 0 }

/-- The one TIMESTAMPS_UNCHECKED record of an interval without PTP time (R224, R529). -/
def State.uncheckedStamp (s : State) (x : Session) : State :=
  if s.v.ptp.valid || s.v.ptp.unchecked || x.legacy then s
  else { s with v.ptp.unchecked := true }.event 0x0409 [BitVec.ofNat 8 (portCode x.port), BitVec.ofNat 8 x.sid]

/-- Mode under R79. -/
def State.modeBars (s : State) (op : Nat) (cls : BitVec 2) : Bool :=
  (op / 256 = 1 || op / 256 = 2) &&
    match s.cyc.mode with
    | .stop => true
    | .run => false
    | .hold => cls = 1 || cls = 3

/-- Last part of an image transfer (R276, R286). -/
def lastPart (payload : List Byte) : Bool := fieldAt payload 0 4 + (payload.length - 8) = fieldAt payload 4 4

/-- The command's own latest time, counted on the module's clock; without valid PTP time from receipt
(R208, R234; log 18). -/
def State.deadlineOf (s : State) (p : Pkt) : Option Time :=
  if p.deadline = 0 || p.version = 2 then none
  else
    let d := p.deadline.toNat * 1000
    match s.ptpTime with
    | some t => some ((s.now + p.stamp.toNat + d) - t.toNat)
    | none => some (s.now + d)

/-- Check 9 and what admission leaves behind (R30, R230, R234). -/
def State.admitCommand (s : State) (x : Session) (p : Pkt) (op : Nat) (row : OpRow) : State :=
  let ask : Ask :=
    { op := op, row := row, tray := p.tray, prio := p.prio, timed := x.gclass = 1 || x.gclass = 3,
      deadline := s.deadlineOf p, last := lastPart p.payload }
  match s.admission ask p.payload with
  | .inl status => s.refuseIn x (BitVec.ofNat 16 op) p.seq status noDetail
  | .inr (charges, cycle, limit) =>
    let e : Entry :=
      { adm := s.net.nextAdm, op := BitVec.ofNat 16 op, payload := p.payload, sid := x.sid, tray := p.tray,
        prio := p.prio, cmdSeq := p.seq, arrived := s.now, limit := limit, service := row.kind = .service,
        cycle := cycle, holdsOp := row.holdsOp, faulty := p.faulty }
    let s := s.uncheckedStamp x
    let s := { s with
      net.entries := s.net.entries ++ [e]
      net.nextAdm := s.net.nextAdm + 1
      net.charges := s.net.charges ++ charges }
    let us := match limit with
      | some t => BitVec.ofNat 32 ((t - s.now) / 1000)
      | none => 0
    s.sendIn x.sid .single false (BitVec.ofNat 16 op) us (replyPrefix 0x01 p.seq e.adm)

/-- Checks 3 to 5 for a packet of an open session (R231): the state after them, or what they end in. -/
def State.passChecks (s : State) (x : Session) (p : Pkt) (op : Nat) : State ⊕ State :=
  let no := fun (s : State) (status : Byte) => Sum.inl (s.refuseIn x (BitVec.ofNat 16 op) p.seq status noDetail)
  if 2 ≤ x.gclass.toNat && (!p.flag 4 || !p.tagOk x op) then no s 0x34
  else if !p.flagsOk op x.gclass then no s 0x30
  else if p.flag 2 && !p.scOk op then no s 0x31
  else match seqCheck x.legacy x.h p.seq with
    | .duplicate => .inl s
    | .refused => no s 0x32
    | .wrap => no (s.modSession x.sid Session.close) 0x32
    | .accepted h =>
      let s := s.modSession x.sid fun y => { y with h := h }
      if !counterIn 0 15 x.aliveSeen p.alive then no s 0x32
      else if !s.stampOk x p.stamp then no s 0x32
      else .inr (s.modSession x.sid fun y => y.seeAlive p.alive s.now)

/-- Checks 3 to 9 for a command of an open session (R231). -/
def State.receiveIn (s : State) (x : Session) (p : Pkt) (op : Nat) (row : OpRow) : State :=
  match s.passChecks x p op with
  | .inl s => s
  | .inr s =>
    let no := fun (status : Byte) (det : List Byte) => s.refuseIn x (BitVec.ofNat 16 op) p.seq status det
    if p.length.toNat ≠ p.payload.length || p.reserved ≠ 0 || 64 ≤ p.session.toNat then no 0x30 noDetail
    else match offence op p.payload with
      | some k => no 0x30 (detail 5 0 k)
      | none =>
        if s.modeBars op x.gclass then no 0x12 noDetail
        else if (op / 256 = 1 || op / 256 = 2) && s.paired && s.pair.role ≠ .active then no 0x13 noDetail
        else s.admitCommand x p op row

/-- Session open and its OPEN_4 sent, port and endpoint (R218, R231, R290). -/
def Session.carries (x : Session) (port : Port) (endpoint : Nat) : Bool :=
  x.state = .opened && !x.open4Due && x.port = port && x.endpoint = endpoint

/-- Check 2 but for the opcode (R231): session open, port and endpoint, class, tray. -/
def Session.takes (x : Session) (p : Pkt) : Bool :=
  x.carries p.port p.endpoint && x.gclass.toNat = p.flags.toNat % 4 &&
    (x.legacy == (p.version = 2)) && (p.tray = x.tray || (p.tray = 0 && x.emerg))

/-- Check 2 for a command (R231). -/
def State.sessionOk (s : State) (x : Session) (p : Pkt) (op : Nat) (row : OpRow) : Bool :=
  x.takes p && s.permitted x op row p.payload

/-- BAD_SESSION (R231, R241): without a tag where no such session is open. -/
def State.badSession (s : State) (p : Pkt) (op : Nat) : State :=
  match s.session? p.sid with
  | some x =>
    if x.carries p.port p.endpoint then s.refuseIn x (BitVec.ofNat 16 op) p.seq 0x33 noDetail
    else s.sendOut p (BitVec.ofNat 16 op) (replyPrefix 0x33 p.seq 0 ++ noDetail)
  | none => s.sendOut p (BitVec.ofNat 16 op) (replyPrefix 0x33 p.seq 0 ++ noDetail)

/-- A datagram discarded and counted for its port (R231). -/
def State.discard (s : State) (p : Port) : State := s.modPort p fun x => { x with discards := x.discards + 1 }

/-- A host command arrives (R231): every check in order. A port that carries nothing brings nothing. -/
def State.receive (s : State) (op : Nat) (p : Pkt) : State :=
  if !s.portUsable p.port then s.lose p.port
  else if !p.versionOk || !p.headerOk op then s.discard p.port
  else match s.session? p.sid, opRow op s.ps.lease with
    | some x, some row => if s.sessionOk x p op row then s.receiveIn x p op row else s.badSession p op
    | _, _ => s.badSession p op

/-- A packet of the row: a byte of the payload holds what tells the row from its neighbours. -/
def Pkt.withByte (p : Pkt) (n : Nat) (v : Byte) : Pkt := { p with payload := modifyNth p.payload n fun _ => v }

/-- Likewise one bit. -/
def Pkt.withBit0 (p : Pkt) (n : Nat) (on : Bool) : Pkt :=
  { p with payload := modifyNth p.payload n fun b => (b &&& 0xFE) ||| (if on then 1 else 0) }

end Sys2Proof.Machine
end

