-- ==== Sys2Proof/Machine/Seal.lean ====
section
/-! DEFINITION. The seal configuration (R407 to R414), the two-party procedure (R279 to R282, R401, R406,
R415, R416), attestation and the chain signature (R395, R418, R419). -/

namespace Sys2Proof.Machine

/-! The identity certificate (R399) -/

/-- What the vendor provisioning key signs. -/
def identityFields : List Byte := beBytes 8 Config.moduleSerial.toNat ++ [Config.issue, 0, 0, 0] ++ beBytes 32 Config.identityKeyHash.toNat

/-- The certificate delivered with the module. -/
def identityCertificate : List Byte := identityFields ++ padTo 2420 Config.provisioningSignature

/-- The checks of an identity key against a certificate and the vendor provisioning key. -/
def certificateHolds (cert key provisioningKey : List Byte) : Bool :=
  cert.length = 2464 && fieldAt cert 9 3 = 0 && (Config.sha3 key).toNat = fieldAt cert 12 32 &&
    Config.verifies provisioningKey (Config.sha3 (cert.take 44)) (cert.drop 44)

/-! Items (R409 to R413) -/

/-- A holder as its HOLDER_SET data (R410). -/
def Holder.data (h : Holder) : List Byte := [BitVec.ofNat 8 h.index, h.role, 0, 0] ++ padTo 1312 h.key

/-- A partner entry as its 48 bytes (R411). -/
def PartnerEntry.data (p : PartnerEntry) : List Byte :=
  beBytes 3 p.node.toNat ++ [p.pclass.setWidth 8, p.classes.setWidth 8, BitVec.ofNat 8 (p.tray + at_ 4 (boolNat p.emerg)),
    BitVec.ofNat 8 p.ks, 0] ++ beBytes 2 p.freshMs ++ [0, 0] ++ beBytes 32 p.keyHash.toNat ++ [0, 0, 0, 0]

/-- An item (R410). -/
def itemBytes (type : Nat) (data : List Byte) : List Byte := beBytes 2 type ++ beBytes 2 data.length ++ data

/-- Order of R409: node address, then partner class. -/
def PartnerEntry.before (a b : PartnerEntry) : Bool :=
  a.node.toNat < b.node.toNat || (a.node = b.node && a.pclass.toNat ≤ b.pclass.toNat)

def insertBy {α : Type} (le : α → α → Bool) (x : α) : List α → List α
  | [] => [x]
  | y :: r => if le x y then x :: y :: r else y :: insertBy le x r

/-- The content that the seal hash covers (R409). -/
def Seal.content (c : Seal) : List Byte :=
  ((c.roster.foldr (insertBy fun a b => a.index ≤ b.index) []).flatMap fun h => itemBytes 1 h.data) ++
  ((c.partners.foldr (insertBy PartnerEntry.before) []).flatMap fun p => itemBytes 3 p.data) ++
  ((c.hostPorts.foldr (insertBy fun a b => a.port ≤ b.port) []).flatMap fun h => itemBytes 5 h.data) ++
  itemBytes 9 [BitVec.ofNat 8 c.ptpDomain, 0, 0, 0] ++
  itemBytes 6 (padTo 8 (c.downstream.flatMap fun d => beBytes 3 d.1.toNat ++ [BitVec.ofNat 8 d.2])) ++
  itemBytes 7 [if c.ownerLock then 1 else 0, 0, 0, 0] ++ itemBytes 8 [if c.autoRun then 1 else 0, 0, 0, 0] ++
  [BitVec.ofNat 8 c.lifecycle.code]

/-- The seal hash (R409). -/
def Seal.hash (c : Seal) : Hash := Config.sha3 c.content

/-- A partner entry within R217, R411 and R412. -/
def partnerOf (l : List Byte) : Option PartnerEntry :=
  let f := fieldAt l
  let cls := f 3 1
  let classes := f 4 1
  let tray := f 5 1 % 16
  let ok := l.length = 48 && f 0 3 < 2 ^ 20 && cls < 4 && cls ≠ 2 && classes < 16 && f 5 1 < 32 && 2 ≤ f 6 1 && f 6 1 ≤ 10 &&
    f 7 1 = 0 && 1 ≤ f 8 2 && f 8 2 ≤ 10000 && f 10 2 = 0 && f 44 4 = 0 &&
    (if cls = 3 then !bitOf classes 1 && tray = 15
     else !bitOf classes 0 && (if cls = 0 then 1 ≤ tray && tray ≤ 7 else 8 ≤ tray && tray ≤ 11))
  if ok then
    some { node := BitVec.ofNat 20 (f 0 3), pclass := BitVec.ofNat 2 cls, classes := BitVec.ofNat 4 classes, tray := tray,
           emerg := bitOf (f 5 1) 4, ks := f 6 1, freshMs := f 8 2, keyHash := BitVec.ofNat 256 (f 12 32) }
  else none

/-- A host port entry within R413. -/
def hostPortOf (l : List Byte) : Option HostPort :=
  let f := fieldAt l
  if l.length = 48 && f 0 1 ≤ 3 && f 1 1 < 8 && f 2 1 ≤ 32 && f 3 1 ≤ 128 && f 44 4 = 0 then
    some { port := f 0 1, data := l }
  else none

/-- Downstream entries of an item; node address 0 means none (R410). -/
def downstreamOf (l : List Byte) : Option (List (Node × Nat)) :=
  let one := fun (o : Nat) => (fieldAt l o 3, fieldAt l (o + 3) 1)
  let es := [one 0, one 4]
  if l.length = 8 && es.all (fun x => x.1 < 2 ^ 20 && x.2 ≤ 3) then
    some ((es.filter fun x => x.1 ≠ 0).map fun x => (BitVec.ofNat 20 x.1, x.2))
  else none

/-- One item applied to a configuration (R410); none where a range is broken. -/
def applyItem (c : Seal) (type : Nat) (l : List Byte) : Option Seal :=
  let f := fieldAt l
  match type with
  | 1 =>
    if l.length = 1316 && f 0 1 ≤ 7 && 1 ≤ f 1 1 && f 1 1 ≤ 4 && f 2 2 = 0 then
      some { c with roster := (c.roster.filter fun h => h.index ≠ f 0 1) ++
        [{ index := f 0 1, role := BitVec.ofNat 8 (f 1 1), key := l.drop 4 }] }
    else none
  | 2 =>
    if l.length = 4 && f 0 1 ≤ 7 && f 1 3 = 0 then some { c with roster := c.roster.filter fun h => h.index ≠ f 0 1 } else none
  | 3 =>
    match partnerOf l with
    | some p => some { c with partners := (c.partners.filter fun q => !(q.node = p.node && q.pclass = p.pclass)) ++ [p] }
    | none => none
  | 4 =>
    if l.length = 4 && f 0 3 < 2 ^ 20 && f 3 1 < 4 then
      some { c with partners := c.partners.filter fun q => !(q.node.toNat = f 0 3 && q.pclass.toNat = f 3 1) }
    else none
  | 5 =>
    match hostPortOf l with
    | some h => some { c with hostPorts := (c.hostPorts.filter fun q => q.port ≠ h.port) ++ [h] }
    | none => none
  | 6 => (downstreamOf l).map fun d => { c with downstream := d }
  | 7 => if l.length = 4 && f 0 1 ≤ 1 && f 1 3 = 0 then some { c with ownerLock := f 0 1 = 1 } else none
  | 8 => if l.length = 4 && f 0 1 ≤ 1 && f 1 3 = 0 then some { c with autoRun := f 0 1 = 1 } else none
  | 9 => if l.length = 4 && f 0 1 ≤ 127 && f 1 3 = 0 then some { c with ptpDomain := f 0 1 } else none
  | _ => none

/-- Items of a body from an offset, `n` of them; the offset of the item that breaks a range otherwise. -/
def applyItems (body : List Byte) : Nat → Nat → Seal → Seal ⊕ Nat
  | 0, off, c => if off = body.length then .inl c else .inr off
  | n + 1, off, c =>
    let len := fieldAt body (off + 2) 2
    if body.length < off + 4 + len || len % 4 ≠ 0 then .inr off
    else match applyItem c (fieldAt body off 2) ((body.drop (off + 4)).take len) with
      | some c => applyItems body n (off + 4 + len) c
      | none => .inr off

/-- The roster rule of R414. -/
def rosterOk (l : List Holder) : Bool := l.any fun a => l.any fun b => a.role ≠ b.role

/-- A body applied (R410, R412). -/
def applyBody (c : Seal) (body : List Byte) : Seal ⊕ Nat :=
  if body.length < 4 || 16384 < body.length || fieldAt body 2 2 ≠ 0 then .inr 0
  else match applyItems body (fieldAt body 0 2) 4 c with
    | .inl d =>
      if 256 < d.partners.length || !rosterOk d.roster ||
          !d.downstream.all (fun x => d.partners.any fun p => p.node = x.1 && p.pclass = 1) then .inr 4
      else .inl d
    | .inr k => .inr k

/-! Lifecycle (R401) -/

/-- The transition is permitted now. -/
def State.lifecycleOk (s : State) (target : Lifecycle) : Bool :=
  let stop := s.cyc.mode = .stop
  let toService := s.image?.isSome && !s.upd.onTrial && s.test.isNone
  match s.trust.cfg.lifecycle, target with
  | .commissioning, .service => toService
  | .service, .maintenance => stop || s.pair.role ≠ .active
  | .maintenance, .service => toService
  | .maintenance, .commissioning => stop
  | .blank, _ => false
  | .provisioned, _ => false
  | .retired, _ => false
  | _, .retired => stop && s.pair.role ≠ .active && s.upd.boot.activation.isNone
  | _, _ => false

/-! Attestation and signature -/

/-- An ATTESTATION record (R418). -/
def State.attest (s : State) (reason : Byte) : State :=
  let fw := if s.upd.onTrial then s.upd.boot.trialHash else s.upd.boot.committedHash
  s.event 0x0101 ([reason, BitVec.ofNat 8 (boolNat s.upd.running + at_ 1 (boolNat s.upd.onTrial))] ++
    beBytes 32 fw.toNat ++ beBytes 32 s.image.hdr.hash.toNat ++ beBytes 32 s.trust.cfg.hash.toNat ++
    beBytes 32 Config.identityKeyHash.toNat ++ beBytes 8 Config.moduleSerial.toNat ++ [Config.issue, 0, 0, 0])

/-- A CHAIN_SIGNATURE record holding one part of the chain head block (R391, R395). -/
def signaturePart (block : List Byte) (k : Nat) : Record :=
  let part := (block.drop (140 * k)).take 140
  { kind := 0x0F, detail := [BitVec.ofNat 8 k, 18] ++ beBytes 2 part.length ++ part }

/-- K signs the chain head over every record written so far, for the first reason that is due, and the 18 records of
its block follow (R395, R419). -/
def State.signHead (s : State) : State :=
  if s.kWorks && !s.trust.erased then
    let s := s.attest (s.neg.reasons.headD 2)
    let s := { s with neg.reasons := s.neg.reasons.drop 1 }
    let s := s.writeAll s.neg.queue.length
    let number := s.neg.headNumber
    let head := s.neg.head
    let block := beBytes 4 number.toNat ++ beBytes 32 head.toNat ++ padTo 2420 (Config.signature number head)
    let s := (List.range 18).foldl (fun s k => s.writeRecord (s.fillRecord (signaturePart block k))) s
    { s with neg.sinceSigned := 0, neg.blocks := s.neg.blocks ++ [(number, head)] }
  else s

/-- A signature is due for a reason of R418. -/
def State.wantSignature (s : State) (reason : Byte) : State := { s with neg.reasons := s.neg.reasons ++ [reason] }

/-! The commands of group 0x08 (R279 to R282) -/

/-- PTP time of an instant to come; 0 without valid PTP time. -/
def State.ptpAt (s : State) (t : Time) : Nat :=
  match s.ptpTime with
  | some x => (x.toNat + (t - s.now)) % 2 ^ 64
  | none => 0

/-- SEAL_PROPOSE and LIFECYCLE_SET, phase NONCE (R280, R282). -/
def State.proposalNonce (s : State) (e : Entry) (lc : Bool) : State :=
  if s.trust.proposal.isSome then s.refuse e 0x10 noDetail
  else
    let id := Config.proposalId s.freeCtr
    let d := s.draw
    let q : Proposal := { id := id, nonce := d.1, lifecycleChange := lc, sid := e.sid, openedAt := s.now }
    let s := { d.2 with trust.proposal := some q }
    s.done e (beBytes 4 id.toNat ++ beBytes 32 d.1.toNat)

/-- The roster that signatures of a proposal are checked against: in PROVISIONED that of the body
(R406, R415). -/
def State.rosterFor (s : State) (body : List Byte) : List Holder :=
  if s.trust.cfg.lifecycle = .provisioned then
    match applyBody s.trust.cfg body with
    | .inl c => c.roster
    | .inr _ => []
  else s.trust.cfg.roster

/-- Body and signer of a complete stream (R279). -/
def streamBody (l : List Byte) : List Byte := l.take (l.length - 2424)
def streamSigner (l : List Byte) : Nat := fieldAt l (l.length - 2424) 1

/-- The three reserved bytes of the signer block are zero (R10, R279). -/
def signerReservedOk (l : List Byte) : Bool := fieldAt l (l.length - 2423) 3 = 0

/-- The signature that ends a stream verifies under a holder's key over SHA3-256 of the nonce and the proposal body (R279). -/
def signatureOk (h : Holder) (nonce : Hash) (body stream : List Byte) : Bool :=
  Config.verifies h.key (Config.sha3 (beBytes 32 nonce.toNat ++ body)) (stream.drop (stream.length - 2420))

/-- The last part of a proposal (R280, R282, R401, R406, R412). -/
def State.proposalLast (s : State) (e : Entry) (p : Proposal) (stream : List Byte) : State :=
  let body := streamBody stream
  let again := some { p with parts := 0, stream := [] }
  let fail := fun (st : Byte) (det : List Byte) => { s with trust.proposal := again }.refuse e st det
  let signer := (s.rosterFor body).find? fun h => h.index = streamSigner stream
  let signed := signer.any fun h => signatureOk h p.nonce body stream
  let ok := fun (h : Holder) (target : Option Lifecycle) =>
    let q : Proposal := { p with parts := p.count, stream := stream, complete := some s.now, proposer := h.index, proposerRole := h.role, target := target }
    { s with trust.proposal := some q }.done e (beBytes 4 p.id.toNat ++ beBytes 8 (s.ptpAt (s.now + ms 86400000)))
  if stream.length < 2424 then fail 0x21 (detail 5 0 0)
  else if !signerReservedOk stream then fail 0x30 (detail 5 0 8)
  else if p.lifecycleChange && s.trust.cfg.lifecycle = .provisioned then fail 0x13 noDetail
  else if p.lifecycleChange then
    match signer, Lifecycle.ofCode (fieldAt body 0 1) with
    | some h, some t =>
      if !signed then fail 0x34 noDetail
      else if body.length ≠ 4 || fieldAt body 1 3 ≠ 0 then fail 0x21 (detail 5 0 1)
      else if !s.lifecycleOk t then fail 0x13 noDetail
      else ok h (some t)
    | none, _ => fail 0x34 noDetail
    | some _, none => if signed then fail 0x21 (detail 5 0 0) else fail 0x34 noDetail
  else
    match applyBody s.trust.cfg body with
    | .inr k => if s.trust.cfg.lifecycle = .provisioned || signed then fail 0x21 (detail 5 0 k)
                else fail 0x34 noDetail
    | .inl _ =>
      match signer with
      | some h => if signed then ok h none else fail 0x34 noDetail
      | none => fail 0x34 noDetail

/-- The proposal has been approved, and its DONE or its boundary is still to come: it stays open, and takes no further phase
(R279; DESIGN CHOICE log 137). -/
def State.approved (s : State) : Bool := s.trust.due.isSome

/-- Phase PART (R279, R280, R282). -/
def State.proposalPart (s : State) (e : Entry) (lc : Bool) : State :=
  match s.trust.proposal with
  | some p =>
    if p.id.toNat ≠ fieldAt e.payload 4 4 || p.lifecycleChange ≠ lc || s.approved then s.refuse e 0x13 noDetail
    else
      let k := e.byte 1
      let n := e.byte 2
      if p.complete.isSome || k ≠ p.parts || n ≤ k || (k ≠ 0 && n ≠ p.count) then s.refuse e 0x32 noDetail
      else
        let stream := p.stream ++ e.payload.drop 8
        if k + 1 = n then s.proposalLast e { p with count := n } stream
        else { s with trust.proposal := some { p with parts := k + 1, count := n, stream := stream } }.done e []
  | none => s.refuse e 0x13 noDetail

/-- Phase WITHDRAW (R280): only from the session that requested the nonce, as long as it stands. -/
def State.proposalWithdraw (s : State) (e : Entry) (lc : Bool) : State :=
  match s.trust.proposal with
  | some p =>
    if p.id.toNat = fieldAt e.payload 4 4 && p.lifecycleChange = lc && p.sid = e.sid && e.sid ≠ 0 && !s.approved then
      { s with trust.proposal := none }.done e []
    else s.refuse e 0x13 noDetail
  | none => s.refuse e 0x13 noDetail

/-- What an approved proposal makes of the configuration (R281, R406). -/
def State.approvedSeal (s : State) (p : Proposal) : Option SealChange :=
  let c := s.trust.cfg
  match p.target with
  | some t =>
    if s.lifecycleOk t then
      some { new := { c with lifecycle := t, generation := c.generation + 1 }, lifecycleChange := true, portsChanged := [] }
    else none
  | none =>
    match applyBody c (streamBody p.stream) with
    | .inl d =>
      let claim := c.lifecycle = .provisioned
      let changed := (List.range 4).filter fun k =>
        (c.hostPorts.find? fun h => h.port = k) ≠ (d.hostPorts.find? fun h => h.port = k)
      some { new := { d with lifecycle := if claim then .commissioning else c.lifecycle, generation := c.generation + 1 },
             lifecycleChange := claim, portsChanged := changed }
    | .inr _ => none

/-- The last part of an approval (R281, R401, R415). -/
def State.approveLast (s : State) (e : Entry) (p : Proposal) (stream : List Byte) : State :=
  let s := { s with trust.proposal := some { p with apParts := 0, apStream := [] } }
  if stream.length ≠ 2424 then s.refuse e 0x32 noDetail
  else if !signerReservedOk stream then s.refuse e 0x30 (detail 5 0 8)
  else match (s.rosterFor (streamBody p.stream)).find? fun h => h.index = streamSigner stream with
    | none => s.refuse e 0x34 noDetail
    | some h =>
      if !signatureOk h p.nonce (streamBody p.stream) stream then s.refuse e 0x34 noDetail
      else if h.index = p.proposer || h.role = p.proposerRole then s.refuse e 0x50 noDetail
      else match s.approvedSeal p with
        | none => s.refuse e 0x13 noDetail
        | some c =>
          let s := { s with trust.due := some c }
          s.done e (beBytes 4 p.id.toNat ++ beBytes 32 c.new.hash.toNat)

/-- SEAL_APPROVE (R281); part 0 begins an approval anew. -/
def State.sealApprove (s : State) (e : Entry) : State :=
  match s.trust.proposal with
  | some p =>
    if p.id.toNat ≠ fieldAt e.payload 4 4 || p.complete.isNone || s.approved then s.refuse e 0x13 noDetail
    else
      let k := e.byte 1
      if e.byte 2 ≠ 3 || 3 ≤ k || (k ≠ 0 && k ≠ p.apParts) then s.refuse e 0x32 noDetail
      else
        let stream := (if k = 0 then [] else p.apStream) ++ e.payload.drop 8
        if k = 2 then s.approveLast e p stream
        else { s with trust.proposal := some { p with apParts := k + 1, apStream := stream } }.done e []
  | none => s.refuse e 0x13 noDetail

/-- SEAL_PROPOSE and LIFECYCLE_SET by phase. -/
def State.propose (s : State) (e : Entry) (lc : Bool) : State :=
  if e.byte 0 = 1 then s.proposalNonce e lc
  else if e.byte 0 = 2 then s.proposalPart e lc
  else s.proposalWithdraw e lc

/-- The proposal ends: no last part within 600 s, or 24 h after it (R279). -/
def State.expireProposal (s : State) : State :=
  match s.trust.proposal with
  | some p =>
    match p.complete with
    | some t => if t + ms 86400000 ≤ s.now then { s with trust.proposal := none } else s
    | none => if p.openedAt + ms 600000 ≤ s.now then { s with trust.proposal := none } else s
  | none => s

/-! The boundary at which a change is applied -/

/-- Whether a session may stand under a configuration (R225, R402, R404, R413). -/
def sessionStands (c : SealChange) (x : Session) : Bool :=
  x.pclass = 2 ||
    (c.new.lifecycle ≠ .retired &&
     (match x.port with
      | .h i => !c.portsChanged.contains i.val
      | _ => true) &&
     (x.gclass ≠ 0 || c.new.lifecycle = .commissioning) &&
     (x.port ≠ .s || c.new.lifecycle = .commissioning || c.new.lifecycle = .maintenance) &&
     c.new.partners.any fun p => p.node = x.node && p.pclass = x.pclass)

/-- A holder who may release logic (R146, R414, R417). -/
def releasesLogic (c : Seal) (signer : Nat) : Bool := c.roster.any fun h => h.index = signer && h.role = 1

/-- Sessions that may not stand under a new configuration close (R402, R404, R413). -/
def State.sealSessions (s : State) (c : SealChange) : State :=
  { s with net.sessions := s.net.sessions.map fun x =>
      if c.new.lifecycle = .retired || !sessionStands c x then x.close else x }

/-- A lifecycle change ends HOLD, and a retired module stands in STOP, whatever mode was to take effect (R402, R403). -/
def State.sealMode (s : State) (c : SealChange) : State :=
  if c.lifecycleChange && s.cyc.mode = .hold then (s.endHold 0x12).enterStop
  else if c.new.lifecycle = .retired then
    if s.cyc.mode = .stop then { s with cyc.modeDue := none } else s.enterStop
  else s

/-- Outside COMMISSIONING and MAINTENANCE no injection stays armed (R402). -/
def State.sealInjection (s : State) (c : SealChange) : State :=
  match s.flt.injection with
  | some j =>
    if c.new.lifecycle ≠ .commissioning && c.new.lifecycle ≠ .maintenance then
      { s with flt.injection := none }.injectRecord j 0x02
    else s
  | none => s

/-- A verified image whose signer has left the roster is rejected (R417). -/
def State.sealLogic (s : State) (c : SealChange) : State :=
  let bank := s.loadBank
  if bank.state = .verified && !releasesLogic c.new bank.signer then
    s.setBank (!s.logic.activeBank) { bank with state := .rejected }
  else s

/-- The DONE of an approval leaves: K writes the change before the next boundary (R416). -/
def State.saidSeal (s : State) : State :=
  match s.trust.due with
  | some c => { s with trust.due := some { c with said := true } }
  | none => s

/-- An approval that ends without its DONE changes nothing (R237, R416). -/
def State.unsaidSeal (s : State) : State :=
  match s.trust.due with
  | some c => if c.said then s else { s with trust.due := none }
  | none => s

/-- What a module does on entering RETIRED (R404): the final ATTESTATION and its signature, then K erases the identity private
key and every tag key. -/
def State.retire (s : State) : State :=
  let s := ({ s with neg.reasons := [9] }).signHead
  let bare := fun (x : Session) => { x with keyIn := 0, keyOut := 0 }
  { s with trust.erased := true, net.sessions := s.net.sessions.map bare, net.openings := [] }

/-- An approved change takes effect at the boundary after its DONE (R402 to R404, R416, R417). -/
def State.applySeal (s : State) : State :=
  match s.trust.due with
  | none => s
  | some c =>
    if !c.said then s
    else
      let s := (((s.sealSessions c).sealMode c).sealInjection c).sealLogic c
      let s := { s with trust.cfg := c.new, trust.due := none, trust.proposal := none }.storeSeal
      if c.new.lifecycle = .retired then s.retire else s.wantSignature (if c.lifecycleChange then 5 else 4)

end Sys2Proof.Machine
end

