-- ==== Sys2Proof/Machine/Sessions.lean ====
section
/-! DEFINITION. Opening, supervising and closing sessions (R217 to R225, R265, R405). -/

namespace Sys2Proof.Machine

/-! Openings -/

/-- IDs bound to sessions or openings. -/
def State.boundIds (s : State) : List Nat := s.net.sessions.map (fun x => x.sid) ++ s.net.openings.map fun o => o.sid

/-- Openings that K carries: those on field links (R222, R297) and those of printing (R431) included. -/
def State.openCount (s : State) : Nat :=
  s.net.openings.length + (s.net.links.filter fun k => k.helloSince.isSome).length +
    ([s.upd.print0, s.upd.print1].filter fun x => x.phase = 1 || x.phase = 2).length

/-- Lowest free session ID (R218). -/
def State.freeId (s : State) : Option Nat := (List.range 63).map (· + 1) |>.find? fun k => !s.boundIds.contains k

/-- What an opening may have: home tray, emergency right, K_s, freshness, key hash where one is required. -/
structure Grant where
  tray : Nat
  emerg : Bool
  ks : Nat
  freshMs : Nat
  key : Option Hash
  deriving DecidableEq, Repr

/-- Class limits and ports of R217, and the partner entry's permission (R219, R404, R405). -/
def State.grant (s : State) (port : Port) (node : Node) (pclass gclass : BitVec 2) : Option Grant :=
  let lc := s.trust.cfg.lifecycle
  let onHost := match port with
    | .h _ => true
    | _ => false
  let entry := s.trust.cfg.partners.find? fun p => p.node = node && p.pclass = pclass
  let make := fun (p : PartnerEntry) =>
    some { tray := p.tray, emerg := p.emerg, ks := p.ks, freshMs := p.freshMs,
           key := if 2 ≤ gclass.toNat then some p.keyHash else none }
  if lc = .blank then none
  else if lc = .provisioned then
    if onHost && pclass = 3 && gclass = 2 then some { tray := 15, emerg := false, ks := 3, freshMs := 200, key := none }
    else none
  else match entry with
    | none => none
    | some p =>
      if lc = .retired then if onHost && gclass = 1 && (pclass = 0 || pclass = 3) then make p else none
      else
        let live := lc = .commissioning || lc = .maintenance
        let portOk := onHost || (port = .s && pclass = 3 && live)
        let classOk := p.classes.getLsbD gclass.toNat && (gclass ≠ 0 || (port = .s && lc = .commissioning))
        if portOk && classOk then make p else none

/-- A refusal of an opening, recorded (R219, R265, R529). -/
def State.refuseOpening (s : State) (p : Pkt) (node : Node) (pclass : BitVec 2) (status : Byte) (det : List Byte := noDetail) :
    State :=
  let s := s.event 0x0401 ([BitVec.ofNat 8 (portCode p.port)] ++ beBytes 3 node.toNat ++
    [pclass.setWidth 8, status, BitVec.ofNat 8 (fieldAt p.payload 0 1)])
  s.sendOut p 0x0401 (replyPrefix status p.seq 0 ++ padTo 12 det)

def State.dropOpening (s : State) (o : Opening) : State :=
  { s with net.openings := s.net.openings.filter fun x => x.sid ≠ o.sid }

def State.putOpening (s : State) (o : Opening) : State :=
  { s with net.openings := updateWhere (fun x => x.sid = o.sid) (fun _ => o) s.net.openings }

/-- An opening refused is abandoned (R219, R265). -/
def State.refuseOpen (s : State) (p : Pkt) (o : Opening) (status : Byte) : State :=
  (s.dropOpening o).refuseOpening p o.node o.pclass status

/-- Content bytes of part k of a message of n bytes (R265). -/
def partSize (n k : Nat) : Nat := min 1020 (n - 1020 * k)

/-- Trailer of an opening (R212): SC alone. -/
def Pkt.openFlags (p : Pkt) : Bool :=
  p.flag 2 && !p.flag 7 && !p.flag 6 && !p.flag 5 && !p.flag 4 && !p.flag 3

/-- Part index of a part of a message (R265). -/
def Pkt.part (p : Pkt) : Nat := fieldAt p.payload 1 1

/-- Part header, reserved fields and lengths (R10, R243, R265): the detail of a part that departs from them. -/
def openOffence (p : Pkt) (message parts total : Nat) : Option (List Byte) :=
  let l := p.payload
  let want := 4 + partSize total p.part
  if p.length.toNat ≠ l.length || p.reserved ≠ 0 || 64 ≤ p.session.toNat then some noDetail
  else if l.length < 4 then some (detail 5 0 l.length)
  else if fieldAt l 0 1 ≠ message then some (detail 5)
  else if fieldAt l 2 1 ≠ parts then some (detail 5 0 2)
  else if fieldAt l 3 1 ≠ 0 then some (detail 5 0 3)
  else if l.length < want then some (detail 5 0 l.length)
  else if want < l.length then some (detail 5 0 want)
  else none

/-- Checks 4 and 5 of R231 on a part of an opening (R212, R223, R224): the sequence number accepted, or the refusal; neither
for a duplicate. `h`, `last` and `fresh` are the opening's, where there is one. -/
def State.openChecks (s : State) (p : Pkt) (h : W32) (last : Option W16) (fresh : Option Nat) : Option (W32 ⊕ Byte) :=
  if !p.openFlags then some (.inr 0x30)
  else if !p.scOk 0x0401 then some (.inr 0x31)
  else match seqCheck (p.version = 2) h p.seq with
    | .duplicate => none
    | .refused => some (.inr 0x32)
    | .wrap => some (.inr 0x32)
    | .accepted seq =>
      if !(last.elim true fun a => counterIn 0 15 a p.alive) then some (.inr 0x32)
      else if !(fresh.elim true fun n => s.stampFresh (p.version = 2) n p.stamp) then some (.inr 0x32)
      else some (.inl seq)

/-- OPEN_2 up to its signature (R219, R265). -/
def open2Head (o : Opening) (nonce : Hash) (draw tray : Nat) : List Byte :=
  beBytes 32 nonce.toNat ++ [BitVec.ofNat 8 o.sid, BitVec.ofNat 8 tray, 0, 0, 0, 0, 0, 0] ++ padTo 1312 Config.identityKey ++
    padTo 1088 (Config.kemCiphertext draw (slice o.content 1352 1184))

/-- OPEN_2 leaves in five parts of at most 1,008 bytes of content each, and the tag keys are derived (R214, R219, R220, R265). -/
def State.sendOpen2 (s : State) (p : Pkt) (o : Opening) (g : Grant) : State :=
  let d := s.draw
  let head := open2Head o d.1 s.freeCtr g.tray
  let transcript := Config.sha3 (o.content ++ head)
  let secret := Config.kemSecret s.freeCtr (slice o.content 1352 1184)
  let content := head ++ padTo 2420 (Config.identitySign s.freeCtr transcript)
  let part := fun (k : Nat) => replyPrefix 0x00 p.seq 0 ++ [2, BitVec.ofNat 8 k, 5, 0] ++ slice content (1008 * k) 1008
  let o := { o with
    parts := 0, step := 2, sent := 5, tray := g.tray, emerg := g.emerg, content := [], transcript := transcript
    partnerKey := slice o.content 40 1312, keyIn := keyToModule secret transcript, keyOut := keyToPartner secret transcript }
  (d.2.putOpening o).emitAll ((List.range 5).map fun k =>
    .reply (d.2.packet { port := p.port, endpoint := p.endpoint, cls := o.gclass.toNat, seq := BitVec.ofNat 32 (k + 1) }
      .single false 0x0401 0 (part k)))

/-- The last part of OPEN_1 (R219, R221): the key that it carries is that of the partner entry. -/
def State.open1Last (s : State) (p : Pkt) (o : Opening) : State :=
  match s.grant o.port o.node o.pclass o.gclass with
  | none => s.refuseOpen p o 0x34
  | some g =>
    if 2 ≤ o.gclass.toNat then
      if g.key.any fun k => k ≠ Config.sha3 (slice o.content 40 1312) then s.refuseOpen p o 0x34 else s.sendOpen2 p o g
    else s.putOpening { o with accepted := true }

/-- The first part of OPEN_1: node address, classes and supervision period (R218, R219, R222). -/
def State.open1First (s : State) (p : Pkt) (seq : W32) : State :=
  let f := fieldAt p.payload
  let node : Node := BitVec.ofNat 20 (f 36 3)
  let pclass := BitVec.ofNat 2 (f 39 1)
  let gclass := BitVec.ofNat 2 (f 39 1 / 4)
  let period := f 40 2
  let no := fun (st : Byte) => s.refuseOpening p node pclass st
  if 2 ^ 20 ≤ f 36 3 then s.refuseOpening p node pclass 0x30 (detail 5 0 36)
  else if 16 ≤ f 39 1 then s.refuseOpening p node pclass 0x30 (detail 5 0 39)
  else if f 42 2 ≠ 0 then s.refuseOpening p node pclass 0x30 (detail 5 0 42)
  else match s.grant p.port node pclass gclass with
    | none => no 0x34
    | some g =>
      if gclass.toNat ≠ p.flags.toNat % 4 then no 0x34
      else if p.version = 2 && !(pclass = 0 && gclass = 1) then no 0x34
      else if period < s.cs.p || period < 10 || 10000 < period then no 0x21
      else if 4 ≤ s.openCount then no 0x10
      else match s.freeId with
        | none => no 0x10
        | some sid =>
          let o : Opening :=
            { sid := sid, node := node, pclass := pclass, gclass := gclass, port := p.port, endpoint := p.endpoint,
              since := s.now, parts := 1, step := 1, periodMs := period, legacy := p.version = 2, h := seq, alive := p.alive,
              freshMs := g.freshMs, content := p.payload.drop 4 }
          let s := { s with net.openings := s.net.openings ++ [o] }
          if 2 ≤ gclass.toNat then s else s.open1Last p o

/-- Node address and classes that a first part of OPEN_1 names. -/
def Pkt.opener (p : Pkt) : Node := BitVec.ofNat 20 (fieldAt p.payload 36 3)

/-- The freshness limit for a first part of OPEN_1, where its partner has an entry (R217, R224). -/
def State.openerFresh (s : State) (p : Pkt) : Option Nat :=
  (s.grant p.port p.opener (BitVec.ofNat 2 (fieldAt p.payload 39 1)) (BitVec.ofNat 2 (fieldAt p.payload 39 1 / 4))).map fun g => g.freshMs

/-- An opening that is at its OPEN_1. -/
def Opening.atOpen1 (o : Opening) : Bool := o.step = 1 && !o.accepted

/-- The opening of an OPEN_1 part: a first part names its node; a later one is that of an opening of its endpoint, the one that
waits for this part if there is one (R265, R290; log 135). -/
def State.openingOf (s : State) (p : Pkt) : Option Opening :=
  let mine := s.net.openings.filter fun o => o.port = p.port && o.endpoint = p.endpoint && o.atOpen1
  if p.part = 0 then mine.find? fun o => o.node = p.opener
  else match mine.find? fun o => o.parts = p.part with
    | some o => some o
    | none => mine.head?

/-- Another endpoint's opening waits for a part like this one (R219, R290). -/
def State.foreignPart (s : State) (p : Pkt) : Bool := s.net.openings.any fun o => o.atOpen1 && o.parts = p.part

/-- An OPEN_1 part (R219, R231, R265). -/
def State.receiveOpen1 (s : State) (p : Pkt) : State :=
  if !s.portUsable p.port || s.trust.cfg.lifecycle = .blank then s.lose p.port
  else if !p.versionOk || !p.headerOk 0x0401 then s.discard p.port
  else if p.sid ≠ 0 then s.badSession p 0x0401
  else
    let o? := s.openingOf p
    let node := o?.elim p.opener fun o => o.node
    let pclass := o?.elim (BitVec.ofNat 2 (fieldAt p.payload 39 1)) fun o => o.pclass
    let big := 2 ≤ p.flags.toNat % 4
    let fresh := match o? with
      | some o => some o.freshMs
      | none => s.openerFresh p
    match s.openChecks p (o?.elim 0 fun o => o.h) (o?.map fun o => o.alive) fresh with
    | none => s
    | some (.inr status) => s.refuseOpening p node pclass status
    | some (.inl seq) =>
      let o? := o?.map fun o => { o with h := seq, alive := p.alive }
      let s := o?.elim s s.putOpening
      match openOffence p 1 (if big then 3 else 1) (if big then 2536 else 40), o? with
      | some det, _ => s.refuseOpening p node pclass 0x30 det
      | none, none =>
        if p.part = 0 then s.open1First p seq else s.refuseOpening p 0 0 (if s.foreignPart p then 0x34 else 0x32)
      | none, some o =>
        if p.part ≠ o.parts then s.refuseOpen p o 0x32
        else
          let o := { o with parts := p.part + 1, content := o.content ++ p.payload.drop 4 }
          if p.part = 2 then (s.putOpening o).open1Last p o else s.putOpening o

/-- The last part of OPEN_3: K verifies the partner's signature over the transcript hash (R219). -/
def State.open3Last (s : State) (p : Pkt) (o : Opening) : State :=
  if Config.verifies o.partnerKey o.transcript o.content then s.putOpening { o with accepted := true } else s.refuseOpen p o 0x34

/-- An OPEN_3 part (R219, R231, R265). -/
def State.receiveOpen3 (s : State) (p : Pkt) : State :=
  if !s.portUsable p.port then s.lose p.port
  else if !p.versionOk || !p.headerOk 0x0401 then s.discard p.port
  else match s.net.openings.find? fun o => o.sid = p.sid && o.step = 2 && o.port = p.port && o.endpoint = p.endpoint &&
      o.pclass ≠ 2 && o.gclass.toNat = p.flags.toNat % 4 with
    | none => s.badSession p 0x0401
    | some o =>
      match s.openChecks p o.h (some o.alive) (some o.freshMs) with
      | none => s
      | some (.inr status) => s.refuseOpening p o.node o.pclass status
      | some (.inl seq) =>
        let o := { o with h := seq, alive := p.alive }
        let s := s.putOpening o
        match openOffence p 3 3 2420 with
        | some det => s.refuseOpening p o.node o.pclass 0x30 det
        | none =>
          if o.accepted || p.part ≠ o.parts then s.refuseOpen p o 0x32
          else
            let o := { o with parts := p.part + 1, content := o.content ++ p.payload.drop 4 }
            if p.part = 2 then s.open3Last p o else s.putOpening o

/-- An opening on a field link ends (R297). -/
def LinkRec.noHello (k : LinkRec) : LinkRec := { k with helloSince := none, helloParts := 0, helloBytes := [], helloSeq := 0 }

/-- An opening that has not reached OPEN_4 within 2,000 ms (R222). -/
def State.abandonOpening (s : State) (sid : Nat) : State :=
  { s with
    net.links := s.net.links.map fun k => match k.helloSince with
      | some t => if t + ms 2000 ≤ s.now then k.noHello else k
      | none => k
    net.openings := s.net.openings.filter fun o => !(o.sid = sid && o.since + ms 2000 ≤ s.now) }

/-! Boundary effects -/

/-- The session that an accepted opening becomes (R216, R218). -/
def sessionFrom (o : Opening) (g : Grant) (now : Time) : Session :=
  { sid := o.sid, pclass := o.pclass, gclass := o.gclass, state := .opened, legacy := o.legacy, tray := g.tray,
    emerg := g.emerg, port := o.port, node := o.node, endpoint := o.endpoint, h := o.h,
    tx := o.sent, keyIn := o.keyIn, keyOut := o.keyOut, aliveSeen := o.alive, aliveIn := now, periodMs := o.periodMs, ks := g.ks,
    freshMs := g.freshMs, sentThisPeriod := now, open4Due := o.pclass ≠ 2, lastQualifiedAt := now,
    ptype := o.ptype, keyHash := o.keyHash, fwHash := o.fwHash }

/-- Requests of a session leave the waiting list without notice (R130, R225). -/
def State.dropWaits (s : State) (sid : Nat) : State :=
  let i := s.image
  let mine := s.rail.waiting.filter fun w => w.sid = sid
  { s with rail := mine.foldl (fun r w => match i.route? w.rid with
      | some d => endWait d r
      | none => r.unwait w.rid) s.rail }

/-- A close takes effect (R225): what the session has in its tray lies within the cut of the cycle that begins, and takes effect
without a reply (session 0), but for operations in flight, which are abandoned, and a subscription. Subscriptions and waiting
requests end; the outcomes of operations already at work reach nobody. -/
def State.endSession (s : State) (x : Session) : State :=
  let s := s.dropWaits x.sid
  let orphan := fun (e : Entry) => if e.sid = x.sid then { e with sid := 0 } else e
  { s with
    net.sessions := s.net.sessions.filter fun y => y.sid ≠ x.sid
    test := s.test.map fun r => if r.sid = x.sid then { r with sid := 0 } else r
    upd.slot0.verifying := s.upd.slot0.verifying.map orphan
    upd.slot1.verifying := s.upd.slot1.verifying.map orphan
    upd.slot0.holder := if s.upd.slot0.holder = x.sid then 0 else s.upd.slot0.holder
    upd.slot1.holder := if s.upd.slot1.holder = x.sid then 0 else s.upd.slot1.holder
    logic.bank0.verifying := s.logic.bank0.verifying.map orphan
    logic.bank1.verifying := s.logic.bank1.verifying.map orphan
    logic.bank0.holder := if s.logic.bank0.holder = x.sid then 0 else s.logic.bank0.holder
    logic.bank1.holder := if s.logic.bank1.holder = x.sid then 0 else s.logic.bank1.holder
    pair.lease.handover := s.pair.lease.handover.map orphan
    net.entries := (s.net.entries.filter fun e => e.sid ≠ x.sid || (!e.holdsOp && e.op ≠ 0x0302)).map orphan
    trust.proposal := s.trust.proposal.map fun q => if q.sid = x.sid then { q with sid := 0 } else q
    net.lastTels := s.net.lastTels.filter fun y => y.1 ≠ x.sid
    net.lostNodes := if x.lost then x.node :: s.net.lostNodes.filter (fun n => n ≠ x.node) else s.net.lostNodes
    net.subs := s.net.subs.filter fun u => u.sid ≠ x.sid
    net.answers := s.net.answers.filter fun a => a.sid ≠ x.sid }

/-- Closes whose cause is past take effect at a boundary (R225). -/
def State.closeSessions (s : State) : State :=
  (s.net.sessions.filter fun x => x.closeDue).foldl State.endSession s

/-- What a FIELD session has from its expected-partner entry (R217, R299). -/
def State.fieldGrant (s : State) (o : Opening) : Option Grant :=
  (s.image.partners.find? fun d => d.node = o.node).map fun d =>
    { tray := 12 + o.sid % 3, emerg := false, ks := d.k, freshMs := 200, key := none }

/-- Sequence numbers of a new session are compared with none of an old one (R85). -/
def State.forgetSeq (s : State) (node : Node) : State :=
  { s with rail.objs := s.rail.objs.map fun o => match o.appliedSeq with
      | some a => if a.1 = node then { o with appliedSeq := none } else o
      | none => o }

def State.addSession (s : State) (x : Session) : State :=
  { s with net.sessions := s.net.sessions ++ [x], net.lostNodes := s.net.lostNodes.filter fun n => n ≠ x.node }

/-- Accepted openings become OPEN; an older session of the same node and class closes (R218). -/
def State.openSessions (s : State) : State :=
  let ready := s.net.openings.filter fun o => o.accepted
  let s := ready.foldl (fun s o =>
    match if o.pclass = 2 then s.fieldGrant o else s.grant o.port o.node o.pclass o.gclass with
    | none => s
    | some g =>
      let s := (s.net.sessions.filter fun x => x.node = o.node && x.pclass = o.pclass).foldl State.endSession s
      (s.forgetSeq o.node).addSession (sessionFrom o g s.now)) s
  { s with net.openings := s.net.openings.filter fun o => !o.accepted }

/-- The module's alive counters advance at every boundary (R224). -/
def State.countAlive (s : State) : State :=
  { s with net.sessions := s.net.sessions.map fun x => { x with alive := x.alive + 1 } }

/-- Alive supervision of a HOST, NEIGHBOUR or SERVICE session (R224): K_s periods without a new value. -/
def State.aliveExpiry (s : State) (sid : Nat) : State :=
  s.modSession sid fun x =>
    if x.pclass = 2 then x
    else
      let n := (s.now - x.aliveIn) / ms x.periodMs
      if x.ks ≤ n then { x.close with missed := min 10 n } else { x with missed := min 10 n }

end Sys2Proof.Machine
end

