-- ==== Sys2Proof/Machine/Links.lean ====
section
/-! DEFINITION. Field links and the field variant (R292 to R314): discovery, quarantine, cyclic telegrams
in both directions, EVENTs, loss and recovery of partners. -/

namespace Sys2Proof.Machine

/-! Header and trailer (R292, R294) -/

def FieldMsg.head (m : FieldMsg) (kind : Byte) : List Byte :=
  [m.version, kind, m.flags, m.session] ++ beBytes 3 m.node.toNat ++ [m.reserved]

/-- Header bytes 0 to 31. -/
def FieldMsg.checked (m : FieldMsg) (kind : Byte) : List Byte :=
  m.head kind ++ beBytes 4 m.seq.toNat ++ beBytes 4 m.echo.toNat ++ beBytes 4 m.ownEpoch.toNat ++ beBytes 8 m.stamp.toNat ++
    beBytes 2 m.alive.toNat ++ beBytes 2 m.length.toNat

def FieldMsg.headerOk (m : FieldMsg) (kind : Byte) : Bool := m.version = 3 && m.check = crc32c (m.checked kind)

def FieldMsg.scOk (m : FieldMsg) (kind : Byte) : Bool :=
  m.sc1 = crc64a (m.head kind ++ beBytes 4 m.ownEpoch.toNat ++ beBytes 2 m.length.toNat ++ m.content)

/-- The tag that every message of a class TS session carries (R293, R294). -/
def FieldMsg.tagOk (m : FieldMsg) (x : Session) (kind : Byte) : Bool :=
  x.gclass ≠ 3 || (bitOf m.flags.toNat 3 &&
    m.tag = tagOver x.keyIn (m.checked kind ++ beBytes 4 m.check.toNat ++ m.content ++ beBytes 8 m.sc1.toNat))

/-- The reserved bits of the header are zero (R10, R292, R293, R304 check 7). -/
def FieldMsg.reservedOk (m : FieldMsg) : Bool := m.reserved = 0 && m.flags.toNat < 32 && m.session.toNat < 64

def FieldMsg.sid (m : FieldMsg) : Nat := m.session.toNat % 64

/-- The open session that a message names, on its port, from its node, and for a neighbour from its endpoint (R290, R304
check 1, R313). -/
def State.fieldSession (s : State) (m : FieldMsg) : Option Session :=
  s.net.sessions.find? fun x => x.sid = m.sid && x.node.toNat = m.node.toNat &&
    ((x.pclass = 2 && x.state = .opened && x.port = m.port) || (x.pclass = 1 && x.carries m.port m.endpoint))

/-! What the module sends (R292 to R298) -/

/-- Header bytes 0 to 7 of a message of the module. -/
def FieldSent.head (r : FieldSent) : List Byte :=
  [3, r.kind, r.flags, BitVec.ofNat 8 r.sid] ++ beBytes 3 Config.ownNode.toNat ++ [0]

/-- Header bytes 0 to 31. -/
def FieldSent.checked (r : FieldSent) : List Byte :=
  r.head ++ beBytes 4 r.seq.toNat ++ beBytes 4 r.echo.toNat ++ beBytes 4 r.epoch.toNat ++ beBytes 8 r.stamp.toNat ++
    beBytes 2 r.alive.toNat ++ beBytes 2 r.content.length

/-- What its safety codes cover (R294). -/
def FieldSent.covered (r : FieldSent) : List Byte :=
  r.head ++ beBytes 4 r.epoch.toNat ++ beBytes 2 r.content.length ++ r.content

/-- A message with its header check, its safety codes and its tag; `seal2`: two lanes seal it (R292, R294). -/
def FieldSent.close (r : FieldSent) (seal2 : Bool) (key : Option Hash) : FieldSent :=
  let sc2 := if seal2 then some (crc64b r.covered) else none
  { r with
    check := crc32c r.checked, sc1 := crc64a r.covered, sc2 := sc2
    tag := key.map fun k => tagOver k (r.checked ++ beBytes 4 (crc32c r.checked).toNat ++ r.content ++
      beBytes 8 (crc64a r.covered).toNat ++ sc2.elim [] fun v => beBytes 8 v.toNat) }

/-- The Flags byte but for PART, SAFE_FORM and TAG (R293). -/
def State.fieldFlags (s : State) : Nat := boolNat (!s.holdsLamp) + 4 * boolNat s.v.ptp.valid

/-- A message on a field link outside any session: CHALLENGE, or a part of WELCOME. -/
def State.linkMessage (s : State) (i : Nat) (kind : Byte) (flags sid : Nat) (seq : W32) (content : List Byte) : FieldSent :=
  ({ port := .f (Fin.ofNat 48 i), kind := kind, flags := BitVec.ofNat 8 (s.fieldFlags + flags), sid := sid, seq := seq, echo := 0
     epoch := s.ownEpoch, stamp := s.stamp, alive := 0, content := content } : FieldSent).close false none

/-- The tag key of a session of class TS for what leaves. -/
def Session.fieldKey (x : Session) : Option Hash := if x.gclass = 3 then some x.keyOut else none

/-- A message in a session; its sequence number is the session's next (R223, R292). -/
def State.sessionMessage (s : State) (x : Session) (kind : Byte) (flags : Nat) (alive : W16) (seal2 : Bool)
    (content : List Byte) : FieldSent :=
  ({ port := x.port, kind := kind, flags := BitVec.ofNat 8 (s.fieldFlags + flags + 8 * boolNat (x.gclass = 3)), sid := x.sid
     seq := x.tx + 1, echo := x.lastQualified.getD 0, epoch := s.ownEpoch, stamp := s.stamp, alive := alive
     content := content } : FieldSent).close seal2 x.fieldKey

/-- An EVENT_REPLY (R309), whose content is the reply prefix of R214, on a refusal with its detail (R241; DEDUCED log 148). What the network die answers at admission it answers
without the lanes, under safety code 1 alone (R29, R232; DEDUCED log 140). -/
def State.eventReply (s : State) (sid : Nat) (seal2 : Bool) (cmdSeq adm : W32) (status : Byte) (det : List Byte) : State :=
  match s.session? sid with
  | none => s
  | some x =>
    (s.modSession sid fun y => { y with tx := y.tx + 1 }).emit
      (.field (s.sessionMessage x 7 0 x.telAlive seal2 (replyPrefix status cmdSeq adm ++ det)))

/-- The link of a port is quarantined (R301). -/
def State.quarantined (s : State) : Port → Bool
  | .f i => (s.link i.val).quarantine.isSome
  | _ => false

/-- A failure counted in REFUSED (R304). -/
def State.countRefused (s : State) (sid : Nat) : State :=
  s.modSession sid fun x => { x with refused := if x.refused = 0xFFFF then 0xFFFF else x.refused + 1 }

/-! Partner telegrams -/

/-- Content of a TELEGRAM (R295): echo epoch and slots, where its layout holds. -/
def telegramContent (l : List Byte) : Option (W32 × List W32) :=
  let n := fieldAt l 8 2
  if l.length < 12 || l.length ≠ 12 + 4 * n || 253 < n || fieldAt l 10 2 ≠ 0 then none
  else some (BitVec.ofNat 32 (fieldAt l 4 4), (List.range n).map fun k => BitVec.ofNat 32 (fieldAt l (12 + 4 * k) 4))

/-- A module that does not hold the Lamp raises its highest known epoch (R305, R356). -/
def State.learnEpoch (s : State) (e : W32) : State :=
  if s.holdsLamp then s
  else if s.pair.epochKnown.toNat < e.toNat then { s with pair.epochKnown := e } else s

/-- A partner TELEGRAM at a network die (R304, checks 1 to 4). -/
def State.receiveTelegram (s : State) (m : FieldMsg) : State :=
  if !s.portUsable m.port || s.quarantined m.port then s.lose m.port
  else match s.fieldSession m with
    | none => s.discard m.port
    | some x =>
      if !m.headerOk 0x02 || !m.reservedOk || m.length.toNat ≠ m.content.length then s.countRefused x.sid
      else if !m.scOk 0x02 || !m.tagOk x 0x02 then s.countRefused x.sid
      else match seqCheck false x.h m.seq with
        | .duplicate => s
        | .refused => s.countRefused x.sid
        | .wrap => (s.modSession x.sid Session.close).countRefused x.sid
        | .accepted h =>
          let s := s.modSession x.sid fun y => { y with h := h }
          let higher := match x.lastTelAlive with
            | some a => counterIn 1 15 a m.alive
            | none => true
          if !higher then s.countRefused x.sid
          else
            let s := if x.pclass = 1 then s.modSession x.sid fun y => y.seeAlive m.alive s.now else s
            match telegramContent m.content with
            | none => s
            | some (echoEpoch, slots) =>
              let t : HeldTelegram :=
                { seq := m.seq, alive := m.alive, echo := m.echo, echoEpoch := echoEpoch, ownEpoch := m.ownEpoch,
                  standby := bitOf m.flags.toNat 0, crc := crc32c m.content,
                  fix := BitVec.ofNat 32 (fieldAt m.content 0 4), slots := slots, faulty := m.faulty }
              let s := s.modSession x.sid fun y => { y with telegrams := t :: y.telegrams }
              (s.learnEpoch echoEpoch).learnEpoch m.ownEpoch

/-- Check 7 of R304 on slots: count and reserved bits. -/
def slotsOk (i : Image) (x : Session) (slots : List W32) : Bool :=
  (match i.partners.find? fun d => d.node = x.node with
    | some d => x.pclass ≠ 2 || slots.length = d.repSlots
    | none => x.pclass ≠ 2) &&
  slots.zipIdx.all fun v => match slotObject i x.node v.2 with
    | some (d, upper) => slotClean d upper v.1
    | none => true

/-- Cycles back that an echo may name (R304, R313). -/
def State.echoWindow (s : State) (x : Session) : Nat :=
  if x.pclass = 1 then max 2 ((2 * x.periodMs + s.cs.p - 1) / s.cs.p) else 2

/-- Check 5: the echo names a TELEGRAM sent in one of the last cycles. -/
def State.echoOk (s : State) (x : Session) (echo : W32) : Bool :=
  x.sentSeq.any fun p => p.2 = echo && s.cyc.cycle.toNat ≤ p.1.toNat + s.echoWindow x && p.1.toNat < s.cyc.cycle.toNat

/-- Check 4: newer than the last valid TELEGRAM, so that one that has counted at a freeze counts at no other (R304,
R307). -/
def Session.newer (x : Session) (t : HeldTelegram) : Bool := x.lastTelAlive.elim true fun a => counterIn 1 15 a t.alive

/-- Validity of a held telegram at a freeze (R304, R313). Check 6 is judged on the highest known epoch, which at the holder is its own. -/
def State.telegramValid (s : State) (x : Session) (t : HeldTelegram) : Bool :=
  x.newer t && s.echoOk x t.echo && t.echoEpoch = s.ownEpoch && slotsOk s.image x t.slots && x.maxOwn.toNat ≤ t.ownEpoch.toNat

/-- Valid but for a higher echo epoch: a partner that obeys a later holder (R305). -/
def State.telegramFences (s : State) (x : Session) (t : HeldTelegram) : Bool :=
  x.newer t && s.echoOk x t.echo && s.ownEpoch.toNat < t.echoEpoch.toNat && slotsOk s.image x t.slots

/-- The last two telegrams of a session that a lane finds valid, or would but for a higher echo epoch, newest first (R55, R304,
R305). -/
def State.lastTwo (s : State) (l : Lane) (x : Session) : List HeldTelegram :=
  (x.telegrams.filter fun t => !laneIn t.faulty l && (s.telegramValid x t || s.telegramFences x t)).take 2

/-! Loss and recovery -/

/-- Objects bound to a partner. -/
def boundObjects (i : Image) (node : Node) : List Nat :=
  (i.objects.filter fun d => (nodesOf d).contains node).map fun d => d.oid

/-- A partner declared lost (R307, R312 to R314). `before`: the Expose before which the commands that end were admitted. -/
def State.declareLost (s : State) (x : Session) (before : Option Time) : State :=
  let s := s.modSession x.sid fun y => { y with lost := true, lostSince := s.now }
  let objs := boundObjects s.image x.node
  let s := s.endEntries (fun e => e.isElem && objs.contains e.oid && before.elim true fun t => e.arrived ≤ t) 0x41 noDetail
  if s.paired && !s.holdsLamp && x.pclass = 2 then
    s.event 0x040A ([BitVec.ofNat 8 (portCode x.port)] ++ beBytes 3 x.node.toNat)
  else s

/-- Loss is due at this Expose (R307, R313). -/
def State.lossDue (s : State) (x : Session) : Bool :=
  !x.lost &&
    (if x.pclass = 2 then x.ks ≤ x.missed || s.dieOut (portDie x.port)
     else x.pclass = 1 && x.lastQualifiedAt + ms (x.ks * x.periodMs) ≤ s.now)

/-- Missing or qualified telegram of a session in a cycle (R307, R308, R313). -/
def State.judgePartner (s : State) (x : Session) (q : Option HeldTelegram) : State :=
  match q with
  | some t =>
    s.modSession x.sid fun y => { y with
      missed := if y.pclass = 2 then 0 else y.missed
      lost := false, lastTelAlive := some t.alive, lastQualified := some t.seq, lastQualifiedAt := s.now
      maxOwn := if y.maxOwn.toNat < t.ownEpoch.toNat then t.ownEpoch else y.maxOwn }
  | none =>
    let s := s.modSession x.sid fun y => { y with missed := if y.pclass = 2 then min 10 (y.missed + 1) else y.missed }
    match s.session? x.sid with
    | some y => if s.lossDue y then s.declareLost y (some s.cyc.start) else s
    | none => s

/-- A FIELD session closes (R308): lost with the link down for 1,000 ms, or lost for 60,000 ms. -/
def State.fieldCloseDue (s : State) (x : Session) : Bool :=
  x.pclass = 2 && x.lost &&
    (x.lostSince + ms 60000 ≤ s.now ||
     match x.port with
     | .f i => match (s.link i.val).downSince with
       | some t => decide (t + ms 1000 ≤ s.now)
       | none => false
     | _ => false)

/-! Discovery (R297 to R302) -/

/-- A port is a given field link. -/
def onField (i : Nat) : Port → Bool
  | .f j => j.val = i
  | _ => false

/-- A FIELD session stands on the link, or will from the next boundary. -/
def State.linkHasSession (s : State) (i : Nat) : Bool :=
  (s.net.sessions.any fun x => x.pclass = 2 && onField i x.port) || s.net.openings.any fun o => o.pclass = 2 && onField i o.port

/-- CHALLENGE goes out on a link that is up, without session or fresh from link-up, and not quarantined (R297, R300). -/
def State.challengeable (s : State) (i : Fin 48) : Bool :=
  s.portUsable (.f i) && ((s.link i.val).want || !s.linkHasSession i.val) && (s.link i.val).quarantine.isNone && (s.link i.val).helloSince.isNone

def State.challenge (s : State) (i : Fin 48) : State :=
  if s.challengeable i then
    let d := s.draw
    (d.2.modLink i.val fun k => { k with challenge := some (d.1, s.now) }).emit
      (.field (s.linkMessage i.val 3 0 0 0 (beBytes 32 d.1.toNat ++ beBytes 3 Config.ownNode.toNat ++ [0])))
  else s

/-- The link comes up (R297); a quarantine ends (R301). -/
def State.linkUp (s : State) (i : Fin 48) : State :=
  let s := s.modLink i.val fun k => { k with port := { k.port with up := !k.port.outOfService }, downSince := none,
                                             want := true, quarantine := none }.noHello
  s.challenge i

/-- The link goes down (R308, R311). -/
def State.linkDown (s : State) (i : Fin 48) : State :=
  s.modLink i.val fun k => { k with port := { k.port with up := false }, downSince := some (k.downSince.getD s.now),
                                    want := false, challenge := none }.noHello

/-- What a complete HELLO says (R298): `signedPart` is what its signature is over, after the nonce. -/
structure Hello where
  node : Node
  cls : BitVec 2
  ptype : W16
  fwHash : Hash
  key : List Byte
  encapsulation : List Byte
  signedPart : List Byte
  signature : List Byte
  deriving DecidableEq, Repr

/-- Length of a HELLO of a class (R298). -/
def helloLength (cls : Nat) : Nat := if cls = 3 then 4988 else 3804

/-- Parts of a HELLO of a class (R298). -/
def helloCount (cls : Nat) : Nat := if cls = 3 then 5 else 4

def hello (l : List Byte) : Hello :=
  let f := fieldAt l
  { node := BitVec.ofNat 20 (f 0 3), cls := BitVec.ofNat 2 (f 3 1), ptype := BitVec.ofNat 16 (f 4 2)
    fwHash := BitVec.ofNat 256 (f 40 32), key := slice l 72 1312
    encapsulation := if f 3 1 = 3 then slice l 1384 1184 else [], signedPart := l.take (l.length - 2420)
    signature := l.drop (l.length - 2420) }

/-- The reserved bits of a HELLO are zero (R10, R298). -/
def helloReservedOk (l : List Byte) : Bool := fieldAt l 0 3 < 2 ^ 20 && fieldAt l 3 1 < 4 && fieldAt l 6 2 = 0

/-- A link is quarantined (R301). -/
def State.quarantine (s : State) (i : Fin 48) (x : Hello) (reason : Byte) : State :=
  let k := s.link i.val
  let silent := match k.quarantineRecord with
    | some t => decide (s.now < t + ms 60000)
    | none => false
  let s := s.modLink i.val fun k => { k with quarantine := some (s.now, reason), challenge := none }.noHello
  if silent then s
  else
    (s.modLink i.val fun k => { k with quarantineRecord := some s.now }).event 0x0402
      ([BitVec.ofNat 8 i.val] ++ beBytes 3 x.node.toNat ++ beBytes 2 x.ptype.toNat ++ [reason])

/-- First failing check of R300; 0 when the HELLO matches. Its signature is over the CHALLENGE nonce and the HELLO before it
(R298). -/
def State.helloReason (s : State) (i : Fin 48) (nonce : Hash) (x : Hello) : Byte :=
  match s.image.partners.find? fun d => d.node = x.node with
  | none => 0x01
  | some d =>
    if !d.links.getLsbD i.val then 0x02
    else if d.ptype ≠ x.ptype || d.cls ≠ x.cls then 0x03
    else if d.keyHash ≠ Config.sha3 x.key ||
        !Config.verifies x.key (Config.sha3 (beBytes 32 nonce.toNat ++ x.signedPart)) x.signature then 0x04
    else if d.fwHash ≠ 0 && d.fwHash ≠ x.fwHash then 0x05
    else if s.net.sessions.any fun y => y.pclass = 2 && y.node = x.node && y.port ≠ .f i then 0x06
    else if s.freeId.isNone then 0x07
    else 0x00

/-- A WELCOME before its signature (R298). -/
def welcomeHead (x : Hello) (sid : Nat) (nonce : Hash) (draw : Nat) : List Byte :=
  [BitVec.ofNat 8 sid, BitVec.ofNat 8 (12 + sid % 3), 0, 0] ++ beBytes 32 nonce.toNat ++ padTo 1312 Config.identityKey ++
    if x.cls = 3 then padTo 1088 (Config.kemCiphertext draw x.encapsulation) else []

/-- A HELLO that matches: WELCOME leaves in parts, and in class TS the tag keys are derived (R297, R298). -/
def State.welcome (s : State) (i : Fin 48) (challenge : Hash) (x : Hello) (seq : W32) (sid : Nat) : State :=
  let d := s.draw
  let head := welcomeHead x sid d.1 s.freeCtr
  let transcript := Config.sha3 (beBytes 32 challenge.toNat ++ x.signedPart ++ head)
  let secret := Config.kemSecret s.freeCtr x.encapsulation
  let content := head ++ padTo 2420 (Config.identitySign s.freeCtr transcript)
  let parts := helloCount x.cls.toNat
  let part := fun (k : Nat) =>
    [Config.welcomeNumber, BitVec.ofNat 8 k, BitVec.ofNat 8 parts, 0] ++ slice content (1016 * k) 1016
  let o : Opening :=
    { sid := sid, node := x.node, pclass := 2, gclass := x.cls, port := .f i, endpoint := 0, since := s.now,
      parts := parts, step := 2, accepted := true, h := seq, sent := BitVec.ofNat 32 parts, ptype := x.ptype,
      keyHash := Config.sha3 x.key, fwHash := x.fwHash, tray := 12 + sid % 3, transcript := transcript
      keyIn := if x.cls = 3 then keyToModule secret transcript else 0
      keyOut := if x.cls = 3 then keyToPartner secret transcript else 0 }
  let s := d.2.modLink i.val fun k => { k with want := false, challenge := none }.noHello
  { s with net.openings := s.net.openings ++ [o] }.emitAll ((List.range parts).map fun k =>
    .field (s.linkMessage i.val 5 16 sid (BitVec.ofNat 32 (k + 1)) (part k)))

/-- The last part of a HELLO (R297, R300): a match brings a session, else the link is quarantined. -/
def State.helloLast (s : State) (i : Fin 48) (challenge : Hash) (x : Hello) (seq : W32) : State :=
  let reason := s.helloReason i challenge x
  if reason ≠ 0 then s.quarantine i x reason else s.freeId.elim s (s.welcome i challenge x seq)

/-- Class that a HELLO in hand, or a first part of one, names. -/
def helloClass (k : LinkRec) (m : FieldMsg) : Nat := if fieldAt m.content 1 1 = 0 then fieldAt m.content 7 1 else fieldAt k.helloBytes 3 1

/-- A part of a HELLO as R292 to R294 and R298 lay it out. -/
def FieldMsg.helloPart (m : FieldMsg) (cls : Nat) : Bool :=
  let n := fieldAt m.content 1 1
  m.headerOk 0x04 && m.scOk 0x04 && m.reservedOk && m.sid = 0 && bitOf m.flags.toNat 4 &&
    m.length.toNat = m.content.length && fieldAt m.content 2 1 = helloCount cls && fieldAt m.content 3 1 = 0 &&
    n < helloCount cls && m.content.length = 4 + min 1016 (helloLength cls - 1016 * n)

/-- A HELLO part (R297, R298). -/
def State.receiveHello (s : State) (i : Fin 48) (m : FieldMsg) : State :=
  let k := s.link i.val
  let cls := helloClass k m
  let n := fieldAt m.content 1 1
  if !s.portUsable (.f i) || k.quarantine.isSome || !m.helloPart cls then s.lose (.f i)
  else match k.challenge, seqCheck false (if n = 0 then 0 else k.helloSeq) m.seq with
    | some c, .accepted seq =>
      if n = 0 then
        if k.helloSince.isNone && 4 ≤ s.openCount then s
        else s.modLink i.val fun k => { k with
          helloSince := some s.now, helloParts := 1, helloBytes := m.content.drop 4, helloSeq := seq }
      else if n ≠ k.helloParts || k.helloSince.isNone then s
      else
        let l := k.helloBytes ++ m.content.drop 4
        if n + 1 = helloCount cls then if helloReservedOk l then s.helloLast i c.1 (hello l) seq else s.lose (.f i)
        else s.modLink i.val fun k => { k with helloParts := n + 1, helloBytes := l, helloSeq := seq }
    | _, _ => s

/-- A repeat of CHALLENGE (R297); an opening older than 2,000 ms is abandoned first. -/
def State.challengeAgain (s : State) (i : Fin 48) : State :=
  let s := s.modLink i.val fun k => match k.helloSince with
    | some t => if t + ms 2000 ≤ s.now then k.noHello else k
    | none => k
  match (s.link i.val).challenge with
  | some c => if c.2 + ms 200 ≤ s.now then s.challenge i else s
  | none => s.challenge i

/-- A quarantine of 60 s ends (R301). -/
def State.endQuarantine (s : State) (i : Fin 48) : State :=
  match (s.link i.val).quarantine with
  | some q => if q.1 + ms 60000 ≤ s.now then (s.modLink i.val fun k => { k with quarantine := none }).challenge i else s
  | none => s

/-- CHALLENGE begins on every link that qualifies and has none outstanding (R297). -/
def State.challengeAll (s : State) : State :=
  (List.finRange 48).foldl (fun s i => if (s.link i.val).challenge.isNone then s.challenge i else s) s

/-- A logic switch meets field sessions and links (R302). -/
def State.switchPartners (s : State) (old : List PartnerDecl) : State :=
  let new := s.image.partners
  let stands := fun (x : Session) => match new.find? fun d => d.node = x.node with
    | some d => (match x.port with
        | .f i => d.links.getLsbD i.val
        | _ => true) && d.ptype = x.ptype && d.cls = x.gclass && d.keyHash = x.keyHash &&
        (d.fwHash = 0 || d.fwHash = x.fwHash)
    | none => false
  let s := { s with net.sessions := s.net.sessions.map fun x => if x.pclass = 2 && !stands x then x.close else x }
  if old = new then s
  else { s with net.links := s.net.links.map fun k => { k with quarantine := none } }

/-! EVENTs (R309) -/

/-- What admission asks of an EVENT: a cut command of priority 8, timed, from the home tray of its session (R309). -/
def eventAsk (x : Session) : Ask :=
  { op := 0, tray := x.tray, prio := 8, timed := true, deadline := none, last := false,
    row := { kind := .cut, promise := 2, extraNs := ms 10, holdsOp := false, cost := 0, classes := 0b0100, onlyCM := false,
             lifecycles := lcAll } }

/-- Byte offset at which the content of an EVENT departs from its map (R243, R309). -/
def eventOffence (l : List Byte) : Option Nat :=
  if l.length < 8 then some l.length
  else if 8 < l.length then some 8
  else if 252 < fieldAt l 0 2 then some 0
  else if fieldAt l 2 2 ≠ 0 then some 2
  else none

/-- An EVENT arrives: refused at admission, or admitted as a cut command; both are answered at once (R231, R232, R309). -/
def State.receiveEvent (s : State) (m : FieldMsg) : State :=
  if !s.portUsable m.port || s.quarantined m.port then s.lose m.port
  else if !m.headerOk 0x06 then s.discard m.port
  else match s.net.sessions.find? fun x => x.sid = m.sid && x.pclass = 2 && x.state = .opened && x.port = m.port &&
      x.node.toNat = m.node.toNat with
    | none => s.emit (.field (({ port := m.port, kind := 7, flags := BitVec.ofNat 8 s.fieldFlags, sid := 0, seq := 1, echo := 0
                                 epoch := s.ownEpoch, stamp := s.stamp, alive := 0
                                 content := replyPrefix 0x33 m.seq 0 ++ noDetail } : FieldSent).close false none))
    | some x =>
      let no := fun (s : State) (st : Byte) (det : List Byte) =>
        (if countsRefused st then s.countRefused x.sid else s).eventReply x.sid false m.seq 0 st det
      if !m.tagOk x 0x06 then no (s.modSession x.sid (noteBadAuth s.now)) 0x34 noDetail
      else if !m.scOk 0x06 then no s 0x31 noDetail
      else match seqCheck false x.h m.seq with
        | .duplicate => s
        | .refused => no s 0x32 noDetail
        | .wrap => no (s.modSession x.sid Session.close) 0x32 noDetail
        | .accepted h =>
          let s := s.modSession x.sid fun y => { y with h := h }
          let l := m.content
          if !m.reservedOk || m.length.toNat ≠ l.length then no s 0x30 noDetail
          else match eventOffence l with
          | some k => no s 0x30 (detail 5 0 k)
          | none =>
            match s.admission (eventAsk x) l with
            | .inl st => no s st noDetail
            | .inr (charges, cycle, limit) =>
              let e : Entry :=
                { adm := s.net.nextAdm, op := 0, payload := l, sid := x.sid, tray := x.tray, prio := 8, cmdSeq := m.seq,
                  arrived := s.now, limit := limit, service := false, cycle := cycle, holdsOp := false, node := x.node,
                  faulty := m.faulty }
              { s with
                net.entries := s.net.entries ++ [e]
                net.nextAdm := s.net.nextAdm + 1
                net.charges := s.net.charges ++ charges }.eventReply x.sid false m.seq e.adm 0x01 []

/-! Telegrams of the module (R303) -/

/-- Command slots that a telegram to a session has (R295, R299). -/
def slotCount (i : Image) (x : Session) : Nat :=
  match i.partners.find? fun d => d.node = x.node with
  | some d => if x.pclass = 2 then d.cmdSlots else 0
  | none =>
    (i.objects.filter fun d => (nodesOf d).contains x.node).foldl (fun n d => match d.source with
      | .partner _ k _ => max n (k + slotsOf d.params)
      | _ => n) 0

/-- What the telegrams of a release carry (R303). -/
inductive TelForm where
  | fresh | again | safe
  deriving DecidableEq, Repr

/-- Content of a TELEGRAM (R295). -/
def telegramBody (fix echoEpoch : W32) (slots : List W32) : List Byte :=
  beBytes 4 fix.toNat ++ beBytes 4 echoEpoch.toNat ++ beBytes 2 slots.length ++ [0, 0] ++ wordBytes slots

/-- A TELEGRAM made now: command slots, or their safe form. -/
def State.newTelegram (s : State) (safe : Bool) (x : Session) : FieldSent :=
  let slots := commandSlots s.image s.rail x.node (slotCount s.image x) safe
  s.sessionMessage x 1 (2 * boolNat safe) (x.telAlive + 1) true
    (telegramBody s.cyc.telFix (if x.pclass = 1 then x.maxOwn else 0) slots)

/-- The TELEGRAM of a release to a session. A repeat keeps the content and the seal of the last Fix, with a new sequence number,
alive counter, timestamp and tag (R69, R211, R294, R303). -/
def State.telegramTo (s : State) (form : TelForm) (x : Session) : FieldSent :=
  match form, s.net.lastTels.find? fun y => y.1 = x.sid with
  | .again, some (_, r) =>
    { r with seq := x.tx + 1, echo := x.lastQualified.getD 0, stamp := s.stamp, alive := x.telAlive + 1 }.close true x.fieldKey
  | .fresh, _ => s.newTelegram false x
  | _, _ => s.newTelegram true x

/-- The images of a session's telegram that the two sealing lanes, the first two in VOTING, hand to its network die differ (R29;
DESIGN CHOICE log 138). -/
def State.tornFor (s : State) (sid : Nat) : Bool := (s.voting.take 2).any fun l => (s.lane l).torn.contains sid

/-- Source of a difference between lane images at a network die (R29, R376). -/
def tornSource (p : Port) : Nat := if portDie p = .n1 then 0x183 else 0x1A3

/-- One TELEGRAM to a session; one whose lane images differ is not sent, and its network die reports that (R29). -/
def State.sendTelegram (s : State) (form : TelForm) (x : Session) : State :=
  if s.tornFor x.sid then s.note (tornSource x.port) Lane.all
  else
    let r := s.telegramTo form x
    let s := s.modSession x.sid fun y => { y with
      tx := r.seq, telAlive := r.alive
      sentSeq := (y.sentSeq.filter fun p => s.cyc.cycle.toNat ≤ p.1.toNat + 4100) ++ [(s.cyc.cycle, r.seq)] }
    ({ s with net.lastTels := setKey s.net.lastTels x.sid r }).emit (.field r)

/-- TELEGRAMs on every open FIELD and NEIGHBOUR session, the module's flags by what it is (R303, R314). In a session whose
OPEN_4 is to leave at this Fix there is none before it (R219). A module not holding the Lamp sends safe form. -/
def State.sendTelegrams (s : State) (form : TelForm) : State :=
  let form := if s.holdsLamp then form else .safe
  let s := if form = .again then s else { s with cyc.telFix := s.cyc.fenceCycle }
  (s.net.sessions.filter fun x => (x.pclass = 2 || x.pclass = 1) && x.state ≠ .opening && !x.open4Due && !x.lastSaid &&
      s.portUsable x.port).foldl (fun s x => s.sendTelegram form x) s

end Sys2Proof.Machine
end

