-- ==== Sys2Proof/Machine/Query.lean ====
section
/-! DEFINITION. QUERY_STATE (R259 to R262), SUBSCRIBE and UNSUBSCRIBE (R263, R264), the updates of
subscriptions, and LAMP_STATUS (R283). -/

namespace Sys2Proof.Machine

/-- The IDs of one selector that the active image declares, ascending. -/
def sortIds (l : List Nat) : List Nat := l.foldr (insertBy fun a b => a ≤ b) []

/-- Value bytes of a symbol entry (R260). -/
def State.symbolValue (s : State) (y : Symbol) : Nat :=
  let k := y.index.toNat
  let i := s.image
  let r := s.rail
  match y.cls.toNat with
  | 2 => ((r.values.find? fun v => v.1 = y.id).elim 0 fun v => (v.2 % 65536).toNat)
  | 3 => (((r.retained[k]?).getD 0) % 65536).toNat
  | 4 =>
    match i.timers[k]?, r.timers[k]? with
    | some d, some t => timerWord d.kind t s.cyc.cons.time
    | _, _ => 0
  | 5 => boolNat (((r.edges[k]?).getD none).getD false)
  | 6 => ((i.constants[k]?).elim 0 fun v => (v.2 % 65536).toNat)
  | _ => 0

/-- The symbol entry (R260). -/
def State.symbolEntry (s : State) (id : Nat) : List Byte :=
  match s.image.symbols.find? fun y => y.id.toNat = id with
  | some y => beBytes 4 (id + at_ 24 y.cls.toNat) ++ beBytes 8 (s.symbolValue y)
  | none => []

/-- Header fields of an image that are read as 0 when EMPTY; in LOADING they are those of the bytes received (R260). -/
def bankEntry (n : Nat) (b : LogicBank) : List Byte :=
  let h := if b.state = .loading then imageHeader b.bytes else b.image.hdr
  let empty := decide (b.state = .empty)
  let loading := decide (b.state = .loading)
  [BitVec.ofNat 8 n, BitVec.ofNat 8 b.state.code, 0, 0] ++
    beBytes 4 (if empty then 0 else h.station.toNat) ++ beBytes 4 (if empty then 0 else h.serial.toNat) ++
    beBytes 32 (if empty || loading then 0 else h.hash.toNat) ++
    beBytes 4 (if loading then b.held else if empty then 0 else h.length)

/-- Words of every bound session, ascending (R260). -/
def State.sessionWords (s : State) : List (Nat × Nat) :=
  (s.net.sessions.map (fun x => (x.sid, x.word)) ++ s.net.openings.map fun o => (o.sid, o.word)).foldr
    (insertBy fun a b => a.1 ≤ b.1) []

/-- Entries that a selector has, each with its ID, from `first` on (R259, R260). -/
def State.queryIds (s : State) (selector first : Nat) : List Nat :=
  let ids : List Nat := match selector with
    | 2 => s.image.objects.map fun d => d.oid
    | 3 => s.image.routes.map fun d => d.rid.toNat
    | 4 => s.image.symbols.map fun y => y.id.toNat
    | _ => []
  sortIds (ids.filter fun k => first ≤ k)

/-- Entries per reply (R260). -/
def perReply : Nat → Nat
  | 2 => 62
  | 3 => 125
  | 4 => 83
  | 5 => 63
  | 6 => 2
  | _ => 1

/-- The reply body of QUERY_STATE (R259). -/
def State.queryBody (s : State) (selector count first : Nat) : List Byte :=
  let most := if count = 0 then perReply selector else min count (perReply selector)
  let make := fun (n next : Nat) (l : List Byte) => [BitVec.ofNat 8 selector, 0] ++ beBytes 2 n ++ beBytes 4 next ++ l
  match selector with
  | 1 => make 1 0xFFFFFFFF s.statusRecord
  | 5 =>
    let w := s.sessionWords.take most
    make w.length 0xFFFFFFFF (w.flatMap fun x => beBytes 8 x.2)
  | 6 =>
    let b := [bankEntry 0 s.logic.bank0, bankEntry 1 s.logic.bank1].take most
    make b.length 0xFFFFFFFF b.flatten
  | _ =>
    let ids := s.queryIds selector first
    let now := ids.take most
    let entry := fun (k : Nat) => match selector with
      | 2 => objectReport s.image s.rail k
      | 3 => routeReport s.image s.rail (BitVec.ofNat 12 k)
      | _ => s.symbolEntry k
    make now.length ((ids.drop most).head?.getD 0xFFFFFFFF) (now.flatMap entry)

/-- QUERY_STATE (R259). -/
def State.queryState (s : State) (e : Entry) : State :=
  s.done e (s.queryBody (e.byte 0) (fieldAt e.payload 2 2) (fieldAt e.payload 4 4))

/-- What a trigger on change compares: the body without cycle number, hold-up charge, operations in
flight, PI and PI_MIN (R263). -/
def State.queryKey (s : State) (selector count first : Nat) : List Byte :=
  let l := s.queryBody selector count first
  if selector = 1 then
    let clear := fun (l : List Byte) (k : Nat) => modifyNth l k fun _ => 0
    ([13, 14, 15, 16, 17, 18, 19, 30, 31] ++ [0, 1, 2].flatMap fun k => [41 + 8 * k, 42 + 8 * k]).foldl clear l
  else l

/-- Lowest free subscription ID (R263). -/
def State.freeSub (s : State) : Option Nat :=
  (List.range 255).map (· + 1) |>.find? fun k => !s.net.subs.any fun u => u.id = k

/-- SUBSCRIBE (R236, R263). With trigger 0x01 updates are counted from the reply's Fix. -/
def State.subscribe (s : State) (e : Entry) : State :=
  let mine := (s.net.subs.filter fun u => u.sid = e.sid).length
  if 4 ≤ mine || 128 ≤ s.net.subs.length || s.slackQ < 2 * (s.standing + 20000) then s.refuse e 0x10 noDetail
  else match s.freeSub with
    | none => s.refuse e 0x10 noDetail
    | some id =>
      let sel := e.byte 0
      let count := fieldAt e.payload 2 2
      let first := fieldAt e.payload 4 4
      let u : Subscription :=
        { id := id, sid := e.sid, selector := BitVec.ofNat 8 sel, everyN := e.byte 1 = 1, count := count,
          first := BitVec.ofNat 32 first, n := e.byte 8, left := e.byte 8 + 1, last := s.queryKey sel count first }
      { s with net.subs := s.net.subs ++ [u] }.done e
        ([BitVec.ofNat 8 id, 0, 0, 0] ++ s.queryBody sel count first)

/-- UNSUBSCRIBE (R264). -/
def State.unsubscribe (s : State) (e : Entry) : State :=
  let mine := fun (u : Subscription) => decide (u.id = e.byte 0) && decide (u.sid = e.sid)
  if s.net.subs.any mine then { s with net.subs := s.net.subs.filter fun u => !mine u }.done e []
  else s.refuse e 0x13 noDetail

/-- One subscription at a Fix: whether its update is due, and the subscription after it (R263). -/
def State.subDue (s : State) (u : Subscription) : Bool × Subscription :=
  if u.everyN then
    if u.left ≤ 1 then (true, { u with left := u.n }) else (false, { u with left := u.left - 1 })
  else
    let k := s.queryKey u.selector.toNat u.count u.first.toNat
    (k ≠ u.last, { u with last := k })

/-- The payload of an update after its first 12 bytes (R214, R263). -/
def State.updatePayload (s : State) (u : Subscription) : List Byte :=
  replyPrefix 0x00 0 0 ++ [BitVec.ofNat 8 u.id, 0, 0, 0] ++ s.queryBody u.selector.toNat u.count u.first.toNat

/-- A healthy mirror: at the holder the cycle has its ACK, or, before its Mirror deadline, the cycle before it had; elsewhere the
last renewal is at most a period old (R354, R283). -/
def State.mirrorHealthy (s : State) : Bool :=
  if s.pair.role = .active then
    s.pair.lease.acked || (s.v.ppIn && s.now < s.cyc.start + deadlineNs s.cs s.cs.mirror &&
      s.pair.lease.renewed.any fun t => s.cyc.start ≤ t + s.periodNs)
  else match s.pair.lease.lastAck with
    | some t => decide (s.now ≤ t + s.periodNs)
    | none => false

/-- Cycles of lease left at the holder, or cycles since the last renewal seen (R283). -/
def State.leaseByte (s : State) : Nat :=
  let p := s.periodNs
  if s.pair.role = .active then
    match s.pair.lease.renewed with
    | some t => s.ps.lease - (s.now - t) / p
    | none => 0
  else if s.pair.role = .unpaired then 0
  else match s.pair.lease.lastAck with
    | some t => min 255 ((s.now - t) / p)
    | none => 255

/-- The body of LAMP_STATUS (R283). -/
def State.lampBody (s : State) : List Byte :=
  [BitVec.ofNat 8 (s.pair.role.code + at_ 4 (boolNat s.pair.mirror.differs) + at_ 5 (boolNat (s.paired && s.v.ppIn)) +
      at_ 6 (boolNat (s.paired && s.mirrorHealthy))), BitVec.ofNat 8 s.ps.lease, BitVec.ofNat 8 s.leaseByte, 0] ++
    beBytes 4 s.pair.epochKnown.toNat ++ beBytes 4 s.pair.epochPartner.toNat ++ beBytes 6 s.pair.takeover.toNat ++
    beBytes 2 s.cyc.unmirroredTotal.toNat ++ beBytes 4 (if s.paired then Config.partnerNode.toNat else 0)

/-- LAMP_STATUS (R283). -/
def State.lampStatus (s : State) (e : Entry) : State := s.done e s.lampBody

end Sys2Proof.Machine
end

