-- ==== Sys2Proof/Machine/Counters.lean ====
section
/-! DEFINITION. The Densitometer counters (R468 to R475): counting, chains, COUNTER_SET and
COUNTER_READ. -/

namespace Sys2Proof.Machine

def counterMax : W48 := 0xFFFFFFFFFFFF

/-- One count into the first counter of a list, carried along its chain; the flag says that the chain
saturated, and then no counter of it moves (R472, R473). -/
def countInto : List Counter → List Counter × Bool
  | [] => ([], false)
  | c :: r =>
    if c.value ≠ counterMax then ({ c with value := c.value + 1 } :: r, false)
    else if c.chain then
      let x := countInto r
      if x.2 then (c :: x.1, true) else ({ c with value := 0 } :: x.1, false)
    else ({ c with ovf := true } :: r, true)

/-- One count into the counter at an index. -/
def countAt (l : List Counter) (i : Nat) : List Counter := l.take i ++ (countInto (l.drop i)).1

/-- A counter that counts by its own settings: it is not fed by a chain (R472). -/
def unchained (l : List Counter) (i : Nat) : Bool :=
  if i = 0 then true else !((l[i - 1]?).getD {}).chain

/-- Every counter that a test picks, by index, counts once; lower counters first. -/
def countWhere (p : Counter → Bool) (l : List Counter) : List Counter :=
  ((List.range 32).filter fun i => unchained l i && p ((l[i]?).getD {})).foldl countAt l

/-- States in which a lane counts (R469). -/
def LanePhase.counts (p : LanePhase) : Bool := p.live

/-- A slice of a Test Strip run on a lane lasts: nothing is counted there (R469). -/
def State.laneInSlice (s : State) (l : Lane) : Bool :=
  match s.test with
  | some r => r.target = 1 && r.index = l.idx && s.now < r.sliceEnd
  | none => false

/-- An event of R471 in some lanes. -/
def State.tally (s : State) (n : Nat) (lanes : List Lane) : State :=
  lanes.foldl (fun s l => s.modLane l fun r =>
    if r.phase.counts && !s.laneInSlice l then
      { r with counters := countWhere (fun c => c.mode = 2 && c.source.toNat = n) r.counters }
    else r) s

/-- Resource codes of R470. -/
def resourceKnown (code : Nat) : Bool := code ≤ 0x17

/-- COUNTER_SET on one counter (R273, R474). -/
def setCounter (mode : Nat) (chain clear : Bool) (source : W16) (threshold : W32) (c : Counter) : Counter :=
  { mode := mode, chain := chain, source := source, threshold := threshold,
    value := if clear then 0 else c.value, ovf := if clear then false else c.ovf }

/-- COUNTER_SET at the Fix of its cut (R273). -/
def State.counterSet (s : State) (e : Entry) : State :=
  let i := e.byte 1
  let mode := e.byte 2
  let chain := bitOf (e.byte 3) 0
  let source := fieldAt e.payload 4 2
  if (chain && i = 31) || (mode = 1 && !resourceKnown source) then s.refuse e 0x21 noDetail
  else
    let f := setCounter mode chain (bitOf (e.byte 3) 1) (BitVec.ofNat 16 source) (BitVec.ofNat 32 (fieldAt e.payload 8 4))
    let s := s.modLanes fun l r =>
      if bitOf (e.byte 0) l.idx then { r with counters := modifyNth r.counters i f } else r
    s.done e []

/-- The lane's timebase reading at this instant, in ticks (R272). -/
def State.readingOf (s : State) (l : Lane) : Ticks := (s.lane l).reading + (s.now - (s.lane l).boundary) / 100

/-- Flags byte of a counter (R272). -/
def counterFlags (c : Counter) : Nat :=
  boolNat c.ovf + 2 * boolNat c.chain + 4 * boolNat (c.mode = 2) + 8 * boolNat (c.mode = 0)

/-- COUNTER_READ (R272, R475). -/
def State.counterRead (s : State) (e : Entry) : State :=
  match Lane.ofIdx (e.byte 0) with
  | none => s.refuse e 0x30 (detail 5 0 0)
  | some l =>
    let r := s.lane l
    if r.phase = .down || r.phase = .loading || r.phase = .barred then s.refuse e 0x13 noDetail
    else
      let ids := (List.range (e.byte 2)).map fun k => e.byte 1 + k
      s.done e (e.payload.take 4 ++ ids.flatMap fun i =>
        let c := (r.counters[i]?).getD {}
        [BitVec.ofNat 8 i, BitVec.ofNat 8 (counterFlags c)] ++ beBytes 6 c.value.toNat ++ beBytes 8 (s.readingOf l))

/-- A counter at its maximum that would count once more (R473): its whole chain holds the maximum and
the last counter shows OVF. -/
def State.saturate (s : State) (l : Lane) (i : Nat) : State :=
  s.modLane l fun r =>
    let c := (r.counters[i]?).getD {}
    if c.value = counterMax && (c.mode ≠ 0 || !unchained r.counters i) then { r with counters := countAt r.counters i }
    else r

end Sys2Proof.Machine
end

