-- ==== Sys2Proof/Machine/Engine.lean ====
section
/-! DEFINITION. The check-value engines' contexts (R458, R459, R464): a fresh context, a job that is fed in parts, its
result, and alive mode; the jobs of an engine in the order issued (R460). -/

namespace Sys2Proof.Machine

/-- Initial value of a configuration, by POLY (R458, R459). -/
def polyInit (poly : BitVec 3) : W64 :=
  match poly.toNat with
  | 0 => 0xFFFFFFFF
  | 1 => 0
  | 2 => 0xFFFFFFFFFFFFFFFF
  | 3 => 0xFFFF
  | _ => 0

/-- One byte into RUNNING; the configurations of 16 and 32 bits use the low bits (R459). -/
def polyByte (poly : BitVec 3) (running : W64) (b : Byte) : W64 :=
  match poly.toNat with
  | 0 => (crc32Byte (running.setWidth 32) b).setWidth 64
  | 1 => crc64Byte running b
  | 2 => crc64Byte running b
  | _ => (crc16Byte (running.setWidth 16) b).setWidth 64

/-- Final XOR of a configuration (R458). -/
def polyXor (poly : BitVec 3) : W64 := if poly = 0 then 0xFFFFFFFF else 0

/-- A context at its Default values for a configuration (R459). -/
def EngineCtx.fresh (poly : BitVec 3) : EngineCtx := { running := polyInit poly, poly := poly }

/-- A context that no job may be given: POLY, MODE or D_MAX takes an unused value (R459). -/
def EngineCtx.unused (c : EngineCtx) : Bool := 5 ≤ c.poly.toNat || c.mode = 3 || c.dMax = 0

/-- The job goes on over more bytes (R459). -/
def EngineCtx.feed (c : EngineCtx) (l : List Byte) : EngineCtx :=
  { c with running := l.foldl (polyByte c.poly) c.running, count := c.count + BitVec.ofNat 25 l.length }

/-- The finished result (R459). -/
def EngineCtx.result (c : EngineCtx) : W64 := c.running ^^^ polyXor c.poly

/-- A block in alive mode, whose check has verified or not: the verdict, and the context after it (R464). -/
def EngineCtx.alive (c : EngineCtx) (verified : Bool) (counter : W16) : Bool × EngineCtx :=
  if verified && counterIn c.dMin.toNat c.dMax.toNat c.lastAlive counter then (true, { c with lastAlive := counter }) else (false, c)

/-- A job run from its start: the context that it leaves (R459, R464). -/
def EngineJob.run (j : EngineJob) : EngineCtx :=
  let c := j.ctx.feed j.bytes
  if c.mode = 2 then (c.alive (decide (c.result = j.check)) (BitVec.ofNat 16 (fieldAt j.bytes c.offset.toNat 2))).2 else c

/-- An engine takes a job and completes it (R460). -/
def EngineUnit.take (e : EngineUnit) (j : EngineJob) : EngineUnit := { e with ctx := j.run, job := some j }

/-- A job is issued; in a block reset it waits (R460). -/
def EngineUnit.issue (inReset : Bool) (j : EngineJob) (e : EngineUnit) : EngineUnit :=
  if inReset then { e with waiting := e.waiting ++ [j] } else e.take j

/-- A block reset completes: the job interrupted is run again from its start, then those that have waited, in the order issued
(R460). -/
def EngineUnit.resume (e : EngineUnit) : EngineUnit :=
  (e.job.toList ++ e.waiting).foldl EngineUnit.take { e with waiting := [] }

def LaneRec.modEngine (second : Bool) (f : EngineUnit → EngineUnit) (r : LaneRec) : LaneRec :=
  if second then { r with engine2 := f r.engine2 } else { r with engine1 := f r.engine1 }

/-- The engine is in a block reset (R460). -/
def State.engineOut (s : State) (l : Lane) (second : Bool) : Bool := s.dies.resets.any fun x => x.1 = .engine l second

/-- The firmware issues a job to an engine; one that must finish sooner than the engine's block reset goes to the other (R460,
R465). -/
def State.issue (s : State) (l : Lane) (second urgent : Bool) (j : EngineJob) : State :=
  let other := urgent && s.engineOut l second && !s.engineOut l !second
  let at_ := second != other
  s.modLane l (LaneRec.modEngine at_ (EngineUnit.issue (s.engineOut l at_) j))

/-- The context as its 128 bits (R459). -/
def EngineCtx.word (c : EngineCtx) : BitVec 128 :=
  c.running ++ c.count ++ c.poly ++ c.mode ++ c.lastAlive ++ c.dMin ++ c.dMax ++ c.offset

end Sys2Proof.Machine
end

