-- ==== Sys2Proof/Machine/FieldIO.lean ====
section
/-! DEFINITION. Local 24 V field I/O (R319 to R344, R464): frames over the barrier, debounce, INVALID
marking, readback, Dark Pulses, group supplies and cut-offs, and the standby's view of paired outputs. -/

namespace Sys2Proof.Machine

/-! The channel table -/

def Image.channel (i : Image) (ch : Nat) : ChEntry := (i.channels[ch]?).getD {}

/-- Channels whose mode a test picks. -/
def Image.modeMask (i : Image) (p : ChMode → Bool) : Chans :=
  (i.channels.take 96).zipIdx.foldl (fun m x => if p x.1.mode then m ||| chBit x.2 else m) 0

def Image.usedMask (i : Image) : Chans := i.modeMask fun m => m ≠ .unused

/-- Channels that a module commands: OUTPUT, and OUTPUT_PAIRED for the holder of the Lamp (R321, R343). -/
def State.commandable (s : State) : Chans :=
  s.image.modeMask fun m => m = .output || (m = .paired && s.holdsLamp)

/-- The channels of the groups that a test picks. -/
def groupChannels (b : Board) (p : Group → Bool) : Chans :=
  b.groups.zipIdx.foldl (fun m x => if p x.1 then m ||| groupMask x.2 else m) 0

/-- Groups that a test picks. -/
def groupBits (b : Board) (p : Group → Bool) : Groups :=
  b.groups.zipIdx.foldl (fun m x => if p x.1 then m ||| (1 <<< x.2) else m) 0

def Group.isOut (g : Group) : Bool := g.state = .sagged || g.busLow

/-- Object bound to a channel, as the symbol ID of a record (R391). -/
def Image.channelSymbol (i : Image) (ch : Nat) : Nat :=
  (i.objects.find? fun d => match d.source with
    | .locally bind => bind.any fun x => x.2.val = ch
    | _ => false).elim 0 fun d => d.symbol.toNat

/-- Detail of a channel observation (R333, R341, R344, R391). -/
def State.channelDetail (s : State) (code ch dark cand other : Nat) : List Byte :=
  faultDetail code (ch + 1) (s.image.channelSymbol ch) 0 0 dark cand other

/-- Detail of a group observation. -/
def groupDetail (code g feed bus : Nat) : List Byte := faultDetail code (g + 1) 0 feed bus 0 0 0

/-! INVALID marking (R324) -/

/-- Debounce time of a channel in ns. -/
def Image.debounceNs (i : Image) (ch : Nat) : Time := (i.channel ch).debounce * 1000

/-- Channels whose debounce restarts (R322). -/
def State.restartMask (s : State) (l : Lane) : Chans :=
  (s.lane l).board.restarting.foldl
    (fun m x => if s.now < x.2 + s.image.debounceNs x.1 then m ||| chBit x.1 else m) 0

/-- Channels that a lane marks INVALID now. -/
def State.invalidMask (s : State) (l : Lane) : Chans :=
  let b := (s.lane l).board
  let whole : Chans := if b.status &&& 3 ≠ 0 || 3 ≤ b.stale then ~~~0 else 0
  (whole ||| groupChannels b Group.isOut ||| b.marks ||| s.restartMask l) &&& s.image.usedMask

/-! Commands of a lane -/

/-- Switches that a lane may close now: commandable channels whose group is not out and which carry no
mark (R326). -/
def State.closable (s : State) (l : Lane) : Chans :=
  let b := (s.lane l).board
  s.commandable &&& ~~~(b.marks ||| groupChannels b Group.isOut)

/-- A hold with safe values (R76, R77). -/
def State.forcedSafe (s : State) : Bool := s.cyc.mode = .hold && s.cyc.hold.elim false fun h => h.forceSafe

/-- The module drives nothing: STOP, Safelight, a hold with safe values, or without the Lamp (R76, R326,
R327). -/
def State.quiet (s : State) : Bool := s.cyc.mode = .stop || s.flt.safelight.on || !s.holdsLamp || s.forcedSafe

/-- Cut-offs that a lane commands closed at a Fix (R327). -/
def State.cutoffCommand (s : State) (l : Lane) : Groups :=
  let b := (s.lane l).board
  let high := (List.range 12).foldl (fun (m : Groups) g => if b.high &&& groupMask g ≠ 0 then m ||| (1 <<< g) else m) 0
  if s.quiet || 3 ≤ (s.lane l).calls then 0 else ~~~(groupBits b Group.isOut ||| high)

/-- A lane commands its switches and cut-offs at a Fix (R66, R327): `on` is what both the vote and the
lane have energised. Changes of the value in force are timed for R329. -/
def State.commandLane (s : State) (l : Lane) (on : Chans) : State :=
  let on := if s.quiet || 3 ≤ (s.lane l).calls then 0 else on &&& s.closable l
  let cut := s.cutoffCommand l
  s.modLane l fun r =>
    let b := r.board
    let changed := (List.range 96).filter fun i => b.cmdSwitches.getLsbD i != on.getLsbD i
    let b := (b.openCutoffs (~~~cut) s.now)
    { r with board := { b with
        cmdSwitches := on, cmdCutoffs := cut, changedAt := changed.foldl (fun k i => setKey k i s.now) b.changedAt } }

/-- An observation that marks channels INVALID in a lane (R333): its switches go off at the next frame. -/
def markChannels (m : Chans) (now : Time) (b : Board) : Board := { b.switchOff m now with marks := b.marks ||| m }

/-- A report of a channel's source by some lanes: FIELD_FAULT is set (R341). -/
def State.channelReport (s : State) (ch : Nat) (lanes : List Lane) (det : List Byte) : State :=
  { s with fio.fieldFault := true }.report (0x100 + ch) lanes det

/-- Likewise of a group's source. -/
def State.groupReport (s : State) (g : Nat) (lanes : List Lane) (det : List Byte) : State :=
  { s with fio.fieldFault := true }.report (0x160 + g) lanes det

/-! Frames over the barrier (R337 to R340) -/

def InFrame.bytes (f : InFrame) : List Byte :=
  [f.kind, f.status] ++ beBytes 2 f.counter.toNat ++ beBytes 12 f.debounced.toNat ++ beBytes 12 f.raw.toNat ++
    [f.supply] ++ beBytes 2 f.voltage.toNat ++ [f.reserved]

def OutFrame.bytes (f : OutFrame) : List Byte :=
  [f.kind, f.reserved1] ++ beBytes 2 f.counter.toNat ++ beBytes 12 f.switches.toNat ++ beBytes 2 f.cutoffs.toNat ++
    beBytes 2 f.reserved2.toNat

/-- The counter has advanced by 1 to 3 from the last valid frame; the first frame after a start or a
block reset has none before it. -/
def advanced (last : Option W16) (counter : W16) : Bool :=
  match last with
  | some c => counterIn 1 2 c counter
  | none => true

/-- A valid frame from the board (R339, R340). -/
def InFrame.valid (f : InFrame) (last : Option W16) : Bool :=
  f.kind = 0xA5 && f.reserved = 0 && f.status &&& 0xFC = 0 && f.supply &&& 0xE0 = 0 && f.supply.toNat % 16 < 12 &&
    f.check = crc32c f.bytes && advanced last f.counter

/-- A valid frame from the lane (R338, R340). -/
def OutFrame.valid (f : OutFrame) (last : Option W16) : Bool :=
  f.kind = 0x5A && f.reserved1 = 0 && f.reserved2 = 0 && f.cutoffs &&& 0xF000 = 0 && f.check = crc32c f.bytes &&
    advanced last f.counter

/-- A stale frame (R340): from the third in a row every channel is INVALID and 0x050 reports. -/
def State.staleFrame (s : State) (l : Lane) : State :=
  let s := s.modLane l fun r => { r with board.stale := min 255 (r.board.stale + 1) }
  if 3 ≤ (s.lane l).board.stale then s.note 0x050 [l] else s

/-- Samples of a valid frame; a channel whose raw sample differs from its debounced value is timed
(R323). -/
def takeSamples (f : InFrame) (now : Time) (b : Board) : Board :=
  let diff := f.raw ^^^ f.debounced
  { b with
    inCtr := some f.counter, stale := 0, status := f.status, raw := f.raw, debounced := f.debounced
    changing := ((List.range 96).filter fun i => diff.getLsbD i).map fun i => (i, lookupOr b.changing i now)
    lastDark := (((List.range 96).filter fun i => !f.raw.getLsbD i).map fun i => (i, now)) ++
      b.lastDark.filter fun x => f.raw.getLsbD x.1 }

/-- A feed sample (R335), in 10 mV: what it makes of the group and the code it reports. -/
def feedSample (v : Nat) (now : Time) (g : Group) : Group × Option Nat :=
  let g := { g with
    feed := v
    low192 := if v < 1920 then min 3 (g.low192 + 1) else 0
    low170 := if v < 1700 then min 3 (g.low170 + 1) else 0
    goodSince := if 1950 ≤ v then some (g.goodSince.getD now) else none }
  if g.low170 = 3 && g.state ≠ .sagged then ({ g with state := .sagged, saggedAt := some now }, some 0x18)
  else if g.low192 = 3 && g.state = .normal then ({ g with state := .warning }, some 0x17)
  else (g, none)

/-- A bus sample (R327): low three times running with the feed good and the cut-off commanded closed. -/
def busSample (v : Nat) (closed : Bool) (g : Group) : Group × Option Nat :=
  let low := v < 1700 && 1700 ≤ g.feed && closed
  let g := { g with bus := v, busRun := if low then min 3 (g.busRun + 1) else 0 }
  if g.busRun = 3 && !g.busLow then ({ g with busLow := true }, some 0x15) else (g, none)

/-- The supply measurement of a frame (R334, R335). -/
def State.supplySample (s : State) (l : Lane) (f : InFrame) : State :=
  let k := f.supply.toNat % 16
  let b := (s.lane l).board
  let g := (b.groups[k]?).getD {}
  let v := f.voltage.toNat
  let x := if bitOf f.supply.toNat 4 then busSample v (b.cmdCutoffs.getLsbD k) g else feedSample v s.now g
  let s := s.modLane l fun r => { r with board.groups := modifyNth r.board.groups k fun _ => x.1 }
  let s := if x.1.isOut then
      s.modLane l fun r => { r with
        board := (r.board.switchOff (groupMask k) s.now).openCutoffs (1 <<< k) s.now }
    else s
  match x.2 with
  | some code => s.groupReport k [l] (groupDetail code k x.1.feed x.1.bus)
  | none => s

/-- PAIRED_DROP at a module without the Lamp (R344): more than 300 us low on a channel that the holder
keeps energised. -/
def State.pairedDrop (s : State) (l : Lane) : State :=
  if s.paired && !s.holdsLamp then
    let b := (s.lane l).board
    let watch := (s.image.modeMask fun m => m = .paired) &&& s.pair.mirror.lastOut &&& ~~~b.raw &&& ~~~b.marks
    let drops := (b.changing.filter fun x => watch.getLsbD x.1 && x.2 + 300000 < s.now).map fun x => x.1
    drops.foldl (fun s ch =>
      (s.modLane l fun r => { r with board := markChannels (chBit ch) s.now r.board }).channelReport ch [l]
        (s.channelDetail 0x22 ch 0 0 0)) s
  else s

/-- Channels of the group whose slice lasts: their raw samples are discarded and their debounce is frozen
(R452). -/
def State.sliceMask (s : State) : Chans :=
  match s.test with
  | some r => if r.target = 2 && s.now < r.sliceEnd then groupMask (r.index - 1) else 0
  | none => 0

/-- A frame without what a slice discards. -/
def InFrame.masked (f : InFrame) (m : Chans) (b : Board) : InFrame :=
  { f with raw := (f.raw &&& ~~~m) ||| (b.raw &&& m), debounced := (f.debounced &&& ~~~m) ||| (b.debounced &&& m) }

/-- A frame whose check bits an injection has inverted is not valid; it uses up one check, whether or not the frame is
the third in a row (R387). -/
def State.invertedFrame (s : State) (l : Lane) : State :=
  let x := s.staleFrame l
  if x.flt.injection = s.flt.injection then x.useInjection else x

/-- The check of an inbound frame as a job of engine 2, in alive mode from the last valid counter (R464). -/
def InFrame.job (f : InFrame) (last : Option W16) : EngineJob :=
  { ctx := { EngineCtx.fresh 0 with mode := 2, lastAlive := last.getD (f.counter - 1), dMin := 1, dMax := 2, offset := 2 }
    bytes := f.bytes, check := f.check.setWidth 64 }

/-- The raw samples of a frame as the principal takes them, asynchronously (R47, R177). -/
def sampleFrame (f : InFrame) (r : LaneRec) : LaneRec :=
  sampleInput (BitVec.ofNat 64 (f.raw.toNat / 2 ^ 64)) (sampleInput (f.raw.setWidth 64) r)

/-- A frame arrives from the field board (R339, R340, R452, R464). -/
def State.inbound (s : State) (l : Lane) (f : InFrame) : State :=
  let s := s.issue l true true (f.job (s.lane l).board.inCtr)
  if s.injected 0x050 [l] then s.invertedFrame l
  else if f.valid (s.lane l).board.inCtr then
    let s := s.modLane l fun r => { sampleFrame f r with board := takeSamples (f.masked s.sliceMask r.board) s.now r.board }
    let s := if f.status &&& 3 ≠ 0 then s.note 0x051 [l] else s
    (s.supplySample l f).pairedDrop l
  else s.staleFrame l

/-- A frame arrives at the field board (R325, R338, R340). -/
def outbound (f : OutFrame) (now : Time) (b : Board) : Board :=
  if f.valid b.boardCtr then
    { b with boardCtr := some f.counter, switches := f.switches, cutoffs := f.cutoffs.setWidth 12, lastRx := some now }
  else b

/-- The board turns every switch off: no valid frame for 100 us (R44, R340). -/
def boardWatchdog (now : Time) (b : Board) : Board :=
  let silent := match b.lastRx with
    | some t => decide (t + 100000 ≤ now)
    | none => true
  if silent then { b with switches := 0, cutoffs := 0 } else b

/-- The frame that a lane sends next (R338). -/
def nextFrame (b : Board) : OutFrame :=
  let f : OutFrame := { counter := b.outCtr + 1, switches := b.cmdSwitches, cutoffs := b.cmdCutoffs.setWidth 16 }
  { f with check := crc32c f.bytes }

/-- A lane's frame leaves for its board. -/
def State.sendFrame (s : State) (l : Lane) : State :=
  let f := nextFrame (s.lane l).board
  (s.modLane l fun r => { r with board.outCtr := f.counter }).emit (.frame l f)

/-- The physical vote of the output bridge (R325): any path with both of its switches closed. -/
def bridge (a b c : Chans) : Chans := (a &&& b) ||| (b &&& c) ||| (c &&& a)

/-- Energised output channels at the terminals. -/
def State.terminals (s : State) : Chans := bridge s.laneA.board.switches s.laneB.board.switches s.laneC.board.switches

/-- Closed cut-offs (R327). -/
def State.closedCutoffs (s : State) : Groups :=
  let a := s.laneA.board.cutoffs
  let b := s.laneB.board.cutoffs
  let c := s.laneC.board.cutoffs
  (a &&& b) ||| (b &&& c) ||| (c &&& a)

/-- The debounced value of a channel changes: its raw sample has held throughout DEBOUNCE (R323). -/
def debounce (ns : Time) (ch : Nat) (now : Time) (b : Board) : Board :=
  match b.changing.find? fun x => x.1 = ch with
  | some x =>
    if x.2 + ns ≤ now then
      { b with debounced := if b.raw.getLsbD ch then b.debounced ||| chBit ch else b.debounced &&& ~~~(chBit ch),
               changing := b.changing.filter fun y => y.1 ≠ ch }
    else b
  | none => b

/-! Groups coming back or stuck -/

/-- 100 ms at 19.5 V or more (R335). -/
def recoverGroup (now : Time) (g : Group) : Group :=
  match g.goodSince with
  | some t => if t + ms 100 ≤ now then { g with state := .normal, saggedAt := none, low192 := 0, low170 := 0 } else g
  | none => g

def State.groupRecovery (s : State) (l : Lane) (g : Nat) : State :=
  s.modLane l fun r => { r with board.groups := modifyNth r.board.groups g (recoverGroup s.now) }

/-- CUTOFF_STUCK (R327): commanded open for 10 ms, and the bus still at 5.0 V or more. -/
def State.cutoffStuck (s : State) (l : Lane) (g : Nat) : State :=
  let b := (s.lane l).board
  let x := (b.groups[g]?).getD {}
  let long := match x.openedAt with
    | some t => decide (t + ms 10 ≤ s.now)
    | none => false
  if !b.cmdCutoffs.getLsbD g && long && 500 ≤ x.bus then
    (s.modLane l fun r => { r with board.groups := modifyNth r.board.groups g fun y => { y with stuck := true } }).groupReport
      g [l] (groupDetail 0x16 g x.feed x.bus)
  else s

/-- A group declared essential has been SAGGED for 100 ms in two lanes or more (R336). -/
def State.supplyLost (s : State) (g : Nat) : Bool :=
  2 ≤ (s.voting.filter fun l =>
    let x := ((s.lane l).board.groups[g]?).getD {}
    x.state = .sagged && match x.saggedAt with
      | some t => decide (t + ms 100 ≤ s.now)
      | none => false).length

/-- Some group declared essential has lost its field supply (R357, R363). -/
def State.essentialLost (s : State) : Bool :=
  (List.range 12).any fun g => s.ps.essential.getLsbD g && s.supplyLost g

/-! The freeze: readback (R329) and paired outputs (R344) -/

/-- The value in force for a lane's channels: the last Fix, or off where R326 has switched it off since. -/
def State.inForce (s : State) (l : Lane) : Chans :=
  if s.quiet then 0 else s.cyc.outputs &&& s.closable l

/-- Readback comparison of one channel at a freeze. -/
def State.readback (s : State) (l : Lane) (ch : Nat) : State :=
  let b := (s.lane l).board
  let on := (s.inForce l).getLsbD ch
  let settled := match b.changedAt.find? fun x => x.1 = ch with
    | some x => decide (x.2 + s.image.debounceNs ch + ms 1 ≤ s.now)
    | none => true
  if settled && b.debounced.getLsbD ch != on then
    let m := chBit ch
    let s := s.modLane l fun r =>
      let b := markChannels m s.now r.board
      { r with board := if on then b else ({ b with high := b.high ||| m }).openCutoffs (1 <<< (ch / 8)) s.now }
    s.channelReport ch [l] (s.channelDetail (if on then 0x10 else 0x11) ch 0 0 0)
  else s

/-- Comparison of every channel that the lane judges (R329), but for one whose debounce restarts and
while the lane's crossing is silent or being reset. -/
def State.readbackAll (s : State) (l : Lane) : State :=
  let blind := 3 ≤ (s.lane l).board.stale || (s.shadowMask l).getLsbD 0x100
  let m := if blind then 0 else s.commandable &&& ~~~(s.restartMask l)
  ((List.range 96).filter fun ch => m.getLsbD ch).foldl (fun s ch => s.readback l ch) s

/-- PAIRED_MISMATCH at a module without the Lamp (R344). -/
def State.pairedCheck (s : State) (l : Lane) : State :=
  if s.paired && !s.holdsLamp && s.pair.mirror.committed.isSome then
    let m := (s.image.modeMask fun x => x = .paired) &&& ~~~(s.invalidMask l)
    ((List.range 96).filter fun ch => m.getLsbD ch).foldl (fun s ch =>
      let b := (s.lane l).board
      if b.debounced.getLsbD ch != s.pair.mirror.lastOut.getLsbD ch then
        let n := lookupOr b.mismatch ch 0 + 1
        let s := s.modLane l fun r => { r with board.mismatch := setKey r.board.mismatch ch (min 3 n) }
        if 3 ≤ n then
          (s.modLane l fun r => { r with board := markChannels (chBit ch) s.now r.board }).channelReport ch [l]
            (s.channelDetail 0x20 ch 0 0 0)
        else s
      else s.modLane l fun r => { r with board.mismatch := r.board.mismatch.filter fun x => x.1 ≠ ch }) s
  else s

/-- PAIRED_NO_DARK (R344): no de-energised raw sample in 4,000 ms on a channel that the holder keeps on. -/
def State.pairedNoDark (s : State) (l : Lane) (ch : Nat) : State :=
  let b := (s.lane l).board
  let quietFor := match b.lastDark.find? fun x => x.1 = ch with
    | some x => decide (x.2 + ms 4000 ≤ s.now)
    | none => decide (ms 4000 ≤ s.now)
  if s.paired && !s.holdsLamp && (s.image.channel ch).mode = .paired && s.pair.mirror.lastOut.getLsbD ch &&
      b.raw.getLsbD ch && quietFor then
    (s.modLane l fun r => { r with board := markChannels (chBit ch) s.now r.board }).channelReport ch [l]
      (s.channelDetail 0x21 ch 0 0 0)
  else s

/-! Dark Pulses (R330 to R333) -/

/-- Slots of a cycle: ceil(96 / floor(2,000 ms / P)) (R330). -/
def State.pulseSlots (s : State) : Nat :=
  let n := 2000 / s.cs.p
  if n = 0 then 96 else (96 + n - 1) / n

/-- Channels eligible for a pulse (R330). -/
def State.pulsable (s : State) : Chans :=
  s.commandable &&& s.fio.prevOutputs &&& s.cyc.outputs &&& s.cyc.cons.values &&& ~~~s.cyc.cons.invalid

/-- The next eligible channel after the last one pulsed, with wrap. -/
def State.pulseNext (s : State) : Option Nat :=
  let m := s.pulsable
  ((List.range 96).map fun k => (s.fio.pulseLast + 1 + k) % 96).find? fun ch => m.getLsbD ch

/-- What a dark pair tests: its code, the switches that must open and those of the path that must close,
bit 0 SA1 to bit 5 SC2 (R325, R331). -/
structure DarkPair where
  code : Nat
  open_ : Nat
  path : Nat
  lanes : List Lane
  deriving DecidableEq, Repr

def darkPair : Nat → DarkPair
  | 0 => { code := 1, open_ := 0x0A, path := 0x22, lanes := [.a, .b] }
  | 1 => { code := 2, open_ := 0x24, path := 0x05, lanes := [.b, .c] }
  | _ => { code := 3, open_ := 0x11, path := 0x18, lanes := [.c, .a] }

/-- The switch of a lane in the path that joins it to another (R325). -/
def pathSwitch (l other : Lane) : Nat :=
  match l, other with
  | .a, .b => 0x01
  | .a, .c => 0x02
  | .b, .a => 0x04
  | .b, .c => 0x08
  | .c, .b => 0x10
  | .c, .a => 0x20
  | _, _ => 0

/-- Marks channels in some lanes. -/
def State.markIn (s : State) (m : Chans) (lanes : List Lane) : State :=
  lanes.foldl (fun s l => s.modLane l fun r => { r with board := markChannels m s.now r.board }) s

/-- The verdicts of one pulse (R331 to R333); `full` with three lanes in VOTING. -/
def State.judgePulse (s : State) (ch : Nat) (full : Bool) (code cand path : Nat) (x : Lane → PulseSamples) : State :=
  let voting := s.voting
  let failed := voting.filter fun l => (x l).darkHigh
  let broken := if full then voting.filter fun l => (x l).pathLow else []
  let watched := (s.image.modeMask fun m => m = .output || m = .paired) &&& ~~~s.cyc.outputs
  let s := if failed.isEmpty then s else
    (s.markIn (chBit ch) failed).channelReport ch failed (s.channelDetail 0x12 ch code cand 0)
  let s := if broken.isEmpty then s else s.channelReport ch broken (s.channelDetail 0x13 ch code path 0)
  (List.range 96).foldl (fun s j =>
    let seen := voting.filter fun l => ((x l).fell &&& watched).getLsbD j && (s.lane l).board.debounced.getLsbD j
    if seen.isEmpty || j = ch then s
    else
      let s := s.markIn (chBit ch ||| chBit j) seen
      (s.channelReport j seen (s.channelDetail 0x14 j code 0 (ch + 1))).channelReport ch seen
        (s.channelDetail 0x14 ch code 0 (j + 1))) s

/-- A pulse reference time is reached (R330): slot k is pulsed if a channel is eligible and two lanes
vote. -/
def State.darkPulse (s : State) (slot : Nat) (x : Lane → PulseSamples) : State :=
  match s.fio.pulseFrom, s.pulseNext with
  | some t0, some ch =>
    if slot < s.pulseSlots && t0 + 100000 + 400000 * slot ≤ s.now && 2 ≤ s.votes then
      let k := lookupOr s.fio.pulsePair ch 0
      let s := { s with fio.pulseLast := ch, fio.pulsePair := setKey s.fio.pulsePair ch ((k + 1) % 6) }
      let s := if ch < 32 then s.tally (32 + ch) Lane.all else s
      if s.votes = 3 then
        let p := darkPair (k % 3)
        s.judgePulse ch true p.code p.open_ p.path x
      else
        match s.voting with
        | [u, v] => s.judgePulse ch false 0 (if k % 2 = 0 then pathSwitch u v else pathSwitch v u) 0 x
        | _ => s
    else s
  | _, _ => s

/-! Clearing (R327, R333, R341, R386) -/

/-- The cause of a channel's source persists in a lane: the readback does not agree with what is in force. -/
def State.channelCause (s : State) (l : Lane) (ch : Nat) : Bool :=
  let b := (s.lane l).board
  let want := if (s.image.channel ch).mode = .paired && !s.holdsLamp then s.pair.mirror.lastOut.getLsbD ch
    else (s.inForce l).getLsbD ch
  (s.image.usedMask).getLsbD ch && b.debounced.getLsbD ch != want

/-- The cause of a group's source persists in a lane. -/
def State.groupCause (s : State) (l : Lane) (g : Nat) : Bool :=
  let b := (s.lane l).board
  let x := (b.groups[g]?).getD {}
  x.state ≠ .normal || (x.busLow && x.feed < 1700) || (x.stuck && !b.cmdCutoffs.getLsbD g && 500 ≤ x.bus)

/-- What FAULT_CLEAR undoes on a lane's board for the sources it clears. -/
def clearBoard (cleared : Sources) (b : Board) : Board :=
  let chans : Chans := (cleared >>> 0x100).setWidth 96
  { b with
    marks := b.marks &&& ~~~chans, high := b.high &&& ~~~chans
    mismatch := b.mismatch.filter fun x => !chans.getLsbD x.1
    groups := b.groups.zipIdx.map fun x =>
      if cleared.getLsbD (0x160 + x.2) then { x.1 with busLow := false, stuck := false, busRun := 0 } else x.1 }

/-- A cause of FIELD_FAULT stands (R341). -/
def State.fieldCause (s : State) : Bool :=
  s.voting.any fun l =>
    let r := s.lane l
    s.invalidMask l ≠ 0 || r.board.marks ≠ 0 ||
      r.board.groups.any (fun g => g.state ≠ .normal || g.busLow || g.stuck) ||
      r.bath.sticky &&& (rangeMask 0x100 96 ||| rangeMask 0x160 12) ≠ 0

/-! Logic switch (R322) -/

/-- A lane's board under a new channel table. -/
def switchChannels (old new : Image) (now : Time) (b : Board) : Board :=
  (List.range 96).foldl (fun b ch =>
    let o := old.channel ch
    let n := new.channel ch
    if o = n then b
    else
      let off := (o.mode = .output || o.mode = .paired) && !(n.mode = .output || n.mode = .paired)
      let b := if off then b.switchOff (chBit ch) now else b
      { b with
        restarting := setKey b.restarting ch now
        changing := b.changing.filter fun x => x.1 ≠ ch
        mismatch := b.mismatch.filter fun x => x.1 ≠ ch }) b

/-! Safelight (R383) -/

/-- A readback still energised 10 ms after every lane in VOTING has commanded it off. -/
def State.safeStateNotReached (s : State) (l : Lane) (ch : Nat) : State :=
  let b := (s.lane l).board
  let bus := ((b.groups[ch / 8]?).getD {}).bus
  if s.flt.safelight.on && s.flt.safelight.since + ms 10 ≤ s.now && (s.image.channel ch).mode = .output &&
      (b.raw.getLsbD ch || 500 ≤ bus) && (s.voting.all fun k => (s.lane k).board.cmdSwitches = 0) then
    s.report 0x16C [l] (s.channelDetail 0 ch 0 0 0)
  else s

end Sys2Proof.Machine
end

