-- ==== Sys2Proof/Machine/Diagnostics.lean ====
section
/-! DEFINITION. NEGATIVE_READ (R271), FAULT_CLEAR and the LOCKOUT release (R274, R386), FAULT_INJECT
(R275, R387). -/

namespace Sys2Proof.Machine

/-! NEGATIVE_READ -/

/-- Records that a bank holds, the pinned area and the ring merged by number. -/
def Bank.held (b : Bank) : List Record :=
  (b.pinned ++ b.ring).foldr (insertBy fun x y => x.number.toNat ≤ y.number.toNat) []

/-- Records of a bank whose own check is right (R271, R390). -/
def Bank.sound (b : Bank) : List Record := b.held.filter fun r => !b.torn.contains r.number

/-- The records that a read sees: one bank as it is, or the first with the second in place of what it lacks or what fails its
check (R271). -/
def State.readBanks (s : State) (bank : Nat) : List Record :=
  let one := if bank = 0 then s.neg.bank1.sound else s.neg.bank1.held
  let two := if bank = 0 then s.neg.bank2.sound else s.neg.bank2.held
  if bank = 1 then one
  else if bank = 2 then two
  else (one ++ two.filter fun r => !one.any fun q => q.number = r.number).foldr
    (insertBy fun x y => x.number.toNat ≤ y.number.toNat) []

/-- Bank that a reply names (R271). -/
def State.bankRead (s : State) (bank : Nat) (l : List Record) : Nat :=
  if bank ≠ 0 then bank
  else match l with
    | r :: _ => if s.neg.bank1.sound.any fun q => q.number = r.number then 1 else 2
    | [] => 1

/-- Mode 0x00: records from a number on that match the filter. -/
def State.negativeRecords (s : State) (bank count filter number : Nat) : List Byte :=
  let l := ((s.readBanks bank).filter fun r => number ≤ r.number.toNat && (!bitOf filter 0 || r.pinned) &&
    bitsOf filter 3 1 ≤ r.level).take count
  beBytes 4 (l.head?.elim 0 fun r => r.number.toNat) ++
    [BitVec.ofNat 8 l.length, BitVec.ofNat 8 (s.bankRead bank l), 0, 0] ++ l.flatMap recordBytes

/-- The first chain head block, still held, whose head is at or after a record. -/
def State.headBlock (s : State) (bank number : Nat) : Option (W32 × Hash) :=
  let held := s.readBanks bank
  s.neg.blocks.find? fun b => number ≤ b.1.toNat && held.any fun r => r.number = b.1 + 1 && r.kind = 0x0F

/-- Mode 0x01: one part of a chain head block. -/
def State.negativeHead (s : State) (bank part number : Nat) : List Byte :=
  match s.headBlock bank number with
  | some b =>
    let block := beBytes 4 b.1.toNat ++ beBytes 32 b.2.toNat ++ padTo 2420 (Config.signature b.1 b.2)
    beBytes 4 b.1.toNat ++ [BitVec.ofNat 8 (part + 1), if bank = 2 then 2 else 1, 0, 0] ++
      (block.drop (1000 * part)).take 1000
  | none => [0, 0, 0, 0, 0, if bank = 2 then 2 else 1, 0, 0]

def State.negativeBody (s : State) (e : Entry) : List Byte :=
  let n := fieldAt e.payload 4 4
  if e.byte 0 = 0 then s.negativeRecords (e.byte 1) (e.byte 2) (e.byte 3) n else s.negativeHead (e.byte 1) (e.byte 2) n

/-- NEGATIVE_READ (R271). -/
def State.negativeRead (s : State) (e : Entry) : State := s.done e (s.negativeBody e)

/-! FAULT_CLEAR -/

/-- Sources whose cause is a condition outside the lanes (R386). -/
def State.moduleCauses (s : State) : List (Nat × Bool) :=
  let bad := s.dies.archiveBad
  [ (0x070, decide (s.votes < 2)), (0x075, s.v.sync.lost), (0x1C0, s.dies.kFaulted),
    (0x1C2, s.dies.bootUnread || bad.any fun x => x.1 = 5), (0x1D2, s.v.power.lowSupply), (0x1D3, !s.v.power.feedA), (0x1D4, !s.v.power.feedB),
    (0x1E0, !bad.isEmpty), (0x1E1, bad.any fun x => bad.contains (x.1, 3 - x.2)), (0x1E3, s.neg.closed),
    (0x1F1, decide (s.v.strap = 3)), (0x1F2, decide (s.pair.epochKnown = 0xFFFFFFFF)), (0x1F3, s.pair.mirror.ownPositionNow) ]

/-- The sources whose cause persists in a lane (R386). -/
def State.causes (s : State) (l : Lane) : Sources :=
  let r := s.lane l
  let low := r.pi.toNat < 64
  let own : List (Nat × Bool) :=
    [ (0x020, low && 0 < r.piLow), (0x021, low && 3 ≤ r.piLow), (0x022, r.bath.reporting.getLsbD 0x022),
      (0x023, r.bath.reporting.getLsbD 0x023), (0x050, 3 ≤ r.board.stale), (0x051, r.board.status &&& 3 ≠ 0),
      (0x16C, s.flt.safelight.on && (s.image.modeMask fun m => m = .output) &&& r.board.raw ≠ 0) ]
  let chans := (List.range 96).map fun ch => (0x100 + ch, s.channelCause l ch)
  let groups := (List.range 12).map fun g => (0x160 + g, s.groupCause l g)
  (own ++ s.moduleCauses ++ chans ++ groups).foldl (fun m x => if x.2 then m ||| srcBit x.1 else m) 0

/-- Number of bits set. -/
def countBits (m : Sources) : Nat := ((List.range 512).filter fun n => m.getLsbD n).length

/-- Bits cleared and left set in a lane. -/
def State.clearIn (s : State) (named : Sources) (l : Lane) : Sources × Sources :=
  let m := (s.lane l).bath.sticky &&& named
  (m &&& ~~~(s.causes l), m &&& s.causes l)

/-- A Stop Bath with bits cleared, and the level that the lane still calls for (R373, R384). -/
def clearBath (m : Sources) (r : LaneRec) : LaneRec :=
  let levels := r.bath.levels.filter fun x => !m.getLsbD x.1
  let call := levels.foldl (fun a x => max a x.2) 0
  { r with
    bath := { r.bath with sticky := r.bath.sticky &&& ~~~m, shadowed := r.bath.shadowed &&& ~~~m, levels := levels }
    calls := if call < 3 then 0 else min r.calls call
    board := clearBoard m r.board }

/-- Restart conditions of R203, the count and the age aside. -/
def State.restartable (s : State) (l : Lane) : Bool :=
  2 ≤ ((s.voting.filter fun k => k ≠ l).length) && (Lane.chans l).all (fun c => !(s.chan c).faulted) &&
    !(s.causes l).getLsbD (s.lane l).cause.toNat && s.kWorks

/-- V holds the lane in reset and K loads it again (R199, R203). PI reads 0 until its first sample after that (DESIGN CHOICE,
log 125). -/
def restartLane (r : LaneRec) : LaneRec :=
  { r with phase := .loading, counters := List.replicate 32 {}, joined := false, fwHash := none, logicHash := none,
           latent := [], retired := 0, sram := [], scan := 0, caches := [], leaseAt := none, engine1 := {}, engine2 := {}, refFirmware := none, refLogic := none,
           board := { groups := List.replicate 12 {} }, pi := 0, piLow := 0, lateDue := false }

/-- What source 0xFFFF resets as well (R274, R283, R201). -/
def State.clearAll (s : State) : State :=
  let s := { s with cyc.skipTotal := 0, cyc.unmirroredTotal := 0, v.sync.outOfWindow := 0 }
  let s := s.modLanes fun _ r => { r with piMin := 0xFF, tardyTotal := 0 }
  Lane.all.foldl (fun s l =>
    if (s.lane l).phase = .barred && s.restartable l then s.modLane l restartLane else s) s

/-- The sources that a FAULT_CLEAR names. -/
def namedSources (n : Nat) : Sources := if n = 0xFFFF then ~~~0 else srcBit n

/-- A faulted channel whose source is cleared is used again (R27, R386). -/
def State.clearChannel (s : State) (cleared : Sources) (n : Nat) (ch : Chan) : State :=
  if cleared.getLsbD n then s.modChan ch fun c => { c with faulted := false, run := 0 } else s

/-- Channels, the mirror and FIELD_FAULT after sources are cleared (R27, R341, R353, R386). -/
def State.clearUnits (s : State) (named cleared left : Sources) : State :=
  let s := ((s.clearChannel cleared 0x063 .ab).clearChannel cleared 0x064 .bc).clearChannel cleared 0x065 .ca
  let s := if named.getLsbD 0x1F0 && !left.getLsbD 0x1F0 then
      { s with pair.mirror.stopped := false, pair.mirror.mismatches := [] }
    else s
  let io := rangeMask 0x100 96 ||| rangeMask 0x160 12 ||| rangeMask 0x050 2
  if named &&& io ≠ 0 then { s with fio.fieldFault := s.fio.fieldFault && s.fieldCause } else s

/-- FAULT_CLEAR at the Fix of its cut or a release (R274, R386). -/
def State.clearFaults (s : State) (e : Entry) (release : Bool) : State :=
  let n := fieldAt e.payload 0 2
  let named := namedSources n
  let found := Lane.all.map fun l => (l, s.clearIn named l)
  let cleared := found.foldl (fun m x => m ||| x.2.1) 0
  let left := found.foldl (fun m x => m ||| x.2.2) 0
  let num := fun (f : Sources × Sources → Sources) => found.foldl (fun a x => a + countBits (f x.2)) 0
  let s := (found.foldl (fun s x => s.modLane x.1 (clearBath x.2.1)) s).clearUnits named cleared left
  let s := if n = 0xFFFF then s.clearAll else s
  let s := if release then { s with flt.safelight.lockout := false, flt.persistent.lockout := false }.storeLamp else s
  let s := s.record { kind := 6, lanes := laneMask s.voting,
                      detail := beBytes 64 cleared.toNat ++ beBytes 64 left.toNat ++ [if release then 1 else 0] }
  s.done e (beBytes 2 (num fun x => x.1) ++ beBytes 2 (num fun x => x.2))

/-- The release flag is permitted (R274). -/
def State.mayRelease (s : State) (e : Entry) : Bool :=
  ((s.session? e.sid).elim false fun x => decide (x.pclass = 3)) && s.flt.safelight.lockout &&
    decide (s.flt.persistent.lockoutBoot.toNat < s.upd.boot.bootCount.toNat)

def State.faultClear (s : State) (e : Entry) : State :=
  if bitOf (e.byte 2) 0 then if s.mayRelease e then s.clearFaults e true else s.refuse e 0x13 noDetail
  else s.clearFaults e false

/-! FAULT_INJECT -/

/-- FAULT_INJECT at the Fix of its cut (R275, R387); `first`: the FAULT_INJECT of the cut that arms one, to which a later one in
admission sequence gives way (R245). -/
def State.faultInject (s : State) (e : Entry) (first : Option W32) : State :=
  let n := fieldAt e.payload 0 2
  if s.cyc.armed then s.refuse e 0x10 noDetail
  else if !injectable.getLsbD n then s.refuse e 0x21 (detail 4 0 n)
  else match first.filter fun a => serialLt a e.adm with
    | some a => s.refuse e 0x20 (detail 7 0 0 0 a.toNat)
    | none =>
      let j : Injection := { source := n, lane := BitVec.ofNat 8 (e.byte 2), left := e.byte 3, at_ := s.now }
      ({ s with flt.injection := some j }.injectRecord j 0x01).done e []

/-- 60 s have passed since arming (R387). -/
def State.disarm (s : State) : State :=
  match s.flt.injection with
  | some j =>
    if j.at_ + ms 60000 ≤ s.now || j.left = 0 ||
        !(s.trust.cfg.lifecycle = .commissioning || s.trust.cfg.lifecycle = .maintenance) then
      { s with flt.injection := none }.injectRecord j 0x02
    else s
  | none => s

end Sys2Proof.Machine
end

