-- ==== Sys2Proof/Machine/Restart.lean ====
section
/-! DEFINITION. What a start keeps (R481), the boot record and the trial rules (R426, R439, R445), and the
Lamp epoch (R356, R368). -/

namespace Sys2Proof.Machine

/-! The boot record -/

/-- A write of the boot record, both copies (R426, R427). -/
def State.bootWrite (s : State) (f : Boot → Boot) : State :=
  { s with upd.boot := let b := f s.upd.boot; { b with generation := b.generation + 1 } }.storeBoot

def State.slot (s : State) (n : Bool) : Slot := if n then s.upd.slot1 else s.upd.slot0

def State.modSlot (s : State) (n : Bool) (f : Slot → Slot) : State :=
  if n then { s with upd.slot1 := f s.upd.slot1 } else { s with upd.slot0 := f s.upd.slot0 }

def slotCode (n : Bool) : Byte := if n then 1 else 0

/-- Checks 2 to 5 of R428 on a stored image, as at a start (R425, R439). -/
def Boot.accepts (b : Boot) (i : FwImage) : Bool :=
  i.certOk && b.keyFloor ≤ i.keySerial && i.vendorOk && b.secFloor ≤ i.security && i.minIssue.toNat ≤ Config.issue.toNat

/-- A slot that K may load; the factory's own image has no header on record here. -/
def State.loadable (s : State) (n : Bool) : Bool :=
  match (s.slot n).image with
  | some i => s.upd.boot.accepts i
  | none => true

/-- Falling back from the trial slot (R439, R444). -/
def State.fallBackFrom (s : State) (n : Bool) (cause : Byte) : State :=
  let s := s.modSlot n fun x => { x with state := .rejected }
  (s.bootWrite fun b => { b with trial := none, starts := 0, trialHash := 0, conversionFailed := false, fallback := false }).event
    0x020A [slotCode n, cause]

/-- The choice of a slot at a start (R439): true where the committed slot is the one to load. -/
def State.chooseSlot (s : State) : State :=
  match s.upd.boot.trial with
  | none => s
  | some n =>
    let b := s.upd.boot
    if b.conversionFailed then s.fallBackFrom n 0x02
    else if b.fallback then s.fallBackFrom n 0x04
    else if 3 ≤ b.starts then s.fallBackFrom n 0x01
    else
      let s := s.bootWrite fun b => { b with starts := b.starts + 1 }
      if s.loadable n then
        (s.modSlot n fun x => { x with state := .trial }).event 0x0208 [slotCode n, BitVec.ofNat 8 s.upd.boot.starts]
      else s.fallBackFrom n 0x03

/-- A schedule whose time has passed is cleared, once PTP time tells (R445). -/
def State.judgeSchedule (s : State) : State :=
  match s.upd.unjudged, s.upd.boot.activation, s.ptpTime with
  | true, some (t, _), some now =>
    let s := { s with upd.unjudged := false }
    if t.toNat ≤ now.toNat then (s.bootWrite fun b => { b with activation := none }).event 0x0207 [0] else s
  | _, _, _ => s

/-! What a start keeps (R481) -/

/-- A slot across a start: a partial image is discarded, a complete one still to be checked stays
(R429, R445). -/
def Slot.afterStart (x : Slot) : Slot :=
  if x.state = .loading && !(x.held = x.transfer && x.transfer ≠ 0) then { x with state := .empty, held := 0, bytes := [], holder := 0, verifying := none }
  else { x with holder := 0, verifying := none }

/-- A bank in LOADING becomes EMPTY (R166). -/
def LogicBank.afterStart (x : LogicBank) : LogicBank :=
  if x.state = .loading then {} else { x with verifying := none }

def PortRec.afterStart (x : PortRec) : PortRec := { refusedSfp := x.refusedSfp }

/-- Every die in reset: what is left is what the archive, the straps, the connectors and the supplies
hold (R481). -/
def State.resetDies (s : State) (phase : PowerPhase) : State :=
  let b := s.logic
  let u := s.upd
  { pending := s.pending
    now := s.now
    outbox := s.outbox
    freeCtr := s.freeCtr
    v := { power := { s.v.power with phase := phase, lossAt := none, loadedAt := none }, strap := s.v.strap,
           ppIn := s.v.ppIn, ppOut := s.v.ppOut }
    dies := { archiveBad := s.dies.archiveBad }
    m := s.m
    cyc := { settings := { s.cyc.settings with
      cycle := s.cyc.cycleDue.getD s.cs, pair := s.cyc.pairDue.getD s.ps } }
    net := { links := s.net.links.map fun k => { port := k.port.afterStart, downSince := some s.now },
             hostPorts := s.net.hostPorts.map PortRec.afterStart,
             mirrorPorts := s.net.mirrorPorts.map PortRec.afterStart }
    logic := { bank0 := b.bank0.afterStart, bank1 := b.bank1.afterStart, activeBank := b.activeBank }
    pair := { epochKnown := s.flt.persistent.epoch }
    flt := { persistent := s.flt.persistent }
    neg := { s.neg with queue := [], repeats := [], reasons := [], tokens := 1024, refill := s.now }
    trust := { cfg := s.trust.cfg, erased := s.trust.erased, due := s.trust.due }
    upd := { boot := u.boot, slot0 := u.slot0.afterStart, slot1 := u.slot1.afterStart,
             print0 := { begun := u.print0.begun }, print1 := { begun := u.print1.begun } } }

/-! The Lamp epoch -/

/-- The module takes a new epoch, written to both copies in M (R43, R356); one that knows 0xFFFF_FFFF
takes none. -/
def State.raiseEpoch (s : State) : State :=
  if s.pair.epochKnown = 0xFFFFFFFF then s.note 0x1F2 Lane.all
  else
    let e := s.pair.epochKnown + 1
    { s with pair.epochKnown := e, pair.epochOwn := e, flt.persistent.epoch := e }.storeLamp.wantSignature 8

/-- The largest approach release time among the routes, in ms; 0 without routes (R360). -/
def Image.settleMs (i : Image) : Nat := i.routes.foldl (fun m d => max m d.approachMs) 0

/-- Restrictions of the settle period begin: the end of the period and the hold on every crossing (R360,
R480). -/
def Rail.beginSettle (r : Rail) (fin : Ticks) : Rail :=
  { r with
    settleEnd := some (max fin (r.settleEnd.getD 0))
    objs := r.objs.map fun o => match o.body with
      | .crossing c => { o with body := .crossing { c with hold := .untilReport, closeReq := true } }
      | _ => o }

/-- The settle period ends (R360, R480). -/
def State.endSettle (s : State) : State :=
  match s.rail.settleEnd with
  | some t => if t ≤ max s.rail.time s.cyc.cons.time then { s with rail.settleEnd := none } else s
  | none => s

end Sys2Proof.Machine
end

