-- ==== Sys2Proof/Machine/Update.lean ====
section
/-! DEFINITION. Contact printing: offers and their checks (R276, R428, R429), printing onward (R430 to
R432), schedules and activation (R277, R434 to R437), trial, confirmation and conversion (R278, R439 to
R444). -/

namespace Sys2Proof.Machine

/-! Offers (R276, R429) -/

/-- The last part of a checked image comes again, with data equal to the bytes held (R429, R445). -/
def repeatsLast (last : List Byte) (transfer : Nat) (off : Nat) (data : List Byte) : Bool :=
  off + data.length = transfer && data = last

/-- No part for 600 s: the partial image is discarded (R429). -/
def State.discardPartial (s : State) : State :=
  let x := s.offerSlot
  if x.state = .loading && x.verifying.isNone && x.lastAt + ms 600000 ≤ s.now then s.modOfferSlot fun _ => {} else s

/-- First check of R428 that an image fails; 0 where it passes all. -/
def State.imageCheck (s : State) (i : FwImage) : Nat :=
  let b := s.upd.boot
  let lc := s.trust.cfg.lifecycle
  let claimed := lc ≠ .provisioned
  if !i.headerOk || s.offerSlot.transfer ≠ i.length + (if claimed then 2424 else 0) || (claimed && !i.blockOk) then 1
  else if !i.certOk then 2
  else if i.keySerial < b.keyFloor then 3
  else if !i.vendorOk then 4
  else if i.security < b.secFloor || Config.issue.toNat < i.minIssue.toNat then 5
  else if claimed && !s.trust.cfg.roster.any (fun h => h.index = i.signer && (h.role = 3 || h.role = 4) &&
      Config.verifies h.key i.hash i.counterSign) then 6
  else 0

/-- The slot number that an offer fills. -/
def State.offerNo (s : State) : Bool := !s.upd.running

/-- Printing marks of the boot record (R426): two bits per downstream entry. -/
def Boot.print (b : Boot) (k : Nat) : Nat := bitsOf b.printing.toNat (2 * k + 1) (2 * k)

def Boot.withPrint (b : Boot) (k v : Nat) : Boot :=
  { b with printing := BitVec.ofNat 4 (if k = 0 then b.print 1 * 4 + v else v * 4 + b.print 0) }

def State.printing (s : State) (k : Nat) : Printing := if k = 0 then s.upd.print0 else s.upd.print1

def State.modPrinting (s : State) (k : Nat) (f : Printing → Printing) : State :=
  if k = 0 then { s with upd.print0 := f s.upd.print0 } else { s with upd.print1 := f s.upd.print1 }

/-- Printing to an entry is due and its node is in the seal (R430). -/
def State.printDue (s : State) (k : Nat) : Bool :=
  s.upd.boot.print k = 1 && (s.trust.cfg.downstream[k]?).isSome && s.offerSlot.state = .verified

/-- The opening of a printing session (R431): K carries at most 4 openings (R222). -/
def State.beginPrint (s : State) (k : Nat) : State :=
  if s.printDue k && (s.printing k).phase = 0 then
    if 4 ≤ s.openCount then s.modPrinting k fun x => { x with lastTry := s.now }
    else (s.modPrinting k fun x =>
      { x with phase := 1, next := 0, unanswered := 0, again := [], lastTry := s.now }).emit (.printOpen1 k)
  else s

/-- Printing of a freshly verified image begins to every downstream entry (R430). -/
def State.startPrinting (s : State) : State :=
  (List.range s.trust.cfg.downstream.length).foldl (fun s k =>
    ((s.bootWrite fun b => b.withPrint k 1).modPrinting k fun _ => { begun := s.now }).beginPrint k) s

/-- K has checked a complete image in a slot (R428), which is not the one that runs (R425). -/
def State.firmwareVerified (s : State) (slot : Bool) : State :=
  let x := s.offerSlot
  let i := fwImage x.bytes
  if slot = s.upd.running || x.state ≠ .loading || x.held ≠ x.transfer || x.transfer = 0 then s
  else
    let answer := fun (s : State) (st : Byte) (det : List Byte) => match x.verifying with
      | some e => if e.done then s else if st = 0 then s.done e (beBytes 4 x.held) else s.refuse e st det
      | none => s
    let bad := s.imageCheck i
    if bad = 0 then
      let s := s.modOfferSlot fun x => { x with state := .verified, image := some i, verifying := none }
      let s := s.event 0x0201 ([slotCode s.offerNo] ++ beBytes 32 i.hash.toNat)
      (answer s 0x00 []).startPrinting
    else
      let n := s.nextRecordNumber
      let s := s.modOfferSlot fun x => { x with state := .rejected, image := some i, verifying := none }
      answer (s.event 0x0202 [slotCode s.offerNo, BitVec.ofNat 8 bad]) 0x34 (detail 8 0 0 0 n.toNat)

/-! Printing (R430 to R432) -/

def State.printNode (s : State) (k : Nat) : Node := ((s.trust.cfg.downstream[k]?).getD (0, 0)).1

def printData (k : Nat) (n : Node) : List Byte := BitVec.ofNat 8 k :: beBytes 3 n.toNat

/-- Printing to an entry ends with a mark; its session closes (R431, R432). -/
def State.endPrint (s : State) (k mark : Nat) : State :=
  let open_ := 3 ≤ (s.printing k).phase
  let seq := (s.printing k).seq
  let s := (s.bootWrite fun b => b.withPrint k mark).modPrinting k fun _ => {}
  if open_ then s.emit (.printClose k (seq + 1)) else s

/-- A refusal ends printing (R432). -/
def State.refusePrint (s : State) (k : Nat) (status : Byte) : State :=
  (s.event 0x0204 (printData k (s.printNode k) ++ [status])).endPrint k 3

/-- The session cannot be opened or closes before the end: due again, one record in 60 s (R432). -/
def State.failPrint (s : State) (k : Nat) : State :=
  let silent := match (s.printing k).recordAt with
    | some t => decide (s.now < t + ms 60000)
    | none => false
  let s := if silent then s
    else (s.event 0x0205 (printData k (s.printNode k))).modPrinting k fun x => { x with recordAt := some s.now }
  s.modPrinting k fun x => { x with phase := 0, next := 0, unanswered := 0, again := [], lastTry := s.now }

/-- A part leaves under the next sequence number of its session (R276, R431). -/
def State.sendPart (s : State) (k off : Nat) : State :=
  let x := s.printing k
  let payload := beBytes 4 off ++ beBytes 4 s.offerSlot.transfer ++ slice s.offerSlot.bytes off 1016
  (s.modPrinting k fun x => { x with seq := x.seq + 1 }).emit (.printPart k (x.seq + 1) 4 x.tray payload)

/-- Sends parts while the window of 64 has room (R431); `fuel` bounds the parts sent now. -/
def State.sendParts (k : Nat) : Nat → State → State
  | 0, s => s
  | fuel + 1, s =>
    let x := s.printing k
    if x.phase = 3 && x.unanswered < 64 && x.next < s.offerSlot.transfer then
      State.sendParts k fuel
        ((s.modPrinting k fun x => { x with next := x.next + 1016, unanswered := x.unanswered + 1 }).sendPart k x.next)
    else s

/-- Parts answered BUSY or NO_GUARANTEE go out again one cycle later (R431). -/
def State.resendParts (s : State) (k : Nat) : State :=
  let x := s.printing k
  if x.phase = 3 then
    x.again.foldl (fun s off => s.sendPart k off)
      (s.modPrinting k fun x => { x with again := [], unanswered := x.unanswered + x.again.length })
  else s

/-- A reply to a printed part (R431, R432). -/
def State.printReply (s : State) (k : Nat) (r : PartReply) : State :=
  let x := s.printing k
  if x.phase ≠ 3 then s
  else
    let s := s.modPrinting k fun x => { x with unanswered := x.unanswered - 1 }
    if r.status = 0x34 || r.status = 0x13 then s.refusePrint k r.status
    else if r.status = 0x00 && r.last then
      (s.event 0x0203 (printData k (s.printNode k))).endPrint k 2
    else if r.status = 0x10 || r.status = 0x11 then s.modPrinting k fun x => { x with again := x.again ++ [r.offset] }
    else if r.status = 0x32 then
      State.sendParts k 64 (s.modPrinting k fun x => { x with next := r.held, unanswered := 0, again := [] })
    else if r.status = 0x00 then State.sendParts k 64 s
    else s

/-- What the neighbour sends in the printing session (R431). -/
def State.printSession (s : State) (k : Nat) (r : PrintReply) : State :=
  let x := s.printing k
  match r with
  | .open2 sid tray trusted =>
    if x.phase ≠ 1 then s
    else if trusted then (s.modPrinting k fun x => { x with phase := 2, sid := sid, tray := tray }).emit (.printOpen3 k)
    else s.failPrint k
  -- three parts of OPEN_1 and three of OPEN_3 have gone before (R265)
  | .open4 granted =>
    if x.phase ≠ 2 then s
    else if granted then
      State.sendParts k 64 (s.modPrinting k fun x => { x with phase := 3, seq := 6, next := 0, unanswered := 0, again := [] })
    else s.failPrint k
  | .keepalive => s
  | .close => if x.phase = 0 then s else s.failPrint k

/-- Every 60 s, a due entry is tried again (R432). -/
def State.retryPrint (s : State) (k : Nat) : State :=
  if (s.printing k).phase = 0 && (s.printing k).lastTry + ms 60000 ≤ s.now then s.beginPrint k else s

/-- 24 h of printing without an end (R432). -/
def State.timeOutPrint (s : State) (k : Nat) : State :=
  if s.printDue k && (s.printing k).begun + ms 86400000 ≤ s.now then s.refusePrint k 0x40 else s

/-- Printing ends early where the slot has left VERIFIED (R430). -/
def State.stopPrints (s : State) : State :=
  if s.offerSlot.state = .verified then s
  else [0, 1].foldl (fun s k => if s.upd.boot.print k = 1 then s.endPrint k 0 else s) s

/-- The newest record that an event code picks, written or queued. -/
def State.recordNamed (s : State) (code : Nat) : Nat :=
  match (s.neg.queue.zipIdx.reverse).find? fun x => x.1.kind = 3 && fieldAt x.1.detail 0 2 = code with
  | some x => s.neg.next.toNat + x.2
  | none => ((s.neg.bank1.ring.reverse.find? fun r => r.kind = 3 && fieldAt r.detail 0 2 = code).elim 0 fun r => r.number.toNat)

/-- UPDATE_OFFER in the Slack (R276). The last part leaves its entry with the slot until K has checked the
image. -/
def State.updateOffer (s : State) (e : Entry) : State :=
  let off := fieldAt e.payload 0 4
  let len := fieldAt e.payload 4 4
  let data := e.payload.drop 8
  let x := s.offerSlot
  if s.upd.boot.activation.isSome || s.upd.onTrial then s.refuse e 0x13 noDetail
  else if off = 0 && x.verifying.isSome then s.refuse e 0x10 noDetail
  else if off = 0 then
    let s := s.modOfferSlot fun _ =>
      { state := .loading, held := data.length, bytes := data, transfer := len, lastPart := data, lastAt := s.now, holder := e.sid,
        verifying := if data.length = len then some e else none }
    let s := s.stopPrints
    if data.length = len then s else s.done e (beBytes 4 data.length)
  else if x.state = .verified && repeatsLast x.lastPart x.transfer off data && len = x.transfer then
    s.done e (beBytes 4 x.held)
  else if x.state = .rejected && repeatsLast x.lastPart x.transfer off data && len = x.transfer then
    s.refuse e 0x34 (detail 8 0 0 0 (s.recordNamed 0x0202))
  else if x.state ≠ .loading || off ≠ x.held || x.verifying.isSome then s.refuse e 0x32 noDetail
  else if len ≠ x.transfer then s.refuse e 0x30 (detail 5 0 4)
  else
    let held := off + data.length
    let s := s.modOfferSlot fun x =>
      { x with held := held, bytes := x.bytes ++ data, lastPart := data, lastAt := s.now, holder := e.sid, verifying := if held = len then some e else none }
    if held = len then s else s.done e (beBytes 4 held)

/-! Schedules (R277, R434, R444) -/

/-- The slot that a hash names for activation: the inactive one, or on trial the committed one. -/
def State.scheduled (s : State) (h : Hash) : Bool :=
  if s.upd.onTrial then s.upd.boot.committedHash = h
  else s.offerSlot.state = .verified && match s.offerSlot.image with
    | some i => i.hash = h
    | none => false

/-- Every route is IDLE. -/
def State.routesIdle (s : State) : Bool :=
  s.rail.objs.all fun o => match o.body with
    | .route r => r.state = .idle
    | _ => true

def State.updateSchedule (s : State) (e : Entry) : State :=
  let b := s.upd.boot
  if bitOf (e.byte 40) 0 then
    if b.activation.isNone then s.refuse e 0x13 noDetail
    else (({ s with upd.deferred := false }.bootWrite fun b => { b with activation := none }).event 0x0207 [0]).done e []
  else
    let t := fieldAt e.payload 0 8
    let h : Hash := BitVec.ofNat 256 (fieldAt e.payload 8 32)
    if !s.scheduled h then s.refuse e 0x13 noDetail
    else if s.trust.cfg.ownerLock then s.refuse e 0x22 noDetail
    else if s.v.power.lowSupply then s.refuse e 0x21 noDetail
    else match s.ptpTime with
      | none => s.refuse e 0x21 noDetail
      | some now =>
        if t ≤ now.toNat + (s.nextBoundary + deadlineNs s.cs s.cs.fixLatest - s.now) then s.refuse e 0x21 noDetail
        else if !s.paired && !s.routesIdle then s.refuse e 0x21 noDetail
        else ({ s with upd.deferred := false, upd.unjudged := false }.bootWrite fun b =>
          { b with activation := some (BitVec.ofNat 64 t, h) }).done e []

/-! Activation (R435 to R437) -/

/-- The first check of R435 that fails; 0 where all hold. -/
def State.activationCheck (s : State) (h : Hash) : Nat :=
  let lc := s.trust.cfg.lifecycle
  let slotOk := s.scheduled h && (s.upd.onTrial || lc = .provisioned || match s.offerSlot.image with
    | some i => s.trust.cfg.roster.any fun x => x.index = i.signer && (x.role = 3 || x.role = 4)
    | none => false)
  if lc = .blank || lc = .retired then 1
  else if s.trust.cfg.ownerLock then 2
  else if s.v.power.lowSupply then 3
  else if !slotOk then 4
  else if s.test.isSome then 5
  else if !s.paired && !s.routesIdle then 6
  else if s.paired && s.pair.role = .active then 7
  else 0

/-- The schedule ends with a record that names why. -/
def State.cancelActivation (s : State) (why : Nat) : State :=
  ({ s with upd.deferred := false }.bootWrite fun b => { b with activation := none }).event 0x0207 [BitVec.ofNat 8 why]

/-- Activation (R437): STOP, pair-presence off, boot record, attestation, every die reset. -/
def State.activate (s : State) (h : Hash) : State :=
  let s := (s.endHold 0x12).enterStop
  let s := if s.paired then { s with v.ppOut := false }.emit (.ppOut false) else s
  let s := s.bootWrite fun b =>
    let b := { b with activation := none }
    if s.upd.onTrial then { b with fallback := true }
    else { b with trial := some s.offerNo, starts := 0, trialHash := h, conversionFailed := false, fallback := false, storeTrial := b.storeRead }
  let s := { s with upd.deferred := false, neg.reasons := [7] }
  let s := s.signHead
  (s.writeAll s.neg.queue.length).resetDies .charging

/-- A LAMP_RELEASE is outstanding, or its answer has not left (R361, R436). -/
def State.releaseOwed (s : State) : Bool :=
  s.pair.lease.handover.isSome || s.net.answers.any fun a => a.op = 0x0902

/-- The activation boundary (R435, R436). -/
def State.activationDue (s : State) : State :=
  match s.upd.boot.activation, s.ptpTime with
  | some (t, h), some now =>
    if now.toNat < t.toNat then s
    else if s.upd.deferred && (s.pair.role = .active || s.releaseOwed) then s
    else match s.activationCheck h with
      | 0 => s.activate h
      | 7 => { s with upd.deferred := true }.event 0x0206 (beBytes 8 t.toNat)
      | k => s.cancelActivation k
  | _, _ => s

/-- A deferred activation has not run within 24 h of its time (R436). -/
def State.deferredTimeout (s : State) : State :=
  match s.upd.boot.activation, s.ptpTime with
  | some (t, _), some now =>
    if s.upd.deferred && t.toNat + 86400000000000 ≤ now.toNat then s.cancelActivation 7 else s
  | _, _ => s

/-! Confirmation and conversion (R278, R440, R441, R443) -/

/-- UPDATE_CONFIRM (R278, R440); settings that were converted are copied over the old store (R441). -/
def State.updateConfirm (s : State) (e : Entry) : State :=
  let b := s.upd.boot
  if !s.upd.onTrial || b.trialHash ≠ BitVec.ofNat 256 (fieldAt e.payload 0 32) then s.refuse e 0x13 noDetail
  else if b.conversionFailed then s.refuse e 0x21 (detail 8 0 0 0 (s.recordNamed 0x0209))
  else if s.upd.healthy < 16 then s.refuse e 0x21 (detail 8 0 0 0 (s.recordNamed 0x0208))
  else
    let n := s.upd.running
    let i := ((s.slot n).image).getD {}
    let sec := max b.secFloor i.security
    let key := max b.keyFloor i.keyFloor
    let s := s.bootWrite fun b => { b with
      committed := n, trial := none, starts := 0, committedHash := b.trialHash, trialHash := 0, secFloor := sec,
      keyFloor := key, storeRead := if s.upd.converted then b.storeTrial else b.storeRead }
    let s := if s.upd.converted then s.storeSettings else s
    let s := s.modSlot n fun x => { x with state := .committed }
    let s := { s with upd.onTrial := false, upd.converted := false }
    let s := s.modSlot (!n) fun x => { x with state := if s.loadable (!n) then .verified else .rejected }
    ((s.event 0x020B ([slotCode n] ++ beBytes 2 sec ++ beBytes 2 key)).wantSignature 7).done e []

/-- Settings format of the committed image, whose store the trial reads (R441). -/
def State.formatFound (s : State) : Nat := ((s.slot s.upd.boot.committed).image).elim Config.factoryFormat.toNat fun i => i.format

/-- The trial image has a store of its own, converted at this start or at an earlier one (R426, R441). -/
def Boot.ownStore (b : Boot) : Bool := b.storeTrial ≠ b.storeRead

/-- The trial firmware converts the settings into the other store, never in place (R441). -/
def State.convertStore (s : State) : State :=
  let s := { s with upd.converted := true }.bootWrite fun b => { b with storeTrial := !b.storeRead }
  { s with
    m.settings1 := if !s.upd.boot.storeTrial && s.writable Region.settings.idx 1 then s.cyc.settings else s.m.settings1
    m.settings2 := if s.upd.boot.storeTrial && s.writable Region.settings.idx 2 then s.cyc.settings else s.m.settings2 }

/-- The trial firmware reads the settings at its first start (R441, R443). -/
def State.convertSettings (s : State) : State :=
  let i := ((s.slot s.upd.running).image).getD {}
  let found := s.formatFound
  if !s.upd.onTrial || s.upd.converted || s.upd.conversionFailedAt.isSome || found = i.format then s
  else if s.upd.boot.ownStore then { s with upd.converted := true }
  else match (if found < i.format && i.oldest ≤ found then Config.conversionFault i.hash (BitVec.ofNat 16 found) else some 0) with
    | none => s.convertStore
    | some off =>
      ({ s with upd.conversionFailedAt := some s.now }.bootWrite fun b => { b with conversionFailed := true }).event 0x0209
        (beBytes 2 found ++ beBytes 4 off.toNat)

/-- 2,000 ms after CONVERSION_FAILED the module starts anew (R443). -/
def State.conversionRestart (s : State) : State :=
  match s.upd.conversionFailedAt with
  | some t =>
    if t + ms 2000 ≤ s.now then (s.writeAll s.neg.queue.length).resetDies .charging else s
  | none => s

end Sys2Proof.Machine
end

