-- ==== Sys2Proof/Machine/LogicBanks.lean ====
section
/-! DEFINITION. The logic banks: LOGIC_LOAD (R166, R286), the checks of a complete image (R145, R146, R164) and
the exchange of the banks (R168 to R176, R287). -/

namespace Sys2Proof.Machine

/-- LOGIC_LOAD in the Slack (R166, R286); a switch that waits for its boundary bars it like one in a tray (log 118). The last part leaves its entry with the bank until the image is
checked. -/
def State.logicLoad (s : State) (e : Entry) : State :=
  let off := fieldAt e.payload 0 4
  let len := fieldAt e.payload 4 4
  let data := e.payload.drop 8
  let b := s.loadBank
  let put := fun (s : State) (x : LogicBank) => s.setBank (!s.logic.activeBank) x
  if s.logic.exchangeDue || s.net.entries.any fun x => x.op = 0x0A02 && !x.done then s.refuse e 0x13 noDetail
  else if off = 0 && b.state ≠ .loading then
    let s := put s { state := .loading, bytes := data, held := data.length, length := len, holder := e.sid,
                     verifying := if data.length = len then some e else none }
    if data.length = len then s else s.done e (beBytes 4 data.length)
  else if b.state ≠ .loading || off ≠ b.held || b.verifying.isSome then s.refuse e 0x32 noDetail
  else if len ≠ b.length then s.refuse e 0x30 (detail 5 0 4)
  else
    let held := off + data.length
    let s := put s { b with bytes := b.bytes ++ data, held := held, holder := e.sid, verifying := if held = len then some e else none }
    if held = len then s else s.done e (beBytes 4 held)

/-- A budget of R60 as the header gives it, in whole microseconds (log 20). -/
def inUs (n : Time) : Nat := (n + 999) / 1000

/-- The header checks of R144 and R145. -/
def headerOk (h : ImgHeader) (length : Nat) : Bool :=
  h.magic = 0x46514931 && h.format = 3 && h.headerLen = 256 && h.length = length && h.length ≤ 16777216 &&
    h.nObjects ≤ 16384 && h.nRoutes ≤ 4096 && h.nLiterals ≤ 3145728 && h.nTerms ≤ 262144 && h.nTimers ≤ 8192 &&
    h.nEdges ≤ 16384 && h.nRetained ≤ 65536 && h.e = inUs (budgetE h) && h.d = inUs (budgetD h) &&
    h.b = (if h.paired then inUs (budgetB h) else 0) && h.reservedZero && h.dirInside

/-- Terms of an expression (R151). -/
def Expr.terms : Expr → Nat
  | .const _ => 0
  | .read _ => 0
  | .not e => e.terms + 1
  | .bin _ _ l r => l.terms + r.terms + 1
  | .select c l r => c.terms + l.terms + r.terms + 1
  | .prev _ => 1
  | .rise _ => 1
  | .fall _ => 1
  | .timer _ e => e.terms + 1

/-- The limits of R164 on what an image holds; the final assignment of an equation is a term (R151). -/
def withinLimits (i : Image) : Bool :=
  i.objects.length ≤ 16384 && i.routes.length ≤ 4096 &&
    i.routes.all (fun d => d.settable.length ≤ 257 && d.hold.length ≤ 257 && d.clear.length ≤ 257) &&
    i.equations.length ≤ 65536 && i.equations.all (fun q => q.expr.terms + 1 ≤ 256) && i.order.length ≤ 81920 &&
    i.timers.length ≤ 8192 && i.edges.length ≤ 16384 && i.retained.length ≤ 65536 && i.partners.length ≤ 4096 &&
    i.constants.length ≤ 65536 && i.symbols.length ≤ 262144

/-- The condition of R166 that a complete image fails first: 1 signature, 2 header, 3 image hash, 4 fit; 0
where it passes all. -/
def State.logicCheck (s : State) (i : Image) (sigOk : Bool) (signer : Nat) (headerLanes hashLanes : BitVec 3) : Nat :=
  if !(sigOk && releasesLogic s.trust.cfg signer) then 1
  else if !(headerOk i.hdr s.loadBank.length && withinLimits i && s.voting.all (laneIn headerLanes)) then 2
  else if (lanesOf hashLanes).length < 2 then 3
  else if !fits i.hdr s.cs s.paired then 4
  else 0

/-- The status of a condition that fails (R166); fewer than two lanes with one image hash answer BAD_FORMAT (DESIGN CHOICE,
log 123). -/
def logicStatus (k : Nat) : Byte := if k = 1 then 0x34 else if k = 4 then 0x21 else 0x30

/-- The last LOGIC_LOAD part has been checked (R166). `i` is what the sections of the image declare, under the header that
its bytes lay out (R144); `sigOk`: K finds the signature of its signature block good under the key of holder `signer`, whose
hash the block names (R146); `hashLanes`: the lanes whose `imageHash` of the bytes is the header's. -/
def State.logicVerified (s : State) (i : Image) (sigOk : Bool) (signer : Nat) (headerLanes hashLanes : BitVec 3) : State :=
  let b := s.loadBank
  let i := { i with hdr := imageHeader b.bytes }
  if b.state ≠ .loading || b.held ≠ b.length || b.length = 0 then s
  else
    let answer := fun (s : State) (st : Byte) (det : List Byte) => match b.verifying with
      | some e => if e.done then s else if st = 0 then s.done e (beBytes 4 b.held) else s.refuse e st det
      | none => s
    let bad := s.logicCheck i sigOk signer headerLanes hashLanes
    let at_ := !s.logic.activeBank
    if bad = 0 then
      answer (s.setBank at_ { b with state := .verified, image := i, signer := signer, verifying := none }) 0x00 []
    else
      let n := s.nextRecordNumber
      let s := s.setBank at_ { b with state := .rejected, image := i, signer := signer, verifying := none }
      answer (s.event 0x0408 [slotCode at_, BitVec.ofNat 8 bad]) (logicStatus bad) (detail 8 0 0 0 n.toNat)

/-! LOGIC_SWITCH (R168, R169, R245, R287) -/

/-- LOGIC_SWITCH on the state that its cycle commits; `conflict`: an earlier CYCLE_SET of the same cut. -/
def State.logicSwitch (s : State) (e : Entry) (r : Rail) (conflict : Option W32) : State :=
  let b := s.loadBank
  if b.image.hdr.hash ≠ BitVec.ofNat 256 (fieldAt e.payload 0 32) || b.state ≠ .verified then s.refuse e 0x13 noDetail
  else if s.upd.onTrial && s.upd.converted then s.refuse e 0x13 noDetail
  else match conflict with
    | some a => s.refuse e 0x20 (detail 7 0 0 0 a.toNat)
    | none =>
      match exchangeRefusal s.image? b.image b.state s.cs s.paired s.test.isSome r with
      | some (st, det) => s.refuse e st det
      | none =>
        { s with logic.exchangeDue := true }.done e
          (beBytes 4 b.image.hdr.serial.toNat ++ [slotCode !s.logic.activeBank])

/-- The banks change places, in the stores as well; channel table, partners and references follow
(R168, R302, R322, R463). -/
def State.swapBanks (s : State) : State :=
  let old := s.image
  let was := s.logic.activeBank
  let new := s.loadBank
  let s := if (s.bank was).state = .active then s.setBank was { s.bank was with state := .verified } else s
  let s := s.setBank (!was) { new with state := .active }
  let s := { s with
    logic.activeBank := !was, logic.exchangeDue := false
    cyc.settings := { s.cyc.settings with activeBank := !was, activeHash := new.image.hdr.hash } }.storeSettings
  let s := s.modLanes fun _ r =>
    { r with
      board := switchChannels old new.image s.now r.board
      logicHash := r.logicHash.map fun _ => new.image.hdr.hash
      refLogic := r.refLogic.map fun _ => Config.regionCode new.image.hdr.hash }
  s.switchPartners old.partners

/-- The holder's image, which a module without the Lamp may hold in its other bank (R175, R176). -/
def State.otherImage (s : State) : Option Image :=
  let b := s.loadBank
  if b.state = .verified then some b.image else none

/-- The exchange at the boundary after the Fix that committed it (R168, R170 to R175). A module without the
Lamp keeps the mirrored state of both images. -/
def State.exchange (s : State) : State :=
  if !s.logic.exchangeDue then s
  else
    let old := s.image
    let new := s.loadBank.image
    let m := s.pair.mirror
    let carry := carryRail old new
    let equal : Bool := match m.holder with
      | some h => h.logic = new.hdr.hash
      | none => m.differs
    let follower := s.paired && !s.holdsLamp
    let s := s.swapBanks
    let s :=
      if !follower then { s with rail := carry s.rail }
      else if equal then
        { s with rail := m.other.getD (carry s.rail), pair.mirror.differs := false, pair.mirror.other := none,
                 pair.mirror.pendingRail := m.otherPending <|> m.pendingRail.map carry,
                 pair.mirror.otherPending := none }
      else
        { s with rail := carry s.rail, pair.mirror.differs := true,
                 pair.mirror.other := m.other <|> some s.rail,
                 pair.mirror.otherPending := m.otherPending <|> m.pendingRail,
                 pair.mirror.pendingRail := m.pendingRail.map carry }
    let s := if s.cyc.mode = .stop && !follower then { s with rail := s.rail.holdSafe s.image true } else s
    s.wantSignature 6

end Sys2Proof.Machine
end

