-- ==== Sys2Proof/Machine/Expose.lean ====
section
/-! DEFINITION. Expose: the freeze (R55), the messages between the lanes (R187, R188, R191), the exchange of
images (R192), the consensus image (R57) and the minority counts (R58). -/

namespace Sys2Proof.Machine

/-! Messages between the lanes -/

/-- A message with its header and its CRC word (R187). -/
def laneMessage (kind : Nat) (l : Lane) (body : List W32) : List W32 :=
  let head := BitVec.ofNat 32 (at_ 28 kind + at_ 26 l.code + (body.length + 1))
  let w := head :: body
  w ++ [crc32c (wordBytes w)]

/-- Kind, sender and body of a message that passes its checks (R187). -/
def openMessage (words : List W32) : Option (Nat × Lane × List W32) :=
  match words with
  | [] => none
  | h :: _ =>
    let n := words.length
    let front := words.take (n - 1)
    match words[n - 1]?, Lane.ofIdx (bitsOf h.toNat 27 26 - 1) with
    | some c, some l =>
      if 2 ≤ n && bitsOf h.toNat 27 26 ≠ 0 && bitsOf h.toNat 19 0 + 1 = n && c = crc32c (wordBytes front) then
        some (bitsOf h.toNat 31 28, l, front.drop 1)
      else none
    | _, _ => none

def cycleWords (c : W48) : List W32 := [BitVec.ofNat 32 (c.toNat / 2 ^ 32), BitVec.ofNat 32 (c.toNat % 2 ^ 32)]

/-- Word n of a message body. -/
def wordAt (l : List W32) (n : Nat) : Nat := ((l[n]?).getD 0).toNat

def chansAt (l : List W32) (n : Nat) : Chans :=
  BitVec.ofNat 96 (wordAt l n + at_ 32 (wordAt l (n + 1)) + at_ 64 (wordAt l (n + 2)))

def cycleAt (l : List W32) (n : Nat) : W48 := BitVec.ofNat 48 (at_ 32 (wordAt l n % 65536) + wordAt l (n + 1))

/-- A partner entry (R188). -/
def FrozenPartner.words (p : FrozenPartner) : List W32 :=
  let t1 := p.t1.getD (0, 0)
  let t2 := p.t2.getD (0, 0)
  [BitVec.ofNat 32 (at_ 26 (boolNat p.t1.isSome) + at_ 27 (boolNat p.t2.isSome) + at_ 20 p.sid + p.node.toNat),
   t1.1, t1.2, t2.1, t2.2]

/-- Body of an INPUT_IMAGE (R188). -/
def InputImage.words (x : InputImage) : List W32 :=
  cycleWords x.cycle ++ [BitVec.ofNat 32 (x.time / 2 ^ 32), BitVec.ofNat 32 x.time, x.cut] ++ chanWords x.values ++
    chanWords x.invalid ++ [BitVec.ofNat 32 x.partners.length] ++ x.partners.flatMap FrozenPartner.words

def partnerAt (l : List W32) (k : Nat) : FrozenPartner :=
  let o := 12 + 5 * k
  let h := wordAt l o
  let pair := fun (on : Bool) (n : Nat) =>
    if on then some (BitVec.ofNat 32 (wordAt l n), BitVec.ofNat 32 (wordAt l (n + 1))) else none
  { sid := bitsOf h 25 20, node := BitVec.ofNat 20 h, t1 := pair (bitOf h 26) (o + 1), t2 := pair (bitOf h 27) (o + 3) }

/-- An INPUT_IMAGE from its body, where its length holds (R188). -/
def inputOf (l : List W32) : Option InputImage :=
  let n := wordAt l 11 % 64
  if l.length = 12 + 5 * n then
    some { cycle := cycleAt l 0, time := at_ 32 (wordAt l 2) + wordAt l 3, cut := BitVec.ofNat 32 (wordAt l 4),
           values := chansAt l 5, invalid := chansAt l 8, partners := (List.range n).map (partnerAt l) }
  else none

/-- Body of a SET (R191). -/
def SetMsg.words (m : SetMsg) (cycle : W48) : List W32 :=
  cycleWords cycle ++ [BitVec.ofNat 32 (at_ 31 (boolNat m.rendezvous) + m.held.toNat)]

/-! The freeze (R55) -/

/-- Sessions whose telegrams the lanes freeze, in ascending session ID. -/
def State.partnerSessions (s : State) : List Session :=
  (s.net.sessions.filter fun x => (x.pclass = 2 || x.pclass = 1) && x.state ≠ .opening).foldr
    (insertBy fun a b => a.sid ≤ b.sid) []

def State.frozenPartner (s : State) (l : Lane) (x : Session) : FrozenPartner :=
  let pair := fun (t : HeldTelegram) => (t.seq, t.crc)
  let two := s.lastTwo l x
  { sid := x.sid, node := x.node, t1 := two[0]?.map pair, t2 := two[1]?.map pair }

/-- The inputs of a lane at this instant. -/
def State.inputsOf (s : State) (l : Lane) (reading : Ticks) : InputImage :=
  { cycle := s.cyc.cycle, time := reading, cut := s.net.nextAdm - 1, values := (s.lane l).board.debounced,
    invalid := s.invalidMask l, partners := s.partnerSessions.map (s.frozenPartner l) }

/-- The lane's own last two telegrams of each partner, with their content (R55, R189). -/
def State.frozenTels (s : State) (l : Lane) : List (Nat × HeldTelegram) :=
  s.partnerSessions.flatMap fun x => (s.lastTwo l x).map fun t => (x.sid, t)

/-- A lane freezes its inputs, its timebase reading through the Latent Buffer, and sends them to the others (R47, R55, R188);
readbacks are compared (R329, R344). -/
def State.freeze (s : State) (l : Lane) (reading : Ticks) : State :=
  let s := (s.readbackAll l).pairedCheck l
  let x := s.inputsOf l reading
  let s := s.modLane l fun r => { sampleInput (BitVec.ofNat 64 reading) r with
    boundary := s.now, reading := reading, frozen := x, frozenTels := s.frozenTels l, heldIn := (l, x) :: r.heldIn.filter (fun y => y.1 ≠ l && y.2.cycle = s.cyc.cycle),
    sets := r.sets.filter fun _ => false, passed := [], devDone := false, arrived := none, image := none }
  (s.tally 0 [l]).emit (.laneWords l (laneMessage 1 l x.words))

/-! The exchange (R192) -/

/-- A channel error in this cycle: the data of the exchange in hand are absent (R27). -/
def State.channelError (s : State) (ch : Chan) : State :=
  if (s.chan ch).error then s.modChan ch fun c => { c with absent := true }
  else (s.modChan ch fun c => { c with error := true, absent := true }).note (0x060 + Chan.idx ch) Lane.all

/-- A lane that exchanges images. -/
def LanePhase.exchanges (p : LanePhase) : Bool := p = .voting || p = .probation

/-- Words whose checks an injection inverts: one alone is asked for again, two are an error of the channel; a message
has words enough for every check armed (R27, R387). -/
def State.invertedWords (s : State) (ch : Chan) : State :=
  if s.flt.injection.elim false fun j => j.left = 1 then (s.emit (.askWord ch)).spendInjection
  else (s.channelError ch).spendInjection

/-- A lane has closed its Expose: it has sent its SET (R192). -/
def LaneRec.exposed (r : LaneRec) (l : Lane) : Bool := r.sets.any fun m => m.sender = l && !m.rendezvous

/-- The Expose budget E has passed since a lane's own boundary (R49, R192); `strict`: before this instant. -/
def State.exposeOver (s : State) (strict : Bool) (l : Lane) : Bool :=
  let t := (s.lane l).boundary + s.exposeNs
  if strict then decide (t < s.now) else decide (t ≤ s.now)

/-- An INPUT_IMAGE arrives at a lane over a channel (R187, R188); one that comes after the lane's Expose is not counted (R192).
A message that fails its checks, or names a sender that the channel does not join, is an error of the channel. -/
def State.takeInput (s : State) (l : Lane) (ch : Chan) (words : List W32) : State :=
  let s := if s.injected (0x060 + Chan.idx ch) [] then s.invertedWords ch else s
  match openMessage words with
  | some (1, k, body) =>
    match inputOf body with
    | some x =>
      if k = l || Chan.between l k ≠ ch then s.channelError ch
      else if !(s.lane l).phase.exchanges || (s.chan ch).absent || (s.lane l).exposed l || s.exposeOver true l then s
      else s.modLane l fun r => { r with heldIn := (k, x) :: r.heldIn.filter fun y => y.1 ≠ k }
    | none => s.channelError ch
  | _ => s.channelError ch

/-- Images that a lane holds complete for the cycle in hand. -/
def State.heldMask (s : State) (l : Lane) : BitVec 3 :=
  laneMask (((s.lane l).heldIn.filter fun x => x.2.cycle = s.cyc.cycle).map fun x => x.1)

/-- Lanes whose own Expose is to close (R49, R192). -/
def State.closesExpose (s : State) (strict : Bool) : List Lane :=
  Lane.all.filter fun l => (s.lane l).phase.exchanges && !(s.lane l).exposed l && s.exposeOver strict l

/-- At the close of its Expose each of these lanes sends a SET naming the images it holds (R192). -/
def State.closeExpose (s : State) (lanes : List Lane) : State :=
  let s := lanes.foldl (fun s l =>
    let m : SetMsg := { sender := l, rendezvous := false, held := s.heldMask l }
    (s.modLane l fun r => { r with sets := m :: r.sets }).emit (.laneWords l (laneMessage 3 l (m.words s.cyc.cycle)))) s
  if lanes.isEmpty then s else { s with cyc.phase := .setWait }

/-- The used set among the SETs that a lane holds (R192): the largest that every member names; of two pairs
the one that R27 keeps. -/
def usedSet (voting : List Lane) (sets : List SetMsg) : BitVec 3 :=
  let held := fun (l : Lane) => (sets.find? fun m => m.sender = l).map fun m => m.held
  let ok := fun (c : List Lane) => c.all fun l => voting.contains l && match held l with
    | some h => c.all (laneIn h)
    | none => false
  let abc := ok [.a, .b, .c]
  let ab := ok [.a, .b]
  let bc := ok [.b, .c]
  let ca := ok [.a, .c]
  if abc then 7
  else if ca && bc && !ab then 5
  else if ab && ca && !bc then 3
  else if bc && ab && !ca then 6
  else if ab then 3
  else if ca then 5
  else if bc then 6
  else 0

/-! The consensus image (R57) -/

/-- Bits set in at least two of the masks. -/
def twoOf : List Chans → Chans
  | [a, b, c] => bridge a b c
  | [a, b] => a &&& b
  | _ => 0

def InputImage.on (x : InputImage) : Chans := x.values &&& ~~~x.invalid
def InputImage.off (x : InputImage) : Chans := ~~~x.values &&& ~~~x.invalid

/-- Telegrams of a session that an image holds. -/
def InputImage.tels (x : InputImage) (sid : Nat) : List (W32 × W32) :=
  match x.partners.find? fun p => p.sid = sid with
  | some p => p.t1.toList ++ p.t2.toList
  | none => []

/-- The telegram with the highest sequence number that two images hold (R57, R189). -/
def telOf (imgs : List InputImage) (sid : Nat) : Option (W32 × W32) :=
  let all := imgs.flatMap fun x => x.tels sid
  (all.filter fun t => 2 ≤ (imgs.filter fun x => (x.tels sid).contains t).length).foldl (fun b t => match b with
    | some u => if u.1.toNat < t.1.toNat then some t else b
    | none => some t) none

/-- The telegram in the receive store of the network die (R189). -/
def Session.stored (x : Session) (t : W32 × W32) : Option HeldTelegram :=
  x.telegrams.find? fun h => h.seq = t.1 && h.crc = t.2

/-- The telegram that a lane froze itself, with its content. -/
def LaneRec.froze (r : LaneRec) (sid : Nat) (t : W32 × W32) : Option HeldTelegram :=
  (r.frozenTels.find? fun y => y.1 = sid && y.2.seq = t.1 && y.2.crc = t.2).map fun y => y.2

/-- The consensus telegram of a session (R57, R189): the lanes that hold it use it, whether or not the store still does. -/
def State.agreed (s : State) (x : Session) (imgs : List InputImage) : Option HeldTelegram :=
  (telOf imgs x.sid).bind fun t => (Lane.all.findSome? fun l => (s.lane l).froze x.sid t) <|> x.stored t

/-- A lane that does not hold the consensus telegram fetches it from the store (R189). -/
def State.fetches (s : State) (sid : Nat) (t : HeldTelegram) : Bool :=
  s.net.sessions.any fun x => x.sid = sid && (x.stored (t.seq, t.crc)).isSome

/-- The consensus image of a used set (R57); a telegram with a higher echo epoch is missing (R305). -/
def State.consensusOf (s : State) (imgs : List InputImage) : Consensus :=
  let on := twoOf (imgs.map InputImage.on)
  let off := twoOf (imgs.map InputImage.off)
  { values := on, invalid := ~~~(on ||| off) &&& s.image.usedMask,
    cut := serialMedian (imgs.map fun x => x.cut),
    time := medianOrLower (imgs.map fun x => x.time),
    telegrams := s.partnerSessions.map fun x => (x.sid, (s.agreed x imgs).filter fun t => !s.telegramFences x t) }

/-! The minority (R58) -/

/-- Keys of the inputs for which an image differs from a consensus that exists; of a telegram that a lane lacks, where it cannot
fetch it (R58, R189). -/
def State.differing (s : State) (imgs : List InputImage) (c : Consensus) (x : InputImage) : List InKey :=
  let agreed := c.values ||| twoOf (imgs.map InputImage.off) ||| twoOf (imgs.map fun y => y.invalid)
  let bad := ((x.on ^^^ c.values) ||| (x.invalid ^^^ c.invalid)) &&& agreed &&& s.image.usedMask
  ((List.range 96).filter fun k => bad.getLsbD k).map InKey.channel ++
    (c.telegrams.filter fun t => match t.2 with
      | some h => !((x.tels t.1).contains (h.seq, h.crc)) && !s.fetches t.1 h
      | none => false).map fun t => InKey.partner t.1

/-- Channels on which the two lanes of 2oo2 differ. -/
def State.splitChannels (s : State) (imgs : List InputImage) : List InKey :=
  match imgs with
  | [x, y] =>
    let bad := ((x.on ^^^ y.on) ||| (x.invalid ^^^ y.invalid)) &&& s.image.usedMask
    ((List.range 96).filter fun k => bad.getLsbD k).map InKey.channel
  | _ => []

/-- Every input of a cycle, for a lane outside the used set (R192). -/
def State.everyInput (s : State) (c : Consensus) : List InKey :=
  ((List.range 96).filter fun k => s.image.usedMask.getLsbD k).map InKey.channel ++
    c.telegrams.map fun t => InKey.partner t.1

/-- Runs of cycles in the minority, by input. -/
def nextRuns (old : List (InKey × Nat)) (now : List InKey) : List (InKey × Nat) :=
  now.map fun k => (k, min 3 (((old.find? fun x => x.1 = k).elim 0 fun x => x.2) + 1))

/-- Minority counts of every lane that gave an image, but for one whose crossing is in reset (R58, R379). -/
def State.countMinority (s : State) (used : BitVec 3) (held : List (Lane × InputImage)) (c : Consensus) : State :=
  let imgs := (held.filter fun x => laneIn used x.1).map fun x => x.2
  Lane.all.foldl (fun s l =>
    let blind := (s.shadowMask l).getLsbD 0x100
    if !(s.lane l).phase.exchanges || blind then s
    else
      let keys := match held.find? fun x => x.1 = l with
        | some x =>
          if s.votes = 2 && laneIn used l then s.splitChannels imgs
          else if laneIn used l || s.isVoting l = false then s.differing imgs c x.2
          else s.everyInput c
        | none => if s.isVoting l then s.everyInput c else []
      let s := s.modLane l fun r => { r with minority := nextRuns r.minority keys }
      if keys.isEmpty then s else s.tally 5 [l]) s

/-! Partners at Expose (R304, R305, R307) -/

/-- Counter events of the partners on F01 to F08 (R471). -/
def State.tallyPartner (s : State) (base : Nat) (x : Session) : State :=
  match x.port with
  | .f i => if x.pclass = 2 && i.val < 8 then s.tally (base + i.val) Lane.all else s
  | _ => s

/-- The holder is fenced out by a partner that obeys a later holder (R305). -/
def State.fencedOut (s : State) (imgs : List InputImage) : Bool :=
  s.holdsLamp && s.partnerSessions.any fun x => (s.agreed x imgs).any (s.telegramFences x)

/-- Telegrams that are not valid at the freeze are dropped, and counted where they have not been judged before; the store
keeps the newest. -/
def State.pruneTelegrams (s : State) (x : Session) : State :=
  let bad := x.telegrams.filter fun t => !s.telegramValid x t
  let s := (bad.filter x.newer).foldl (fun s _ => (s.countRefused x.sid).tallyPartner 24 x) s
  s.modSession x.sid fun y => { y with telegrams := (y.telegrams.filter (s.telegramValid x)).take 4 }

/-- Each partner's telegram is judged (R307, R313). -/
def State.judgePartners (s : State) (c : Consensus) : State :=
  s.partnerSessions.foldl (fun s x =>
    let q := lookupOr c.telegrams x.sid none
    let s := if q.isNone then s.tallyPartner 16 x else s
    (s.judgePartner x q).pruneTelegrams x) s

/-- Entries whose promised time has passed at Expose have no effect (R71). -/
def State.expireEntries (s : State) : State :=
  { s with net.entries := s.net.entries.map fun e => match e.limit with
      | some t => if t < s.cyc.start then { e with done := true } else e
      | none => e }

/-- The entries that the cycle takes from the trays: its cut, and the service commands charged to it. -/
def State.takenNow (s : State) (cut : W32) (e : Entry) : Bool :=
  if e.service then e.cycle ≤ s.cyc.cycle.toNat else !serialLt cut e.adm

/-- Two lanes in VOTING find the entry faulty (R231). -/
def State.faultyEntry (s : State) (e : Entry) : Bool := 2 ≤ (s.voting.filter fun l => laneIn e.faulty l).length

/-- Source of a faulty tray entry, by the network die that admitted it (R231, R376). -/
def State.entrySource (s : State) (e : Entry) : Nat :=
  if (s.session? e.sid).any fun x => portDie x.port = .n2 then 0x1A2 else 0x182

/-- The lanes check every entry again before they use it: one that two lanes find faulty is answered BAD_CHECK and has no
effect, and its network die is reported (R30, R231). -/
def State.checkEntries (s : State) (cut : W32) : State :=
  let bad := s.net.entries.filter fun e => s.takenNow cut e && s.faultyEntry e
  let s := s.endEntries (fun e => s.takenNow cut e && s.faultyEntry e) 0x31 noDetail
  bad.foldl (fun s e => s.note (s.entrySource e) Lane.all) s

/-! The close of the exchange -/

/-- The skips in a row exceed the skip limit (R70). -/
def State.overSkipped (s : State) : Bool := s.cs.skipLimit < s.cyc.skips

/-- A cycle is skipped (R68, R69): its telegrams go out again, nothing is committed. A skip beyond the limit
waits for Safelight and the release of safe-state telegrams (R70, R71). A LAMP_RELEASE of its cut waits in its tray. -/
def State.skip (s : State) : State :=
  let s : State := { s with
    cyc.skips := s.cyc.skips + 1, cyc.skipTotal := s.cyc.skipTotal + 1, cyc.dev := none, cyc.phase := .done
    pair.lease.handover := if s.pair.lease.handed then s.pair.lease.handover else none
    pair.lease.handoverAnswer := none }
  let s := (s.tally 2 Lane.all).note 0x074 Lane.all
  if s.overSkipped then { s with cyc.phase := .release } else s.sendTelegrams .again

/-- The consensus image is formed from the used set and the boundary realigned (R56, R57, R58, R192), and Develop begins in RUN and for the
next cycle of a HOLD_STEP; in STOP and in a hold the release follows (R244). -/
def State.formConsensus (s : State) (l : Lane) (used : BitVec 3) : State :=
  let held := (s.lane l).heldIn.filter fun x => x.2.cycle = s.cyc.cycle
  let imgs := (held.filter fun x => laneIn used x.1).map fun x => x.2
  let c := s.consensusOf imgs
  let fenced := s.fencedOut imgs
  let s := (s.countMinority used held c).judgePartners c
  let starts := (lanesOf used).map fun k => (s.lane k).boundary
  let s : State := { s with
    cyc.start := medianOrLower starts, cyc.cons := c, cyc.usedSet := used, chanAB.absent := false, chanBC.absent := false, chanCA.absent := false }
  let s := if c.invalid ≠ 0 then { s with fio.fieldFault := true } else s
  let s := s.expireEntries.checkEntries c.cut
  let s := if fenced then s.voteFault 0x076 else s
  if s.cyc.mode = .stop then { s with cyc.phase := .release } else { s with cyc.phase := .develop }

/-- The SETs of an exchange that a lane holds. -/
def LaneRec.setsOf (r : LaneRec) (rendezvous : Bool) : List SetMsg := r.sets.filter fun m => m.rendezvous == rendezvous

/-- The used set of an exchange at a lane (R192). -/
def State.usedAt (s : State) (rendezvous : Bool) (l : Lane) : BitVec 3 := usedSet s.voting ((s.lane l).setsOf rendezvous)

/-- A lane holds the SET of every lane in VOTING. -/
def State.holdsSets (s : State) (rendezvous : Bool) (l : Lane) : Bool :=
  s.voting.all fun k => ((s.lane l).setsOf rendezvous).any fun m => m.sender = k

/-- The instant at which a lane closed the exchange: its own E, or the vote instant (R192). -/
def State.exchangeClose (s : State) (rendezvous : Bool) (l : Lane) : Time :=
  if rendezvous then s.cyc.voteAt else (s.lane l).boundary + s.exposeNs

/-- The 10 us for the SETs of an exchange have passed in a lane (R192). -/
def State.setWaitOver (s : State) (rendezvous strict : Bool) (l : Lane) : Bool :=
  let t := s.exchangeClose rendezvous l + 10000
  if strict then decide (t < s.now) else decide (t ≤ s.now)

/-- Every lane in VOTING has its last SET of the exchange, and each finds fewer than two lanes in its used set (R192). -/
def State.noneUsed (s : State) (rendezvous : Bool) : Bool :=
  s.voting.all fun k => (s.holdsSets rendezvous k || s.setWaitOver rendezvous false k) && (lanesOf (s.usedAt rendezvous k)).length < 2

/-- A lane decides the used set (R192): the first to do so forms the consensus image. -/
def State.decideSet (s : State) (l : Lane) : State :=
  if s.isVoting l then
    let used := s.usedAt false l
    if s.noneUsed false then
      let s : State := { s with chanAB.absent := false, chanBC.absent := false, chanCA.absent := false }
      if s.cyc.mode = .stop then { s with cyc.phase := .release } else s.skip
    else if 2 ≤ (lanesOf used).length && laneIn used l then s.formConsensus l used
    else s
  else s

/-- A SET arrives over a channel: kept once, and one that comes directly passed on once over the other channel; one that comes
after the 10 us, like a copy of one held, is not counted (R192). -/
def State.takeSet (s : State) (l : Lane) (ch : Chan) (words : List W32) : State :=
  match openMessage words with
  | some (3, k, body) =>
    let m : SetMsg := { sender := k, rendezvous := bitOf (wordAt body 2) 31, held := BitVec.ofNat 3 (wordAt body 2) }
    if body.length ≠ 3 || !(Lane.chans l).contains ch then s.channelError ch
    else if k = l || cycleAt body 0 ≠ s.cyc.cycle || !(s.lane l).phase.exchanges || (s.lane l).passed.contains (k, m.rendezvous) then s
    else
      let direct : Bool := Chan.between l k = ch
      let late : Bool := (m.rendezvous && s.cyc.phase ≠ .voteWait) || s.setWaitOver m.rendezvous true l
      let s := s.modLane l fun r => { r with sets := if late then r.sets else m :: r.sets, passed := (k, m.rendezvous) :: r.passed }
      if direct then s.emit (.laneWords l (laneMessage 3 k body)) else s
  | _ => s.channelError ch

end Sys2Proof.Machine
end

