-- ==== Sys2Proof/Machine/Cut.lean ====
section
/-! DEFINITION. The commands of a consensus cut (R57, R90, R128, R245): what Develop takes of them, and the
cut commands outside groups 0x01xx and 0x02xx (R266 to R287), with HOLD (R77, R78). -/

namespace Sys2Proof.Machine

/-! What Develop takes -/

/-- Cut commands that a tray cut takes (R55, R57). -/
def State.cutUpTo (s : State) (cut : W32) : List Entry :=
  s.net.entries.filter fun e => !e.service && !serialLt cut e.adm

/-- The entries of a cut have left their trays (R228). -/
def State.freeTrays (s : State) (cut : W32) : State :=
  { s with net.entries := s.net.entries.map fun e => if serialLt cut e.adm then e else { e with left := true } }

/-- A route command of the cut as a request of the locking pass (R250 to R252). -/
def Entry.req (e : Entry) (now : Ticks) : Req :=
  let what := match e.op.toNat with
    | 0x0101 => RouteOp.set (e.byte 2 = 1) (fieldAt e.payload 4 4)
    | 0x0102 => .cancel
    | _ => if e.byte 2 = 1 then .step1 else .step2
  { rid := e.rid, what := what, sid := e.sid, op := e.op, cmdSeq := e.cmdSeq, adm := e.adm, tray := e.tray,
    waiting := false, since := now }

def Entry.elem (e : Entry) : Elem :=
  { op := e.op, oid := e.oid, arg := e.byte 2, sid := e.sid, cmdSeq := e.cmdSeq, adm := e.adm, tray := e.tray }

def Entry.event (e : Entry) : Evt :=
  { sid := e.sid, node := e.node, slot := fieldAt e.payload 0 2, value := BitVec.ofNat 32 (fieldAt e.payload 4 4),
    adm := e.adm, tray := e.tray }

/-- Order of R90 and R245: tray rank, then admission sequence. -/
def Entry.before (a b : Entry) : Bool := a.tray < b.tray || (a.tray = b.tray && serialLt a.adm b.adm)

def sortEntries (l : List Entry) : List Entry := l.foldr (insertBy Entry.before) []

/-- A settle period is in force at a consensus cycle time (R360, R480). -/
def Rail.settling (r : Rail) (now : Ticks) : Bool :=
  match r.settleEnd with
  | some t => decide (now < t)
  | none => false

/-- Partners declared lost, by node (R307, R313). -/
def State.lostNodes (s : State) : List Node :=
  (s.net.sessions.filter fun x => x.lost).map (fun x => x.node) ++ s.net.lostNodes

/-- What the Develop of the cycle in hand works on. -/
def State.devIn (s : State) : DevIn :=
  let c := s.cyc.cons
  let es := sortEntries ((s.cutUpTo c.cut).filter fun e => !e.done)
  { env := { img := s.image, now := c.time, settle := s.rail.settling c.time, holds := s.holdsLamp }
    values := c.values
    invalid := c.invalid
    tels := c.telegrams.filterMap fun t => match t.2, s.session? t.1 with
      | some h, some x => some (x.node, h)
      | _, _ => none
    lost := s.lostNodes
    cut := c.cut
    reqs := (es.filter Entry.isRoute).map fun e => e.req c.time
    elems := (es.filter Entry.isElem).map Entry.elem
    events := (es.filter Entry.isEvent).map Entry.event }

/-- The answer to an EVENT (R309, R310). -/
def Entry.eventAnswer (e : Entry) (status : Byte) : Answer := e.answer status []

/-! MODE_SET (R77, R267) -/

/-- The conditions of MODE_SET RUN from STOP (R77, R345, R443, R482). -/
def State.runAllowed (s : State) : Bool :=
  let lc := s.trust.cfg.lifecycle
  !s.flt.safelight.on && (lc = .commissioning || lc = .service || lc = .maintenance) &&
    (match s.image? with
      | some i => fits i.hdr s.cs s.paired
      | none => false) &&
    s.cyc.ready && s.cyc.settingsOk && s.upd.conversionFailedAt.isNone && !s.upd.boot.conversionFailed && s.v.strap ≠ 3

/-- The conditions of MODE_SET HOLD in RUN (R77). -/
def State.holdAllowed (s : State) (forceSafe : Bool) : Bool :=
  let lc := s.trust.cfg.lifecycle
  (lc = .commissioning || (lc = .maintenance && forceSafe)) && !(s.pair.role = .active && s.pair.mirror.partnerReady)

/-- MODE_SET at the Fix or release of its cut. A change to HOLD has been taken at the end of Develop, so that
one found here has failed its condition. -/
def State.modeSet (s : State) (e : Entry) : State :=
  match e.byte 0, s.cyc.mode with
  | 0, .stop => s.done e []
  | 0, .run => { s with cyc.modeDue := some .stop }.done e []
  | 0, .hold => { s with cyc.modeDue := some .stop }.done e []
  | 1, .run => s.done e []
  | 1, .stop => if s.runAllowed then { s with cyc.modeDue := some .run }.done e [] else s.refuse e 0x13 noDetail
  | 1, .hold =>
    { s with cyc.modeDue := some .run, cyc.hold := s.cyc.hold.map fun h => { h with resume := h.resume ++ [e.answer 0x00 []] } }
  | _, .hold => s.done e []
  | _, .run => s.refuse e 0x13 noDetail
  | _, .stop => s.refuse e 0x12 noDetail

/-- A MODE_SET HOLD of the cut that the end of Develop takes (R77). -/
def State.holdRequest (s : State) : Option Entry :=
  (sortEntries (s.cutUpTo s.cyc.cons.cut)).find? fun e =>
    e.op = 0x0501 && e.byte 0 = 2 && !e.done && s.holdAllowed (e.byte 1 = 1)

/-- The module halts after Develop, under force-safe with its outputs held safe (R77, R78, R82); a Test Strip run is
abandoned (R455). -/
def State.enterHold (s : State) (e : Entry) : State :=
  let safe := e.byte 1 = 1
  let s := (s.take e.adm).endTest 0x12 0 noDetail
  let s := if safe then
      { s.darken with cyc.outputs := 0, fio.prevOutputs := 0, fio.pulseFrom := none, rail := s.rail.holdSafe s.image true }
    else s
  { s with
    cyc.mode := .hold, cyc.phase := .halted
    cyc.hold := some { since := s.now, forceSafe := safe, owed := some (e.answer 0x00 []) } }

/-- The module halts again after a HOLD_STEP, which is answered at the next release (R78, R269). -/
def State.haltAgain (s : State) (h : HoldRec) : State :=
  { s.sayAll h.stepOwed with
    cyc.phase := .halted, cyc.hold := some { h with stepping := false, stepOwed := [] } }

/-- HOLD_STEP (R78, R269): the held cycle goes on. -/
def State.holdStep (s : State) (e : Entry) : State :=
  match s.cyc.mode, s.cyc.hold with
  | .hold, some h =>
    if h.since + ms 600000 ≤ s.now then s.refuse e 0x13 noDetail
    else { s with cyc.hold := some { h with stepping := true, stepOwed := h.stepOwed ++ [e.answer 0x00 []] } }
  | _, _ => s.refuse e 0x12 noDetail

/-- A hold that has lasted 600 s ends in STOP (R77). -/
def State.holdExpired (s : State) : State :=
  match s.cyc.hold with
  | some h => if h.since + ms 600000 ≤ s.now then ((s.endHold 0x12).enterStop).discardCycle else s
  | none => s

/-! CYCLE_SET and PAIR_SET (R52 to R54, R268, R285) -/

/-- The settings that a CYCLE_SET brings. -/
def Entry.cycleSettings (e : Entry) : CycleSettings :=
  { p := fieldAt e.payload 0 2, develop := e.byte 2, mirror := e.byte 3, fixLatest := e.byte 4, skipLimit := e.byte 5,
    sync := BitVec.ofNat 2 (e.byte 6) }

/-- The deadlines satisfy R53. -/
def CycleSettings.ordered (c : CycleSettings) : Bool := c.develop + 5 ≤ c.mirror && c.mirror + 5 ≤ c.fixLatest

/-- New settings are written to both stores (R268, R285); one of the two commands that R482 waits for has completed. -/
def State.settingsWritten (s : State) (bit : BitVec 2) : State :=
  let need := s.cyc.defaultsNeed &&& ~~~bit
  { s with cyc.defaultsNeed := need, cyc.settingsOk := s.cyc.settingsOk || need = 0 }.storeSettings

/-- An earlier command of the same cut with an opcode (R245). -/
def earlier (cut : List Entry) (e : Entry) (op : W16) : Option W32 :=
  (cut.find? fun x => x.op = op && !x.done && serialLt x.adm e.adm).map fun x => x.adm

/-- CYCLE_SET; `conflict`: an earlier LOGIC_SWITCH of the same cut. -/
def State.cycleSet (s : State) (e : Entry) (conflict : Option W32) : State :=
  let c := e.cycleSettings
  let fit := match s.image? with
    | some i => fits i.hdr c s.paired
    | none => true
  if s.cyc.mode ≠ .stop then s.refuse e 0x12 noDetail
  else if s.upd.onTrial && s.upd.converted then s.refuse e 0x13 noDetail
  else match conflict with
    | some a => s.refuse e 0x20 (detail 7 0 0 0 a.toNat)
    | none =>
      if !c.ordered || !fit then s.refuse e 0x21 noDetail
      else ({ s with cyc.cycleDue := some c }.settingsWritten 1).done e []

/-- PAIR_SET in the Slack. -/
def State.pairSet (s : State) (e : Entry) : State :=
  if s.cyc.mode ≠ .stop then s.refuse e 0x12 noDetail
  else if s.upd.onTrial && s.upd.converted then s.refuse e 0x13 noDetail
  else
    let p : PairSettings := { lease := e.byte 0, essential := BitVec.ofNat 12 (fieldAt e.payload 2 2) }
    ({ s with cyc.pairDue := some p }.settingsWritten 2).done e []

/-! LAMP_RELEASE (R284, R361) -/

/-- The holder may begin a handover: its partner is ready (R284, R367). -/
def State.mayHandOver (s : State) : Bool :=
  s.pair.role = .active && s.pair.mirror.partnerReady && !s.pair.mirror.ownPositionNow && s.pair.lease.handover.isNone

/-- The LAMP_RELEASE of the cut that the handover takes. -/
def State.handoverRequest (s : State) (cut : W32) : Option Entry :=
  if s.mayHandOver then (sortEntries (s.cutUpTo cut)).find? fun e => e.op = 0x0902 && !e.done else none

/-- A handover begins in this cycle (R361); its entry keeps its tray until the Fix. -/
def State.beginHandover (s : State) (cut : W32) : State :=
  match s.handoverRequest cut with
  | some e => { s with pair.lease.handover := some e, pair.lease.handoverAnswer := none, pair.lease.handed := false }
  | none => s

/-- LAMP_RELEASE at its Fix or release where no handover has taken it. -/
def State.lampRelease (s : State) (e : Entry) : State :=
  match s.pair.lease.handover with
  | some x => if x.adm = e.adm then s else s.refuse e 0x13 noDetail
  | none => s.refuse e (if s.cyc.mode = .hold then 0x12 else 0x13) noDetail

/-! Every other cut command -/

def State.sessionClose (s : State) (e : Entry) : State := (s.modSession e.sid Session.close).done e []

/-- The lifecycle state permits the opcode (R247). -/
def State.lifecyclePermits (s : State) (op : W16) : Bool :=
  match opRow op.toNat s.ps.lease with
  | some row => row.lifecycles.getLsbD s.trust.cfg.lifecycle.code
  | none => false

/-- The FAULT_INJECT of a cut that arms an injection: the first in admission sequence that nothing but another one stands
against (R245, R275). -/
def State.injector (s : State) (cut : List Entry) : Option W32 :=
  ((cut.filter fun e => e.op = 0x0640 && s.lifecyclePermits e.op && injectable.getLsbD (fieldAt e.payload 0 2)).foldr
    (insertBy fun a b => !serialLt b.adm a.adm) []).head?.map fun e => e.adm

/-- One cut command outside groups 0x01xx and 0x02xx. `cut`: its cut. -/
def State.cutCommand (s : State) (cut : List Entry) (e : Entry) : State :=
  if !s.lifecyclePermits e.op then s.refuse e 0x13 noDetail
  else match e.op.toNat with
    | 0x0402 => s.sessionClose e
    | 0x0403 => s.done e []
    | 0x0501 => s.modeSet e
    | 0x0502 => s.cycleSet e (earlier cut e 0x0A02)
    | 0x0503 => s.holdStep e
    | 0x0621 => s.counterSet e
    | 0x0630 => s.faultClear e
    | 0x0640 => s.faultInject e (s.injector cut)
    | 0x0902 => s.lampRelease e
    | 0x0A02 => if s.cyc.mode = .hold then s.refuse e 0x12 noDetail else s.logicSwitch e s.rail (earlier cut e 0x0502)
    | _ => s

/-- The commands of a cut, in order; each leaves its tray (R228). -/
def State.cutCommands (s : State) (cut : List Entry) : State := cut.foldl (fun s e => State.cutCommand (s.take e.adm) cut e) s

/-- Every cut command up to a tray cut, outside groups 0x01xx and 0x02xx and EVENTs (R245). Those whose time has
passed have no effect and are answered FAILED_TIMEOUT (R71). -/
def State.otherCommands (s : State) (cut : W32) : State :=
  let ended := fun (e : Entry) => e.done
  let s := s.endEntries ended 0x40 noDetail
  let l := sortEntries ((s.cutUpTo cut).filter fun e => !e.vital && !e.isEvent)
  s.cutCommands l

/-! What a Fix commits, and the replies that it sends (R50, R190) -/

/-- A route is locked. -/
def RouteState.held (x : RouteState) : Bool :=
  match x with
  | .idle => false
  | .requested => false
  | .checked => false
  | _ => true

/-- Densitometer events 8 and 9 (R471). -/
def State.countRoutes (s : State) (old new : Rail) : State :=
  let st := fun (r : Rail) (oid : Nat) => match r.obj? oid with
    | some { body := .route x, .. } => some x.state
    | _ => none
  old.objs.foldl (fun s o => match st old o.oid, st new o.oid with
    | some a, some b =>
      if !a.held && b.held then s.tally 8 Lane.all
      else if a.held && b = .idle then s.tally 9 Lane.all
      else s
    | _, _ => s) s

/-- The state that a Fix on some outputs commits. -/
def State.settled (s : State) (d : DevResult) (on : Chans) : Rail :=
  if d.ran then closeRail s.image on s.forcedSafe d.rail else d.rail

/-- The replies that Develop brought, with their reports from the state that the Fix commits (R249, R253). -/
def State.fixOutcomes (s : State) (d : DevResult) (on : Chans) : List Answer :=
  d.answers ++ d.outs.map fun o => o.answer s.image (s.settled d on)

/-- What a Fix commits (R50), with both drives of a point off that the vote would energise together (R115). -/
def State.commit (s : State) (d : DevResult) (v : OutputImage) : State :=
  let healthy := s.cyc.mode = .run && s.votes = 3 && s.upd.onTrial && s.holdsLamp
  let r := s.settled d v.outputs
  { s.countRoutes s.rail r with
    rail := r
    fio.prevOutputs := s.cyc.outputs, fio.pulseFrom := some s.now
    cyc.outputs := singleDrives s.image v.outputs, cyc.lastFix := s.cyc.cycle, cyc.skips := 0, cyc.phase := .done, cyc.dev := none
    cyc.voted := some v, cyc.fixedInRun := s.cyc.fixedInRun || s.cyc.mode = .run
    net.entries := s.net.entries.filter fun e => !d.taken.contains e.adm
    pair.ranOnce := s.pair.ranOnce || s.cyc.mode = .run
    upd.healthy := if healthy then s.upd.healthy + 1 else s.upd.healthy }

/-- The replies to MODE_SET RUN that end a hold (R267). -/
def State.answerResume (s : State) : State :=
  match s.cyc.hold with
  | some h => { s.sayAll h.resume with cyc.hold := some { h with resume := [] } }
  | none => s

/-- The replies that wait at the Fix of a cycle: Develop's, those of a hold that ends, and those of the other commands of
the cut. -/
def State.fixReplies (s : State) (d : DevResult) (v : OutputImage) : State :=
  (((s.commit d v).sayAll (s.fixOutcomes d v.outputs)).answerResume).otherCommands s.cyc.cons.cut

/-- What the Develop of a cycle brings by itself (R50, R59). A module without the Lamp answers EVENTs and changes
nothing (R309, R346). -/
def State.developRun (s : State) : DevResult :=
  let x := s.devIn
  let own := (s.cutUpTo s.cyc.cons.cut).filter fun e => (e.vital || e.isEvent) && !e.done
  if s.holdsLamp then
    let y := develop x s.rail
    { rail := y.rail, outs := y.outs, taken := own.map fun e => e.adm, ran := true,
      outputs := localOutputs s.image y.rail &&& s.commandable }
  else
    let evs := own.filter Entry.isEvent
    { rail := s.rail, answers := evs.map fun e => e.eventAnswer 0x00, taken := evs.map fun e => e.adm, outputs := 0 }

/-- What the Develop of a cycle brings, with the replies of the Fix that it leads to. -/
def State.developResult (s : State) : DevResult :=
  let d := s.developRun
  { d with preview := (s.fixReplies d { outputs := if s.forcedSafe then 0 else d.outputs }).net.answers }

end Sys2Proof.Machine
end

