-- ==== Sys2Proof/Machine/TestStrip.lean ====
section
/-! DEFINITION. Test Strip runs (R446 to R455). -/

namespace Sys2Proof.Machine

/-- A lane that keeps a run from beginning, named by the source of its last withdrawal (R447). -/
def State.laneDetail (s : State) (l : Lane) : List Byte := detail 4 0 (s.lane l).cause.toNat

/-- The first lane that is not in VOTING. -/
def State.idleLane (s : State) : Option Lane := Lane.all.find? fun l => !s.isVoting l

/-- An OUTPUT or OUTPUT_PAIRED channel of group g that is on in the value in force (R447, R452). -/
def State.outputOn (s : State) (g : Nat) : Option Nat :=
  let m := (s.image.modeMask fun x => x = .output || x = .paired) &&& groupMask g &&& s.cyc.outputs
  (List.range 96).find? fun ch => m.getLsbD ch

/-- The object bound to a channel (R447, R452). -/
def Image.channelObject (i : Image) (ch : Nat) : List Byte :=
  match i.objects.find? fun d => match d.source with
    | .locally bind => bind.any fun x => x.2.val = ch
    | _ => false with
  | some d => detail 2 0 0 d.oid d.symbol.toNat
  | none => detail 2

/-- The condition of R447 that a run fails, as its detail. -/
def State.testRefusal (s : State) (target index : Nat) : Option (List Byte) :=
  let service : Bool := s.trust.cfg.lifecycle = .service
  if target = 1 then s.idleLane.map s.laneDetail
  else if s.votes < 2 then some (match s.idleLane with
    | some l => s.laneDetail l
    | none => detail 4 0 0xFFFF)
  else if target = 2 then
    if service then (s.outputOn (index - 1)).map s.image.channelObject else none
  else if service && !(s.paired && !s.holdsLamp && s.pair.mirror.heardHolder) then some (detail 4 0 0xFFFF)
  else none

/-- TEST_STRIP_RUN in the Slack of the cycle to which it is charged (R270, R447, R448). -/
def State.testStripRun (s : State) (e : Entry) : State :=
  if s.test.isSome || s.testPart < 100000 then s.refuse e 0x10 noDetail
  else match s.testRefusal (e.byte 0) (e.byte 1) with
    | some det => s.refuse e 0x21 det
    | none =>
      { s with test := some { target := e.byte 0, index := e.byte 1, sid := e.sid, adm := e.adm, cmdSeq := e.cmdSeq,
                              cycle := s.cyc.cycle.toNat } }

/-- The run has its slices in this cycle. -/
def TestRun.due (r : TestRun) (cycle : W48) : Bool := r.cycle < cycle.toNat

/-- One slice in the Slack (R449, R450, R452, R453). -/
def State.testSlice (s : State) : State :=
  match s.test with
  | none => s
  | some r =>
    if !r.due s.cyc.cycle || s.testSlices r.target ≤ r.taken then s
    else
      let blocked := if r.target = 2 && s.trust.cfg.lifecycle = .service then s.outputOn (r.index - 1) else none
      match blocked with
      | some ch => s.endTest 0x21 0 (s.image.channelObject ch)
      | none =>
        let first := r.taken = 0
        let s := if first then s.event 0x0301 [BitVec.ofNat 8 r.target, BitVec.ofNat 8 r.index] else s
        { s with test := some { r with
            taken := r.taken + 1, begun := if first then s.now else r.begun, sliceEnd := s.now + s.testPart } }

/-- A boundary at a run (R450, R451): the lane enters TESTING before its first slice; after the last slice, or
when the lane has been withdrawn, the run ends. -/
def State.testBoundary (s : State) : State :=
  match s.test with
  | none => s
  | some r =>
    if !r.due s.cyc.cycle then s
    else
      let result := boolNat r.found.isSome
      match if r.target = 1 then Lane.ofIdx r.index else none with
      | some l =>
        if !r.started then
          if s.isVoting l then
            { s with test := some { r with started := true } }.modLane l fun x => { x with phase := .testing, minority := [] }
          else s.endTest 0x21 0 (s.laneDetail l)
        else if (s.lane l).phase ≠ .testing then s.endTest 0x00 1 noDetail
        else if s.testSlices 1 ≤ r.taken then s.endTest 0x00 result noDetail
        else s
      | none => if s.testSlices r.target ≤ r.taken then s.endTest 0x00 result noDetail else s

end Sys2Proof.Machine
end

