-- ==== Sys2Proof/Machine/Mirror.lean ====
section
/-! DEFINITION. What a module sends to its partner (R350, R351, R364, R365). -/

namespace Sys2Proof.Machine

/-- A partner entry of a DELTA from the consensus telegram of a session (R351). -/
def partnerRep (node : Node) (h : Option HeldTelegram) : PartnerRep :=
  match h with
  | some t => { node := node, qualified := true, seq := t.seq, fix := t.fix, echoEpoch := t.echoEpoch, slots := t.slots }
  | none => { node := node, qualified := false, seq := 0, slots := [] }

/-- Partner entries of the cycle in hand. -/
def State.partnerReps (s : State) : List PartnerRep :=
  s.cyc.cons.telegrams.filterMap fun t => (s.session? t.1).map fun x => partnerRep x.node t.2

/-- A command entry of a DELTA (R351). -/
def Entry.mirrored (e : Entry) : CmdEntry :=
  { op := e.op, tray := e.tray, payload := e.payload.take 8, adm := e.adm, node := e.node }

/-- Commands of groups 0x01xx and 0x02xx and EVENTs of the cut that Develop has taken. -/
def State.mirroredCmds (s : State) : List CmdEntry :=
  ((s.cutUpTo s.cyc.cons.cut).filter fun e => (e.vital || e.isEvent) && !e.done).map Entry.mirrored

/-- The body of the DELTA of the cycle in hand (R351). -/
def State.deltaBody (s : State) (d : DevResult) : DeltaBody :=
  let c := s.cyc.cons
  { base := s.cyc.lastFix, handover := s.pair.lease.handover.isSome, digest := stateDigest s.image (s.settled d (if s.forcedSafe then 0 else d.outputs)) s.cyc.cycle,
    outputs := d.outputs, inputs := c.values, invalid := c.invalid, cut := c.cut, time := c.time,
    partners := s.partnerReps, cmds := s.mirroredCmds }

/-- The DELTA of the cycle in hand leaves (R61, R350). -/
def State.sendDelta (s : State) (d : DevResult) : State :=
  { s.sendMirror (.delta (s.deltaBody d)) with pair.lease.sent := true }

/-- RENEW leaves in a cycle in which neither it nor a DELTA has left (R350, R361). -/
def State.sendRenew (s : State) : State :=
  if s.mirrors && !s.pair.lease.sent then
    { s.sendMirror (.renew s.cyc.lastFix s.pair.lease.handover.isSome) with pair.lease.sent := true }
  else s

/-- The module has acknowledged something in this cycle (R350). -/
def State.ackedNow (s : State) : Bool :=
  match s.pair.lease.lastAck with
  | some t => decide (s.cyc.start ≤ t)
  | none => false

/-- The body of the module's ANNOUNCE (R350, R364). -/
def State.announceBody (s : State) : AnnounceBody :=
  { role := BitVec.ofNat 8 s.pair.role.code, wantsBulk := s.pair.mirror.wantBulk && !s.pair.mirror.stopped,
    epoch := s.pair.epochKnown }

/-- A module in paired use that does not hold the Lamp announces itself where it has nothing else to send,
requests a bulk, or has been warned of equal positions (R350, R364, R367). -/
def State.sendAnnounce (s : State) : State :=
  let m := s.pair.mirror
  if s.paired && !s.holdsLamp && (!s.ackedNow || m.wantBulk || m.ownPosition) then
    s.sendMirror (.announce s.announceBody)
  else s

/-- The body of a BULK: the state committed at the last Fix (R365). -/
def State.bulkBody (s : State) : BulkBody :=
  { base := s.cyc.lastFix, rail := s.rail, telegrams := s.partnerReps, cycle := s.cs, pair := s.ps,
    channels := s.image.channels, logicHash := s.image.hdr.hash, logicSerial := s.image.hdr.serial }

/-- The BULK that the partner has requested leaves in the Slack (R364). -/
def State.sendBulk (s : State) : State :=
  if s.mirrors && s.pair.mirror.bulkAsked then
    { s.sendMirror (.bulk s.bulkBody) with pair.mirror.bulkAsked := false }
  else s

end Sys2Proof.Machine
end

