-- ==== Sys2Proof/Machine/Release.lean ====
section
/-! DEFINITION. What leaves at a Fix or at a release (R235, R237, R244), the Slack that follows (R67), and the
releases of STOP and HOLD. -/

namespace Sys2Proof.Machine

/-! Replies and notices (R235) -/

/-- In ascending admission sequence. -/
def sortAnswers (l : List Answer) : List Answer := l.foldr (insertBy fun a b => !serialLt b.adm a.adm) []

/-- Densitometer events 6 and 7 (R471). -/
def State.countAnswer (s : State) (a : Answer) : State :=
  if a.notice || a.status = 0x02 then s else if a.status = 0x00 then s.tally 6 Lane.all else s.tally 7 Lane.all

/-- One outcome or final notice leaves; a session that is gone has none (R225), and SESSION_CLOSE's DONE is the last packet of its
session (R266). One whose lane images differ at the network die is not sent (R29). -/
def State.sendAnswer (s : State) (a : Answer) : State :=
  match s.session? a.sid with
  | none => s
  | some x =>
    let s := s.countAnswer a
    if !s.portUsable x.port then s
    else if x.pclass = 2 then s.eventReply x.sid true a.cmdSeq a.adm a.status a.body
    else if s.tornFor x.sid then s.note (tornSource x.port) Lane.all
    else
      let s := s.sendIn x.sid .sealed a.notice a.op 0 (replyPrefix a.status a.cmdSeq a.adm ++ a.body)
      if a.op = 0x0402 && a.status = 0x00 then s.modSession x.sid fun y => { y with lastSaid := true } else s

/-- OPEN_4 of a session that has become OPEN at this cycle's boundary (R218, R265). -/
def State.sendOpen4 (s : State) (x : Session) : State :=
  let body := if 2 ≤ x.gclass.toNat then [] else [4, 0, 1, 0, BitVec.ofNat 8 x.sid, BitVec.ofNat 8 x.tray, 0, 0]
  let s := s.modSession x.sid fun y => { y with open4Due := false }
  if s.portUsable x.port then s.sendIn x.sid .single false 0x0401 0 (replyPrefix 0x00 x.h 0 ++ body) else s

/-- A keepalive notice is due where the next Fix could come after the partner's supervision period (R224,
R266). -/
def State.keepaliveDue (s : State) (x : Session) : Bool :=
  x.pclass ≠ 2 && x.state ≠ .opening &&
    x.sentThisPeriod + ms x.periodMs ≤ s.cyc.start + s.periodNs + deadlineNs s.cs s.cs.fixLatest

def State.sendKeepalive (s : State) (x : Session) : State :=
  if s.keepaliveDue x && s.portUsable x.port then s.sendIn x.sid .sealed true 0x0403 0 (replyPrefix 0x00 0 0) else s

/-- Updates due at this Fix, by ascending subscription ID, as the state before its commit shows them (R263). -/
def State.dueUpdates (s : State) : List (Nat × List Byte) :=
  ((s.net.subs.filter fun u => (s.subDue u).1).foldr (insertBy fun a b => a.id ≤ b.id) []).map fun u =>
    (u.sid, s.updatePayload u)

def State.stepSubs (s : State) : State := { s with net.subs := s.net.subs.map fun u => (s.subDue u).2 }

def State.sendUpdate (s : State) (u : Nat × List Byte) : State :=
  match s.session? u.1 with
  | some x => if s.portUsable x.port then s.sendIn x.sid .sealed true 0x0302 0 u.2 else s
  | none => s

/-- Replies and notices of a Fix or release, in the order of R235 within each session. -/
def State.sendReplies (s : State) (updates : List (Nat × List Byte)) : State :=
  let s := (s.net.sessions.filter fun x => x.open4Due).foldl State.sendOpen4 s
  let s := (sortAnswers s.net.answers).foldl State.sendAnswer s
  let s := updates.foldl State.sendUpdate { s with net.answers := [] }
  s.net.sessions.foldl State.sendKeepalive s.saidSeal

/-! The Slack -/

/-- A service command in the Slack of the cycle to which it is charged (R233, R235, R236). -/
def State.serviceCommand (s : State) (e : Entry) : State :=
  if !s.lifecyclePermits e.op then s.refuse e 0x13 noDetail
  else match e.op.toNat with
    | 0x0301 => s.queryState e
    | 0x0302 => s.subscribe e
    | 0x0303 => s.unsubscribe e
    | 0x0601 => s.testStripRun e
    | 0x0610 => s.negativeRead e
    | 0x0620 => s.counterRead e
    | 0x0701 => s.updateOffer e
    | 0x0704 => s.updateSchedule e
    | 0x0708 => s.updateConfirm e
    | 0x0801 => s.propose e false
    | 0x0802 => s.sealApprove e
    | 0x0810 => s.propose e true
    | 0x0901 => s.lampStatus e
    | 0x0903 => s.pairSet e
    | 0x0A01 => s.logicLoad e
    | _ => s

/-- Service commands charged to this cycle or to one before it, in ascending admission sequence. -/
def State.servicesDue (s : State) : List Entry :=
  (s.net.entries.filter fun e => e.service && !e.done && e.cycle ≤ s.cyc.cycle.toNat).foldr
    (insertBy fun a b => !serialLt b.adm a.adm) []

/-- The committed state as a snapshot or delta carries it (R204). -/
def State.committedWords (s : State) : List W32 := bytesWords (railBytes s.image s.rail s.cyc.lastFix)

/-- Words that the slice of a cycle carries at floor pace: 10 % of P at 100 M words a second (R26, R204). -/
def State.sliceWords (s : State) : Nat := 10000 * s.cs.p

/-- The next slice of a snapshot, or the range asked for once more, from each source lane (R204). -/
def State.sendSlice (s : State) (l : Lane) : State :=
  let r := (s.lane l).resync
  let from_ := s.voting
  match r.asked with
  | some (first, n) =>
    (s.modLane l fun x => { x with resync.asked := none }).emitAll
      (from_.map fun k => .resyncBulk k l r.snapshot first ((r.words.drop first).take n))
  | none =>
    if r.words.length ≤ r.sent then s
    else
      (s.modLane l fun x => { x with resync.sent := r.sent + s.sliceWords }).emitAll
        (from_.map fun k => .resyncBulk k l r.snapshot r.sent ((r.words.drop r.sent).take s.sliceWords))

/-- The two lanes in VOTING take the snapshot, and send its slices and every later commit to a returning lane (R204). -/
def State.resyncOut (s : State) (l : Lane) : State :=
  let r := s.lane l
  if r.phase ≠ .resync || !r.resync.ready then s
  else if r.resync.snapped then
    (s.sendSlice l).emitAll (s.voting.map fun k => .resyncDelta k l s.cyc.cycle s.committedWords)
  else
    (s.modLane l fun r => { r with
      resync.snapped := true, resync.snapshot := s.cyc.cycle, resync.words := s.committedWords }).sendSlice l

/-- Words of lane memory to be read in each Slack, so that all 2^22 are read within 600 s (R18). -/
def State.scanWords (s : State) : Nat := (2 ^ 22 * s.cs.p + 599999) / 600000

/-- A lane reads its next words of memory (R17, R18). -/
def State.scanLane (s : State) (l : Lane) : State :=
  let a := (s.lane l).scan
  let due := (s.lane l).sram.filter fun x => (x.1 + 2 ^ 22 - a) % 2 ^ 22 < s.scanWords
  let s := s.modLane l fun r => { r with scan := (a + s.scanWords) % 2 ^ 22 }
  due.foldl (fun s x => s.sramRead l (BitVec.ofNat 22 x.1) x.2.1 x.2.2) s

/-- The Slack of a cycle (R18, R49, R67): the Test Strip slice, service commands, resynchronisation, the mirror, the sweep of lane
memory. -/
def State.slack (s : State) : State :=
  let s := s.testSlice
  let s := s.servicesDue.foldl (fun s e => (s.take e.adm).serviceCommand e) s
  let s := Lane.all.foldl State.resyncOut s
  let s := s.liveLanes.foldl State.scanLane s
  (s.sendBulk).sendAnnounce

/-! The lease (R354, R357) -/

/-- Giving up the Lamp without Safelight (R237, R357). -/
def State.giveUpLamp (s : State) (reason : Option Byte) : State :=
  if s.pair.role = .active then (s.ceaseHolding reason).endEntries Entry.vital 0x13 noDetail else s

/-- The vote instant finds the lease older than L periods. -/
def State.leaseLapsed (s : State) : Bool :=
  s.pair.role = .active && match s.pair.lease.renewed with
    | some t => decide (t + s.ps.lease * s.periodNs ≤ s.now)
    | none => true

/-- A handover ends with the lease on which it rode (R284). -/
def State.lapse (s : State) : State :=
  if s.leaseLapsed then (s.endHandover 0x41 noDetail).giveUpLamp none else s

/-! The releases of R244 -/

/-- EVENTs of the cut of a cycle without Develop (R309, R310). -/
def State.latchEvent (s : State) (e : Entry) : State :=
  let s := s.take e.adm
  if !s.holdsLamp then s.say (e.eventAnswer 0x00)
  else if badEvent s.image e.event then s.say (e.answer 0x21 (detail 5))
  else match slotObject s.image e.node e.event.slot with
    | some (d, _) => { s with rail := latch d e.event.value s.rail }.say (e.eventAnswer 0x00)
    | none => s

def State.latchEvents (s : State) : State :=
  (sortEntries ((s.cutUpTo s.cyc.cons.cut).filter fun e => e.isEvent && !e.done)).foldl State.latchEvent s

/-- The fence block of what leaves from here on is that of this Fix or release (R210, R295). -/
def State.fence (s : State) : State := { s with cyc.fenceCycle := s.cyc.cycle.setWidth 32, cyc.fenceEpoch := s.ownEpoch }

/-- The release of a cycle in STOP: safe telegrams, then replies. It ends a run of skipped cycles (R70; DEDUCED log 133). -/
def State.stopRelease (s : State) : State :=
  let updates := s.dueUpdates
  let s := s.stepSubs.lapse.fence
  let s := (s.sendTelegrams .safe).latchEvents
  let s := (s.beginHandover s.cyc.cons.cut).sendRenew
  let s := ((s.otherCommands s.cyc.cons.cut).freeTrays s.cyc.cons.cut).sendReplies updates
  { s.slack with cyc.phase := .done, cyc.skips := 0 }

/-- Two lanes have presented matching state deltas (R29, R61). -/
def State.deltasMatch (s : State) : Bool :=
  s.voting.any fun l => (s.lane l).devDone && s.voting.any fun k => k ≠ l && (s.lane k).devDone && (s.lane k).delta = (s.lane l).delta

/-- A held cycle goes on with its Mirror phase, which an unpaired module has empty (R62, R78). -/
def State.startMirror (s : State) : State :=
  match s.cyc.dev with
  | some d =>
    if s.mirrors then { (if s.deltasMatch then s.sendDelta d else s) with cyc.phase := .mirror }
    else { s with cyc.phase := .rendezvous }
  | none => s

/-- The held cycle is to go on (R77, R78); a MODE_SET STOP taken last discards it. -/
def State.resuming (s : State) : Bool :=
  s.cyc.modeDue ≠ some .stop && s.cyc.hold.elim false fun h => h.stepping || !h.resume.isEmpty

/-- The release of a cycle in HOLD: repeated telegrams, then replies and every cut command admitted. -/
def State.holdRelease (s : State) : State :=
  let updates := s.dueUpdates
  let s := s.stepSubs.lapse
  let s := (s.sendTelegrams .again).fence.sendRenew
  let s := { s with fio.prevOutputs := s.cyc.outputs, fio.pulseFrom := some s.now }
  let owed := s.cyc.hold.elim [] fun h => h.owed.toList
  let s := { s.sayAll owed with cyc.hold := s.cyc.hold.map fun (h : HoldRec) => { h with owed := none } }
  let s := ((s.otherCommands (s.net.nextAdm - 1)).freeTrays (s.net.nextAdm - 1)).sendReplies updates
  if s.resuming then s.startMirror else s.slack

/-- The release instant has come in a cycle of STOP. -/
def State.stopReleaseDue (s : State) : Bool :=
  s.cyc.mode = .stop && s.cyc.phase = .release && s.cyc.start + s.exposeNs ≤ s.now && 2 ≤ s.votes

/-- The release instant has come, or has passed when the module halts, in a cycle in which it holds; one release in each (R78,
R244). -/
def State.holdReleaseDue (s : State) : Bool :=
  s.cyc.mode = .hold && s.cyc.phase = .halted && s.cyc.start + s.exposeNs ≤ s.now && 2 ≤ s.votes &&
    s.cyc.fenceCycle ≠ s.cyc.cycle.setWidth 32 && s.cyc.hold.isSome

/-- SAFE_STATE_RELEASE (R244). -/
def State.safeRelease (s : State) : State :=
  if s.stopReleaseDue then s.stopRelease else if s.holdReleaseDue then s.holdRelease else s

end Sys2Proof.Machine
end

