-- ==== Sys2Proof/Machine/Vote.lean ====
section
/-! DEFINITION. From Develop to the Fix: completion of Develop (R59, R68), the Mirror phase (R61, R361),
rendezvous (R62 to R65, R190 to R192), the vote (R193 to R197, R205) and the Fix (R50, R66). -/

namespace Sys2Proof.Machine

/-- A deadline of this cycle, in hundredths of P, lies at or before now; `strict`: before. -/
def State.past (s : State) (hundredths : Nat) (strict : Bool) : Bool :=
  let t := s.cyc.start + deadlineNs s.cs hundredths
  if strict then t < s.now else t ≤ s.now

/-! Develop -/

/-- Lanes in VOTING that have completed Develop. -/
def State.developed (s : State) : List Lane := s.voting.filter fun l => (s.lane l).devDone

/-- What follows Develop: a halt (R77, R78), or Mirror with the handover that the cut asks for (R361). -/
def State.developEnd (s : State) : State :=
  match s.cyc.mode, s.cyc.hold with
  | .run, _ =>
    match s.holdRequest with
    | some e => s.enterHold e
    | none => (s.beginHandover s.cyc.cons.cut).startMirror
  | .hold, some h => s.haltAgain h
  | _, _ => s

/-- The phases in which a lane may complete its Develop: a tardy lane goes on after the vote (R196). -/
def State.developing (s : State) (l : Lane) : Bool :=
  (s.lane l).phase.exchanges && !(s.lane l).devDone &&
    match s.cyc.phase with
    | .develop => true
    | .mirror => true
    | .rendezvous => true
    | .waitThird => true
    | .voteWait => true
    | .halted => true
    | .done => (s.lane l).lateDue
    | _ => false

/-- The third lane's delta matches one of two that differ, so that the delta leaves after all (R29, R61). -/
def State.lateDelta (s : State) : State :=
  match s.cyc.phase, s.cyc.dev with
  | .mirror, some d => if s.deltasMatch && !s.pair.lease.sent then s.sendDelta d else s
  | _, _ => s

/-- A lane completes Develop and presents its state delta, which `delta` disturbs (R59, R61). -/
def State.developDone (s : State) (l : Lane) (delta : W64) : State :=
  if s.developing l then
    let s := if s.cyc.phase = .develop && s.cyc.dev.isNone then { s with cyc.dev := some s.developResult } else s
    let s := s.modLane l fun r => { r with devDone := true, delta := delta }
    if s.cyc.phase = .develop && 2 ≤ s.developed.length then s.developEnd else s.lateDelta
  else s

/-- Develop belongs to the cycle in hand. -/
def State.developsNow (s : State) : Bool := s.cyc.mode = .run || s.cyc.hold.elim false fun h => h.stepping

/-- Develop runs, or should, in the cycle in hand. -/
def State.beforeDevelopEnd (s : State) : Bool :=
  s.developsNow && (s.cyc.phase = .expose || s.cyc.phase = .setWait || s.cyc.phase = .develop)

/-- Each lane whose Develop is not complete at the Develop deadline counts it, once in a cycle (R471). -/
def State.developMissed (s : State) : State :=
  if s.developsNow && !s.cyc.devJudged then
    { s with cyc.devJudged := true }.tally 3 (Lane.all.filter fun l => (s.lane l).phase.exchanges && !(s.lane l).devDone)
  else s

/-- The Develop deadline finds fewer than two lanes done (R68). -/
def State.developLate (s : State) : State := if s.beforeDevelopEnd then s.skip else s

/-! Mirror -/

/-- The holder sends RELEASE as planned (R357, R361). -/
def State.handOver (s : State) : State :=
  match s.pair.lease.handover with
  | some e => { s.giveUpLamp (some 0x01) with pair.lease.handover := some e, pair.lease.handed := true }
  | none => s

/-- What the partner's answer makes of a handover under way: at the Mirror deadline, or at a Fix before it
(R361). -/
def State.settleHandover (s : State) (deadline : Bool) : State :=
  let x := s.pair.lease
  if x.handover.isNone || x.handed then s
  else match x.handoverAnswer with
    | none => if deadline then s.endHandover 0x41 noDetail else s
    | some false => s.endHandover 0x21 noDetail
    | some true => if deadline && s.cyc.mode ≠ .stop then s else s.handOver

/-- The Mirror phase ends without its ACK: the cycle runs unmirrored (R61). -/
def State.unmirror (s : State) : State :=
  if s.cyc.phase = .mirror then
    { s with
      cyc.unmirrored := true, cyc.phase := .rendezvous
      cyc.unmirroredTotal := if s.cyc.unmirroredTotal = 0xFFFF then 0xFFFF else s.cyc.unmirroredTotal + 1 }
  else s

/-- The Mirror deadline (R61, R350, R361). -/
def State.mirrorEnd (s : State) : State := (s.unmirror.settleHandover true).sendRenew

/-! Rendezvous -/

/-- Content of a TELEGRAM of this cycle's Fix (R295). -/
def State.telegramBytes (s : State) (r : Rail) (safe : Bool) (x : Session) : List Byte :=
  let slots := commandSlots s.image r x.node (slotCount s.image x) safe
  beBytes 4 (s.cyc.cycle.toNat % 2 ^ 32) ++ beBytes 4 (if x.pclass = 1 then x.maxOwn.toNat else 0) ++
    beBytes 2 slots.length ++ [0, 0] ++ wordBytes slots

def Answer.bytes (a : Answer) : List Byte := replyPrefix a.status a.cmdSeq a.adm ++ a.body

/-- The telegram digest of this cycle's Fix, over its telegrams and every reply that it sends (R190, R235). -/
def State.telegramDigest (s : State) (d : DevResult) (safe : Bool) : W64 :=
  let sorted := s.net.sessions.foldr (insertBy fun a b => a.sid ≤ b.sid) []
  let r := s.settled d (if s.forcedSafe then 0 else d.outputs)
  crc64a (sorted.flatMap fun x =>
    (if x.pclass = 2 || x.pclass = 1 then s.telegramBytes r (safe || !s.holdsLamp) x else []) ++
      (sortAnswers (d.preview.filter fun a => a.sid = x.sid)).flatMap Answer.bytes)

/-- The OUTPUT_IMAGE that a healthy lane forms (R190). `lease` says here that the lane's count of the lease
agrees with V's (log 5). -/
def State.healthyImage (s : State) (d : DevResult) : OutputImage :=
  { cycle := s.cyc.cycle
    outputs := if s.forcedSafe then 0 else d.outputs
    digest := stateDigest s.image (s.settled d (if s.forcedSafe then 0 else d.outputs)) s.cyc.cycle
    telegram := s.telegramDigest d false
    mirror := if s.mirrors then crc64a (s.deltaBody d).bytes else 0
    lease := true
    ack := s.pair.lease.acked
    unmirrored := s.cyc.unmirrored }

/-- The image of a lane in Safelight (R373). -/
def State.safeImage (s : State) (d : DevResult) : OutputImage :=
  { s.healthyImage d with outputs := 0, telegram := s.telegramDigest d true, lease := false }

/-- An image with the differences that a faulty lane brings. -/
def OutputImage.disturb (x : OutputImage) (e : ImageError) : OutputImage :=
  { x with
    digest := x.digest ^^^ e.digest, telegram := x.telegram ^^^ e.telegram, mirror := x.mirror ^^^ e.mirror,
    lease := x.lease != e.lease, outputs := x.outputs ^^^ e.outputs }

/-- The OUTPUT_IMAGE of a lane; its mirror digest is over its own delta, and its count of the lease counts (R39, R190). -/
def State.imageOf (s : State) (d : DevResult) (l : Lane) (e : ImageError) : OutputImage :=
  let x := (if 3 ≤ (s.lane l).calls then s.safeImage d else s.healthyImage d).disturb e
  if s.mirrors then { x with mirror := x.mirror ^^^ (s.lane l).delta, lease := x.lease && s.laneLease l } else x

/-- Every item of the vote is equal (R193, R195). -/
def OutputImage.agrees (x y : OutputImage) : Bool :=
  x.digest = y.digest && x.telegram = y.telegram && x.mirror = y.mirror && x.lease == y.lease && x.outputs = y.outputs

def wide (w : W64) : List W32 := [BitVec.ofNat 32 (w.toNat / 2 ^ 32), BitVec.ofNat 32 w.toNat]

/-- Body of an OUTPUT_IMAGE (R190); `valid` is V's count of the lease. -/
def OutputImage.words (x : OutputImage) (valid : Bool) : List W32 :=
  cycleWords x.cycle ++ chanWords x.outputs ++ wide x.digest ++ wide x.telegram ++ wide x.mirror ++
    [BitVec.ofNat 32 (1 + at_ 1 (boolNat (x.lease == valid)) + at_ 2 (boolNat x.ack) + at_ 3 (boolNat x.unmirrored))]

/-- Lanes in VOTING that have reached rendezvous. -/
def State.present (s : State) : List Lane := s.voting.filter fun l => (s.lane l).image.isSome

/-- Two lanes hold each other's images: their channel carries (R27). -/
def State.joins (s : State) (k j : Lane) : Bool :=
  k = j || !((s.chan (Chan.between k j)).absent || (s.chan (Chan.between k j)).faulted)

/-- The SETs at the vote instant (R191, R192). -/
def State.rendezvousSets (s : State) : List SetMsg :=
  s.present.map fun k => { sender := k, rendezvous := true, held := laneMask (s.present.filter (s.joins k)) }

/-- Every lane forgets the SETs of an earlier rendezvous of the cycle. -/
def State.newVote (s : State) : State :=
  Lane.all.foldl (fun s l => s.modLane l fun r => { r with
    sets := r.sets.filter (fun m => !m.rendezvous), passed := r.passed.filter (fun x => !x.2) }) s

/-- Each lane present sends its SET and holds it (R192). -/
def State.sendSets (s : State) : State :=
  s.rendezvousSets.foldl (fun s m =>
    (s.modLane m.sender fun r => { r with sets := m :: r.sets }).emit
      (.laneWords m.sender (laneMessage 3 m.sender (m.words s.cyc.cycle)))) s.newVote

/-! Lanes that come late, and lanes in PROBATION (R196, R205) -/

/-- A PROBATION lane's image is compared with the vote: after three matches it votes (R205, R206). -/
def State.probationMatch (s : State) (v : OutputImage) (l : Lane) (x : OutputImage) : State :=
  if x.agrees v then
    s.modLane l fun r => { r with lateDue := false, matched := r.matched + 1, enter := r.enter || 3 ≤ r.matched + 1 }
  else s.noteOut 0x042 l

/-- A tardy lane's image is compared with the voted image (R196). -/
def State.tardyMatch (s : State) (v : OutputImage) (l : Lane) (x : OutputImage) : State :=
  if x.agrees v then s.modLane l fun r => { r with lateDue := false } else s.noteOut 0x043 l

def State.lateMatch (s : State) (v : OutputImage) (l : Lane) (x : OutputImage) : State :=
  if (s.lane l).phase = .probation then s.probationMatch v l x else s.tardyMatch v l x

/-- A lane in VOTING outside the vote: tardy for this cycle, its switches off (R62, R63). `counted`: its
tardiness was counted when the vote began to wait for it (R64). -/
def State.voteOut (s : State) (counted : Bool) (l : Lane) : State :=
  (s.modLane l fun r => { r with
    lateDue := true, tardyRun := min 3 (r.tardyRun + 1)
    tardyTotal := if counted || r.tardyTotal = 0xFFFFFF then r.tardyTotal else r.tardyTotal + 1
    board := r.board.switchOff (~~~0) s.now }).tally 4 [l]

/-- Lanes that compute but are not in the vote are judged on the image they have, or owe it (R196, R205). -/
def State.judgeOutside (s : State) (v : OutputImage) (l : Lane) : State :=
  let r := s.lane l
  if r.phase = .probation || (r.phase = .voting && r.lateDue) then
    match r.image with
    | some x => s.lateMatch v l x
    | none => s.modLane l fun r => { r with lateDue := true }
  else s

/-! The Fix -/

/-- Each lane of the vote commands its switches (R66, R115). -/
def State.driveLanes (s : State) (v : OutputImage) (lanes : List Lane) : State :=
  let on := singleDrives s.image v.outputs
  lanes.foldl (fun s l =>
    let own := (s.lane l).image.elim 0 fun x => x.outputs
    (s.modLane l fun r => { r with tardyRun := 0 }).commandLane l (on &&& own)) s

/-- The Fix of a cycle on a voted image and the lanes of its vote (R50, R66, R235, R303). -/
def State.fix (s : State) (v : OutputImage) (lanes : List Lane) (counted : Bool) : State :=
  match s.cyc.dev with
  | none => s
  | some d =>
    let out := s.voting.filter fun l => !lanes.contains l
    let updates := s.dueUpdates
    let s := s.stepSubs
    let said := s.fixOutcomes d v.outputs
    let s := (s.commit d v).fence
    let s := out.foldl (fun s l => s.voteOut counted l) s
    let s := Lane.all.foldl (fun s l => s.judgeOutside v l) s
    let s := (s.driveLanes v lanes).sendTelegrams .fresh
    let s := (s.sayAll said).answerResume
    let s := ((s.otherCommands s.cyc.cons.cut).freeTrays s.cyc.cons.cut).settleHandover false
    ((s.sendReplies updates).tally 1 Lane.all).slack

/-- V and the lanes count the lease alike, or the module enters Safelight (R39). -/
def State.fixIfLease (s : State) (v : OutputImage) (lanes : List Lane) (counted : Bool) : State :=
  let s := if s.mirrors && !v.lease then s.note 0x1D0 Lane.all else s
  if s.flt.safelight.on then s else s.fix v lanes counted

/-! The vote -/

/-- The voted image of three, where two agree on each digest (R193). -/
def votedImage (x y z : OutputImage) : Option OutputImage :=
  match majority [x.digest, y.digest, z.digest], majority [x.telegram, y.telegram, z.telegram],
      majority [x.mirror, y.mirror, z.mirror] with
  | some a, some b, some c =>
    some { x with digest := a, telegram := b, mirror := c, lease := (x.lease && y.lease) || (y.lease && z.lease) || (z.lease && x.lease)
                  outputs := bridge x.outputs y.outputs z.outputs }
  | _, _, _ => none

/-- Three images (R193): a lane that differs is withdrawn at once, and the vote proceeds with the others. -/
def State.voteThree (s : State) (x y z : OutputImage) (counted : Bool) : State :=
  match votedImage x y z with
  | none => s.voteFault 0x072
  | some v =>
    let bad := [(Lane.a, x), (Lane.b, y), (Lane.c, z)].filter fun p => !p.2.agrees v
    let s := bad.foldl (fun s p => s.noteOut 0x042 p.1) s
    let good := Lane.all.filter fun l => !(bad.any fun p => p.1 = l)
    if s.flt.safelight.on || good.length < 2 then s else s.fixIfLease v good counted

/-- Two images (R64, R65, R195). -/
def State.voteTwo (s : State) (k j : Lane) (x y : OutputImage) (counted : Bool) : State :=
  if x.agrees y then s.fixIfLease x [k, j] counted
  else if s.votes = 3 then
    let s := { s with cyc.phase := .waitThird }
    if counted then s
    else (s.voting.filter fun l => l ≠ k && l ≠ j).foldl (fun s l => s.modLane l fun r =>
        { r with tardyTotal := if r.tardyTotal = 0xFFFFFF then r.tardyTotal else r.tardyTotal + 1 }) s
  else s.voteFault 0x071

/-- A cycle whose vote instant finds the lease lapsed reaches no Fix (R354): its telegrams leave in the
non-holder's form. -/
def State.lapsedCycle (s : State) : State :=
  { s.lapse.sendTelegrams .safe with cyc.dev := none, cyc.phase := .done }

/-- The vote instant (R62, R65, R192). -/
def State.voteInstant (s : State) : State :=
  if s.leaseLapsed then s.lapsedCycle
  else { s.sendSets with cyc.voteAt := s.now, cyc.counted := s.cyc.phase = .waitThird, cyc.phase := .voteWait }

/-- The vote over the images of the used set (R193 to R195). -/
def State.voteOver (s : State) (used : List Lane) (counted : Bool) : State :=
  match used, s.laneA.image, s.laneB.image, s.laneC.image with
  | [_, _, _], some x, some y, some z => s.voteThree x y z counted
  | [k, j], _, _, _ =>
    match (s.lane k).image, (s.lane j).image with
    | some x, some y => s.voteTwo k j x y counted
    | _, _ => s
  | _, _, _, _ => s

/-- A lane decides the used set at rendezvous (R192): the first to do so takes the vote; a wait for the third image ends at Fix
latest (R64). -/
def State.decideVote (s : State) (l : Lane) : State :=
  if s.isVoting l then
    let used := lanesOf (s.usedAt true l)
    if s.noneUsed true then s.skip
    else if 2 ≤ used.length && used.contains l then
      let s := s.voteOver used s.cyc.counted
      if s.cyc.phase = .waitThird && s.past s.cs.fixLatest false then s.skip else s
    else s
  else s

/-- A lane decides the exchange in hand (R192). -/
def State.decideExchange (s : State) (l : Lane) : State :=
  match s.cyc.phase with
  | .setWait => s.decideSet l
  | .voteWait => s.decideVote l
  | _ => s

/-- A lane that holds every SET of the exchange in hand decides (R192). -/
def State.setsHeld (s : State) (l : Lane) : State :=
  if s.holdsSets (s.cyc.phase = .voteWait) l then s.decideExchange l else s

/-- A lane whose 10 us have passed decides (R192). -/
def State.setsDue (s : State) (l : Lane) : State :=
  if s.setWaitOver (s.cyc.phase = .voteWait) false l then s.decideExchange l else s

/-- Lanes whose 10 us passed before this instant have decided; a vote that none of them could take is skipped (R192). -/
def State.setsPast (s : State) : State :=
  let rendezvous : Bool := s.cyc.phase = .voteWait
  let s := (s.voting.filter (s.setWaitOver rendezvous true)).foldl State.decideExchange s
  if rendezvous && s.cyc.phase = .voteWait && s.voting.all (s.setWaitOver true true) then s.skip else s

/-- Every lane in VOTING has arrived. -/
def State.allPresent (s : State) : Bool := s.present.length = s.votes

/-- A lane's OUTPUT_IMAGE arrives (R62, R64, R65). -/
def State.outputArrives (s : State) (l : Lane) (e : ImageError) : State :=
  match s.cyc.dev with
  | some d =>
    if (s.lane l).phase.exchanges && (s.lane l).devDone && (s.lane l).image.isNone &&
        (s.cyc.phase = .rendezvous || s.cyc.phase = .waitThird || s.cyc.phase = .voteWait) then
      let x := s.imageOf d l e
      let s := (s.modLane l fun r => { r with image := some x, arrived := some s.now, torn := e.torn }).emit
        (.laneWords l (laneMessage 2 l (x.words (!s.leaseLapsed))))
      if s.isVoting l && s.allPresent && s.cyc.phase ≠ .voteWait then s.voteInstant else s
    else s
  | none => s

/-- The second arrival (R62). -/
def State.secondArrival (s : State) : Option Time :=
  match (s.present.filterMap fun l => (s.lane l).arrived) with
  | [a, b] => some (max a b)
  | _ => none

/-- The rendezvous window has passed with two of three lanes present (R62). -/
def State.windowOver (s : State) (strict : Bool) : Bool :=
  s.cyc.phase = .rendezvous && s.votes = 3 && match s.secondArrival with
    | some t => if strict then decide (t + s.windowNs < s.now) else decide (t + s.windowNs ≤ s.now)
    | none => false

/-- Fix latest (R62, R64, R65, R68): a vote on what is there, or the cycle is skipped. -/
def State.fixLatest (s : State) : State :=
  match s.cyc.phase with
  | .rendezvous => if 2 ≤ s.present.length then s.voteInstant else s.skip
  | .waitThird => s.skip
  | _ => s

/-- A lane has left VOTING while the vote waited for it: the two images that stand are voted on (R65, R200). -/
def State.reVote (s : State) : State :=
  if (s.cyc.phase = .rendezvous || s.cyc.phase = .waitThird) && s.votes = 2 && s.allPresent && s.cyc.dev.isSome then s.voteInstant
  else s

/-- A late image leaves its lane after the vote and is compared (R196, R205). -/
def State.lateArrives (s : State) (l : Lane) (e : ImageError) : State :=
  match s.cyc.voted with
  | some v =>
    if s.cyc.phase = .done && (s.lane l).lateDue && (s.lane l).devDone && v.cycle = s.cyc.cycle then
      let x := (if 3 ≤ (s.lane l).calls then { v with outputs := 0, lease := false } else v).disturb e
      (s.emit (.laneWords l (laneMessage 2 l (x.words (!s.leaseLapsed))))).lateMatch v l x
    else s
  | none => s

/-! Deadlines -/

/-- A cycle is under way. -/
def State.inCycle (s : State) : Bool := s.alive && 2 ≤ s.votes && s.cyc.phase ≠ .idle && s.cyc.phase ≠ .halted

/-- Deadlines that have passed act before anything later in the cycle (R49). -/
def State.overdue (s : State) : State :=
  if !s.inCycle then s
  else
    let s := if s.cyc.phase = .expose then s.closeExpose (s.closesExpose true) else s
    let s := s.setsPast.reVote
    let s := if s.past s.cs.develop true then s.developMissed.developLate else s
    let s := if s.past s.cs.mirror true && (s.cyc.phase = .mirror || s.pair.lease.handover.isSome) then s.mirrorEnd else s
    let s := if s.windowOver true then s.voteInstant else s
    if s.past s.cs.fixLatest true then s.fixLatest else s

end Sys2Proof.Machine
end

