-- ==== Sys2Proof/Machine/Lamp.lean ====
section
/-! DEFINITION. The pair: mirror messages as they arrive (R348 to R354, R364 to R367, R530), readiness (R363),
guard cycle and takeover (R355 to R360), and the acquisition of the Lamp at start (R366). -/

namespace Sys2Proof.Machine

/-! Messages -/

/-- Every epoch that the partner sends raises the highest known epoch (R356). -/
def State.learnMirror (s : State) (e : W32) : State :=
  { s with
    pair.epochPartner := if s.pair.epochPartner.toNat < e.toNat then e else s.pair.epochPartner
    pair.epochKnown := if s.pair.epochKnown.toNat < e.toNat then e else s.pair.epochKnown }

/-- The image that a message's state belongs to: of a BULK the one that it names, if it is at hand. -/
def State.bodyImage (s : State) (m : MirrorBody) : Image :=
  match m with
  | .bulk b => if b.logicHash = s.image.hdr.hash then s.image else (s.otherImage.filter fun x => x.hdr.hash = b.logicHash).getD s.image
  | _ => s.image

/-- A message came complete within the cycle of its first fragment, a BULK within 64 cycles (R349). -/
def State.mirrorInTime (s : State) (h : MirrorHdr) (m : MirrorBody) : Bool :=
  if m.kind = 5 then s.now < h.since + 64 * s.periodNs else s.cyc.start ≤ h.since

/-- A message that reaches the firmware: whole, sealed, in time, not a second copy (R348, R349). -/
def State.mirrorWhole (s : State) (h : MirrorHdr) (m : MirrorBody) : Bool :=
  h.dataOk m.kind (m.bytes (s.bodyImage m)) && s.mirrorInTime h m && !s.pair.mirror.rxSeq.contains h.seq

/-- A fragment names the module's own position (R367). -/
def State.ownFragment (s : State) : State :=
  let role : Role3 := if s.pair.role = .ready then .standby else s.pair.role
  { s with pair.mirror.ownPosition := true, pair.mirror.ownPositionNow := true, pair.mirror.partnerReady := false,
           pair.role := role }.note 0x1F3 Lane.all

/-- A holder meets a message that claims the Lamp (R530). -/
def State.rivalClaim (s : State) (h : MirrorHdr) : State :=
  let fenced := s.pair.epochOwn.toNat ≤ h.epoch.toNat
  let s := s.learnMirror h.epoch
  if fenced then s.voteFault 0x076 else s

/-- The last sequence numbers are kept, so that a second copy is known (R348). -/
def State.seeMirror (s : State) (h : MirrorHdr) : State :=
  { s with pair.mirror.rxSeq := (h.seq :: s.pair.mirror.rxSeq).take 16 }

/-- A fragment from the right position (R367). -/
def State.rightPosition (s : State) : State := { s with pair.mirror.ownPositionNow := false }

/-- What every mirror message meets first: none where it goes no further, else the state in which its body is
handled. -/
def State.mirrorHead (s : State) (h : MirrorHdr) (m : MirrorBody) : State ⊕ State :=
  if !s.portUsable (.m h.port) then .inl (s.lose (.m h.port))
  else if !s.alive || !s.paired || !h.headerOk m.kind then .inl s
  else if h.position = s.position then .inl s.ownFragment
  else if (h.position ≠ 1 && h.position ≠ 2) || !s.mirrorWhole h m then .inl s
  else
    let s := (s.seeMirror h).rightPosition
    if s.mirrors && h.holds then .inl (s.rivalClaim h) else .inr s

/-! Readiness (R363) -/

/-- A change to RETIRED has been approved: the module is no ready standby and takes no Lamp (R403). -/
def State.retiring (s : State) : Bool := s.trust.due.elim false fun c => c.new.lifecycle = Lifecycle.retired

/-- Every readiness condition holds. -/
def State.readyNow (s : State) : Bool :=
  let m := s.pair.mirror
  s.cyc.mode = .run && !s.flt.safelight.on && 2 ≤ s.votes && !s.essentialLost && !m.wantBulk && !m.stopped &&
    m.committed.isSome && 3 ≤ m.run && !m.ownPosition && !s.retiring &&
    match m.holder with
    | some r => r.cycle = s.cs && r.pair = s.ps && r.channels = s.image.channels && (r.logic = s.image.hdr.hash || m.differs)
    | none => false

/-- A condition that fails takes a ready standby back at once (R347). -/
def State.dropReady (s : State) : State :=
  if s.pair.role = .ready && !s.readyNow then { s with pair.role := .standby } else s

/-- At a boundary the role follows readiness (R347). -/
def State.refreshRole (s : State) : State :=
  if s.pair.role = .standby && s.readyNow && s.pair.roleSettled then { s with pair.role := .ready } else s.dropReady

/-- The mirror has to be built anew (R352, R353, R364). -/
def State.restartMirror (s : State) : State :=
  { s with
    pair.role := if s.pair.role = .ready then .standby else s.pair.role
    pair.mirror := { s.pair.mirror with
      run := 0, wantBulk := !s.pair.mirror.stopped, bulkSince := some s.cyc.cycle, held := []
      pendingCycle := none, pendingRail := none, otherPending := none } }

/-! Acknowledgement and base cycle (R352) -/

/-- The check of R175 against the last mirrored state. -/
def State.switchHolds (s : State) : Bool :=
  if !s.pair.mirror.differs then true
  else match s.otherImage, s.pair.mirror.other with
    | some i, some r => (exchangeRefusal (some i) s.image .verified s.cs s.paired s.test.isSome r).isNone
    | _, _ => false

/-- The ACK of a DELTA or RENEW leaves at once (R350, R352, R361). -/
def State.sendAck (s : State) (cycle : W48) (handover : Bool) : State :=
  if s.pair.mirror.ownPositionNow || !s.mirrorUp then s
  else
    let ready := s.pair.role = .ready && s.readyNow
    let accepted := handover && ready && s.switchHolds
    ({ s with pair.lease.lastAck := some s.now, pair.lease.releaseSeen := false }.countLease s.now).sendMirror
      (.ack { cycle := cycle, ready := ready, differs := s.pair.mirror.differs, accepted := accepted,
              refused := handover && !accepted, epoch := s.pair.epochKnown })

/-- The pending cycle becomes the committed one (R352). -/
def State.commitPending (s : State) : State :=
  let m := s.pair.mirror
  match m.pendingCycle, m.pendingRail with
  | some c, some r =>
    { s with
      rail := r, cyc.lastFix := c
      pair.mirror := { m with committed := some c, lastOut := m.pendingOut, other := m.otherPending <|> m.other,
                              pendingCycle := none, pendingRail := none, otherPending := none } }
  | _, _ => s

def State.discardPending (s : State) : State :=
  { s with pair.mirror := { s.pair.mirror with pendingCycle := none, pendingRail := none, otherPending := none } }

/-- The base cycle of a DELTA or RENEW; false where it shows a gap (R352). -/
def State.takeBase (s : State) (b : W48) : State × Bool :=
  let m := s.pair.mirror
  if m.pendingCycle = some b then (s.commitPending, true)
  else if m.committed = some b then (s.discardPending, true)
  else (s.restartMirror, false)

/-! Mirrored cycles -/

/-- Missing telegrams in a row of the holder's partners, from its DELTAs (R307, R351). -/
def nextMissed (old : List (Node × Nat)) (l : List PartnerRep) : List (Node × Nat) :=
  l.foldl (fun m p =>
    let was := (m.find? fun x => x.1 = p.node).elim 0 fun x => x.2
    (m.filter fun x => x.1 ≠ p.node) ++ [(p.node, if p.qualified then 0 else min 10 (was + 1))]) old

/-- Partners that the holder has declared lost. -/
def lostOf (i : Image) (missed : List (Node × Nat)) : List Node :=
  (missed.filter fun x => match i.partners.find? fun d => d.node = x.1 with
    | some d => d.k ≤ x.2
    | none => false).map fun x => x.1

def PartnerRep.telegram (p : PartnerRep) : HeldTelegram :=
  { seq := p.seq, alive := 0, echo := 0, echoEpoch := p.echoEpoch, ownEpoch := 0, standby := false, crc := 0, fix := p.fix,
    slots := p.slots }

/-- A mirrored command as an entry of the trays of the holder; its session is not known here. -/
def CmdEntry.entry (c : CmdEntry) : Entry :=
  { adm := c.adm, op := c.op, payload := c.payload, sid := 0, tray := c.tray, prio := 0, cmdSeq := 0, arrived := 0,
    limit := none, service := false, cycle := 0, holdsOp := false, node := c.node }

/-- What the Develop of a mirrored cycle works on, under an image (R352). -/
def mirrorDevIn (i : Image) (base : Rail) (missed : List (Node × Nat)) (b : DeltaBody) : DevIn :=
  let es := sortEntries (b.cmds.map CmdEntry.entry)
  { env := { img := i, now := b.time, settle := base.settling b.time, holds := true }
    values := b.inputs
    invalid := b.invalid
    tels := (b.partners.filter fun p => p.qualified).map fun p => (p.node, p.telegram)
    lost := lostOf i missed
    cut := b.cut
    reqs := (es.filter Entry.isRoute).map fun e => e.req b.time
    elems := (es.filter Entry.isElem).map Entry.elem
    events := (es.filter Entry.isEvent).map Entry.event }

/-- Local outputs as the holder commands them (R321). -/
def holderOutputs (i : Image) (r : Rail) : Chans :=
  localOutputs i r &&& i.modeMask fun m => m = .output || m = .paired

/-- A mismatch (R353): recorded with both digests, and a bulk requested unless it is the third in 24 h. -/
def State.mirrorMismatch (s : State) (own theirs : W64) : State :=
  let l := (s.pair.mirror.mismatches.filter fun t => s.now < t + ms 86400000) ++ [s.now]
  let s := { s with pair.mirror.mismatches := l, pair.mirror.stopped := s.pair.mirror.stopped || decide (3 ≤ l.length) }
  s.restartMirror.report 0x1F0 Lane.all (faultDetail 0 0 0 own.toNat theirs.toNat 0 0 0)

/-- A mirrored cycle that matches (R347, R440). -/
def State.mirrorMatch (s : State) : State :=
  let running : Bool := s.cyc.mode = .run
  { s with
    pair.mirror.run := if running then min 3 (s.pair.mirror.run + 1) else 0
    upd.healthy := if running && s.upd.onTrial then s.upd.healthy + 1 else s.upd.healthy }

/-- A mirrored cycle computed under an image, as its Fix will commit it (R347). -/
def mirrorDevelop (i : Image) (base : Rail) (missed : List (Node × Nat)) (b : DeltaBody) : Rail :=
  closeRail i b.outputs false (develop (mirrorDevIn i base missed b) base).rail

/-- A DELTA's cycle becomes the pending one and is computed (R175, R352). -/
def State.mirrorCycle (s : State) (cycle : W48) (b : DeltaBody) : State :=
  let m := s.pair.mirror
  let i := s.image
  let missed := nextMissed m.missed b.partners
  let put := fun (r : Rail) (o : Option Rail) =>
    { s with pair.mirror := { m with pendingCycle := some cycle, pendingRail := some r, otherPending := o, missed := missed,
                                     pendingOut := b.outputs } }
  match if m.differs then s.otherImage else none with
  | some old =>
    let r := m.other.getD (carryRail i old s.rail)
    let theirs := mirrorDevelop old r missed b
    let base := carryRail old i r
    (put (mirrorDevelop i base missed b) (some theirs)).mirrorMatch
  | none =>
    let r := mirrorDevelop i s.rail missed b
    let own := stateDigest i r cycle
    let s := put r none
    if m.differs || (own = b.digest && holderOutputs i r = b.outputs) then s.mirrorMatch
    else s.mirrorMismatch own b.digest

/-- A DELTA after its acknowledgement: base, then the new pending cycle; held while a bulk is awaited (R352,
R364). -/
def State.followDelta (s : State) (cycle : W48) (b : DeltaBody) : State :=
  let x := s.takeBase b.base
  if x.2 then x.1.mirrorCycle cycle b else x.1

/-- The new holder's first message answers the handover (R284, R361). -/
def State.handedOver (s : State) (h : MirrorHdr) : State :=
  match s.pair.lease.handover with
  | some e =>
    if s.pair.lease.handed && s.pair.epochOwn.toNat < h.epoch.toNat then
      { s with pair.lease.handover := none, pair.lease.handed := false }.done e
        (beBytes 4 h.epoch.toNat ++ beBytes 6 h.cycle.toNat)
    else s
  | none => s

/-- What a non-holder does with every DELTA and RENEW before its base (R352, R361, R366). -/
def State.heardFrom (s : State) (h : MirrorHdr) (handover : Bool) : State :=
  let s := { s.learnMirror h.epoch with pair.mirror.heardHolder := true, pair.mirror.silent := false,
                                        pair.mirror.holderCycle := some h.cycle }
  (s.handedOver h).sendAck h.cycle handover

/-- While a bulk is awaited the last 128 DELTAs are held (R364). -/
def State.holdDelta (s : State) (h : MirrorHdr) (b : DeltaBody) : State :=
  let held := s.pair.mirror.held
  { s with pair.mirror.held := (held ++ [(h, b)]).drop (held.length + 1 - 128) }

/-- DELTA (R351, R352, R364). -/
def State.takeDelta (s : State) (h : MirrorHdr) (b : DeltaBody) : State :=
  match s.mirrorHead h (.delta b) with
  | .inl s => s
  | .inr s =>
    if s.mirrors then s.learnMirror h.epoch
    else
      let s := s.heardFrom h b.handover
      if s.pair.mirror.wantBulk then s.holdDelta h b
      else if s.pair.mirror.stopped then s
      else s.followDelta h.cycle b

/-- RENEW (R350, R352). -/
def State.takeRenew (s : State) (h : MirrorHdr) (base : W48) (handover : Bool) : State :=
  match s.mirrorHead h (.renew base handover) with
  | .inl s => s
  | .inr s =>
    if s.mirrors then s.learnMirror h.epoch
    else
      let s := s.heardFrom h handover
      if s.pair.mirror.wantBulk || s.pair.mirror.stopped then s else (s.takeBase base).1

/-- ACK at the holder (R61, R354, R361). -/
def State.takeAck (s : State) (h : MirrorHdr) (b : AckBody) : State :=
  match s.mirrorHead h (.ack b) with
  | .inl s => s
  | .inr s =>
    let s := (s.learnMirror h.epoch).learnMirror b.epoch
    if !s.mirrors || b.epoch ≠ s.pair.epochOwn then s
    else
      let s := { s with pair.mirror.partnerReady := b.ready, pair.mirror.differs := b.differs }
      if b.cycle ≠ s.cyc.cycle || s.past s.cs.mirror true then s
      else
        let answer : Option Bool := if b.accepted then some true else if b.refused then some false else none
        let s := { s with pair.lease.renewed := some s.cyc.start, pair.lease.acked := true,
                          pair.lease.handoverAnswer := if s.pair.lease.handover.isSome then answer else none }
        let s := s.countLease s.cyc.start
        if s.cyc.phase = .mirror then { s with cyc.phase := .rendezvous } else s

/-- RELEASE at a module without the Lamp (R355, R359). -/
def State.takeRelease (s : State) (h : MirrorHdr) (lastFix : W48) (reason : Byte) : State :=
  match s.mirrorHead h (.release lastFix reason) with
  | .inl s => s
  | .inr s =>
    let s := s.learnMirror h.epoch
    if s.mirrors then s else { s with pair.lease.releaseSeen := true, pair.lease.released := some lastFix }

/-! Bulk (R364, R365) -/

/-- The bulk is in: its state, then the held DELTAs whose cycles follow it. -/
def State.applyBulk (s : State) (b : BulkBody) : State :=
  let m := s.pair.mirror
  let i := s.image
  let mine : Bool := b.logicHash = i.hdr.hash
  let old := if mine then none else s.otherImage.filter fun x => x.hdr.hash = b.logicHash
  let held := m.held.filter fun x => b.base.toNat < x.1.cycle.toNat
  let s := { s with
    rail := old.elim b.rail fun x => carryRail x i b.rail
    cyc.lastFix := b.base
    pair.mirror := { m with
      committed := some b.base, pendingCycle := none, pendingRail := none, otherPending := none, run := 0,
      wantBulk := false, bulkSince := none, held := [], missed := [], differs := old.isSome, other := old.map fun _ => b.rail,
      holder := some { cycle := b.cycle, pair := b.pair, channels := b.channels, logic := b.logicHash } } }
  held.foldl (fun s x => if s.pair.mirror.wantBulk then s else s.followDelta x.1.cycle x.2) s

/-- BULK. -/
def State.takeBulk (s : State) (h : MirrorHdr) (b : BulkBody) : State :=
  match s.mirrorHead h (.bulk b) with
  | .inl s => s
  | .inr s =>
    let s := s.learnMirror h.epoch
    if s.mirrors || !s.pair.mirror.wantBulk || s.pair.mirror.stopped then s else s.applyBulk b

/-- A bulk not complete within 64 cycles is requested again (R349, R364). -/
def State.bulkTimeout (s : State) : State :=
  let m := s.pair.mirror
  match m.bulkSince with
  | some c =>
    if m.wantBulk && !s.mirrors && s.paired && c.toNat + 64 ≤ s.cyc.cycle.toNat then
      { s with pair.mirror.bulkSince := some s.cyc.cycle, pair.mirror.held := [] }.sendAnnounce
    else s
  | none => s

/-! Announcements and the start (R366) -/

/-- The module has the higher highest known epoch, or an equal one and position 1. -/
def State.wins (s : State) (theirs : W32) : Bool :=
  theirs.toNat < s.pair.epochKnown.toNat || (theirs = s.pair.epochKnown && s.v.strap = 1)

/-- The module is to take the Lamp from a start, by a guard cycle; the takeover counts as clean. -/
def State.acquire (s : State) : State := { s with pair.lease.guardDue := true, pair.lease.atStart := true }

/-- The role is settled without the Lamp (R366). -/
def State.settleStandby (s : State) (bulk : Bool) : State :=
  { s with
    pair.roleSettled := true, pair.mirror.wantBulk := s.pair.mirror.wantBulk || bulk
    pair.mirror.bulkSince := if bulk then some s.cyc.cycle else s.pair.mirror.bulkSince }

/-- An ANNOUNCE counts for a bulk at the holder, else for the roles at a start (R364, R366). -/
def State.heardAnnounce (s : State) (h : MirrorHdr) (b : AnnounceBody) : State :=
  let won := s.wins b.epoch
  if s.mirrors then { s with pair.mirror.bulkAsked := s.pair.mirror.bulkAsked || b.wantsBulk }
  else if h.holds then { s with pair.mirror.heardHolder := true, pair.mirror.silent := false }
  else if s.pair.listenSince.isSome then { s with pair.mirror.heardWins := s.pair.mirror.heardWins <|> some won }
  else if s.pair.mirror.silent then
    let s := { s with pair.mirror.silent := false }
    if won then s.acquire else s.settleStandby true
  else s

/-- ANNOUNCE (R350, R364, R366): epochs are compared before the partner's is learnt. -/
def State.takeAnnounce (s : State) (h : MirrorHdr) (b : AnnounceBody) : State :=
  match s.mirrorHead h (.announce b) with
  | .inl s => s
  | .inr s => ((s.heardAnnounce h b).learnMirror h.epoch).learnMirror b.epoch

/-- The listening after start lasts L + 2 cycles (R366). -/
def State.listenOver (s : State) : Bool :=
  match s.pair.listenSince with
  | some t => decide (t + (s.ps.lease + 2) * s.periodNs ≤ s.now)
  | none => false

/-- The end of listening (R366). -/
def State.endListening (s : State) : State :=
  if !s.alive || !s.listenOver then s
  else
    let m := s.pair.mirror
    let s := { s with pair.listenSince := none }
    if m.heardHolder then s.settleStandby true
    else match m.heardWins with
      | some true => s.acquire
      | some false => s.settleStandby true
      | none =>
        if s.v.ppIn then { s.settleStandby true with pair.mirror.silent := true }.event 0x040B [] else s.acquire

/-! Guard cycle and takeover (R355, R359, R361) -/

/-- The number of the cycle that begins now, where this instant is a boundary: its own, or the one that the
boundary still to be taken brings. -/
def State.boundaryCycle (s : State) : Option W48 :=
  if s.cyc.start = s.now then some s.cyc.cycle
  else if s.nextBoundary ≤ s.now then some (s.cyc.cycle + 1)
  else none

/-- Expiry as V counts it: the last ACK of the current epoch plus L periods (R355). -/
def State.countExpired (s : State) : Bool :=
  match s.pair.lease.lastAck with
  | some t => decide (t + s.ps.lease * s.periodNs ≤ s.now)
  | none => false

/-- Expiry as at least two lanes count it (R39). -/
def State.lanesExpired (s : State) : Bool :=
  2 ≤ (s.voting.filter fun l => (s.lane l).leaseAt.isSome && !s.laneLease l).length

/-- The lease has expired: V and at least two lanes count it so (R39, R355). -/
def State.expired (s : State) : Bool := s.countExpired && s.lanesExpired

/-- V alone counts expiry: a fault of V (R39). -/
def State.leaseDispute (s : State) : Bool := s.pair.role = .ready && s.countExpired && !s.lanesExpired

/-- The guard cycle is to begin (R355, R366); a failed conversion bars it (R443). -/
def State.guardReady (s : State) : Bool :=
  s.alive && s.paired && !s.holdsLamp && !s.pair.lease.guard && 2 ≤ s.votes && !s.flt.safelight.on &&
    !s.pair.mirror.ownPosition && !s.retiring && s.upd.conversionFailedAt.isNone &&
    (s.pair.lease.guardDue || (s.pair.role = .ready && s.readyNow && (s.pair.lease.releaseSeen || s.expired)))

/-- The guard cycle begins: the epoch is raised before anything is sent under it (R355, R356, R455). -/
def State.startGuard (s : State) (c : W48) : State :=
  let known := s.pair.epochKnown
  let s := s.raiseEpoch
  if known = 0xFFFFFFFF then { s with pair.lease.guardDue := false }
  else
    let s := match s.test with
      | some r => if r.target = 3 && s.trust.cfg.lifecycle = Lifecycle.service then s.endTest 0x13 0 noDetail else s
      | none => s
    { s with pair.lease.guard := true, pair.lease.guardCycle := c, pair.lease.guardDue := false }

def State.guardStart (s : State) : State :=
  match s.boundaryCycle with
  | some c =>
    if s.alive && s.leaseDispute && !s.flt.safelight.on then s.note 0x1D0 Lane.all
    else if s.guardReady then s.startGuard c
    else s
  | none => s

/-- The takeover is clean (R359). -/
def State.cleanTakeover (s : State) : Bool :=
  let m := s.pair.mirror
  s.pair.lease.atStart || (s.pair.lease.releaseSeen && s.pair.lease.released.isSome &&
    (m.committed = s.pair.lease.released || m.pendingCycle = s.pair.lease.released))

/-- The pending cycle at a takeover (R359). -/
def State.settlePending (s : State) (clean : Bool) : State :=
  if clean && s.pair.mirror.pendingCycle ≠ s.pair.lease.released then s.discardPending else s.commitPending

/-- Takeover while the images differ (R175): under the new image where its check holds, else under the
former. -/
def State.settleImages (s : State) : State :=
  if !s.pair.mirror.differs || s.switchHolds then s
  else match s.pair.mirror.other with
    | some r => { s.swapBanks with rail := r }
    | none => s

/-- What an unclean takeover makes of a zone (R113, R359). -/
def doubtZone (i : Image) (base : Rail) (o : Obj) : Obj :=
  match o.body, i.decl? o.oid with
  | .zone z, some d => if z.state ≠ .main || z.localReq then { o with body := safeBody d base.time o.body } else o
  | _, _ => o

/-- An unclean takeover: routes fall back, zones are unknown, the settle period begins (R359, R360). -/
def State.uncleanTakeover (s : State) : State :=
  let i := s.image
  let r := s.rail.barClearing i
  let r := { r with objs := r.objs.map (doubtZone i s.rail) }
  { s with rail := r.beginSettle (max r.time s.cyc.cons.time + tk i.settleMs) }

/-- The module's own links number their telegrams anew for it (R85, R314). -/
def Rail.forgetSeqs (r : Rail) : Rail := { r with objs := r.objs.map fun o => { o with appliedSeq := none } }

/-- The guard cycle has passed at this boundary, and the module may still take the Lamp (R347, R355). -/
def State.takeDue (s : State) : Bool :=
  s.alive && s.pair.lease.guard && !s.holdsLamp && 2 ≤ s.votes && !s.flt.safelight.on &&
    match s.boundaryCycle with
    | some c => s.pair.lease.guardCycle ≠ c
    | none => false

/-- The module holds the Lamp from this boundary (R354, R355, R359). -/
def State.takeLampNow (s : State) : State :=
  let clean := s.cleanTakeover
  let s := (s.settlePending clean).settleImages
  let s := if clean then s else s.uncleanTakeover
  let c := s.boundaryCycle.getD s.cyc.cycle
  let s := s.countLease s.now
  { s with
    rail := s.rail.forgetSeqs
    cyc.outputs := 0, cyc.skips := 0, fio.prevOutputs := 0, fio.pulseFrom := none
    pair := { s.pair with
      role := .active, takeover := c, roleSettled := true
      lease := { renewed := some s.now, handover := s.pair.lease.handover, handed := s.pair.lease.handed,
                 released := s.pair.lease.released }
      mirror := { rxSeq := s.pair.mirror.rxSeq,
                  ownPositionNow := s.pair.mirror.ownPositionNow, mismatches := s.pair.mirror.mismatches } } }

/-- TAKE_LAMP; a module whose readiness has failed meanwhile, that is to retire or that has been warned of equal
positions stays STANDBY (R367, R403). -/
def State.takeLamp (s : State) : State :=
  if !s.takeDue then s
  else if !s.retiring && !s.pair.mirror.ownPosition && (s.pair.lease.atStart || (s.pair.role = .ready && s.readyNow)) then
    s.takeLampNow
  else { s with pair.lease.guard := false, pair.role := .standby }

/-! Supply and presence (R357, R438, R500) -/

/-- An essential group has lost its supply (R336, R357, R363). -/
def State.essentialDue (s : State) (g : Nat) : State :=
  if s.ps.essential.getLsbD g && s.supplyLost g then
    if s.mirrors then
      if s.pair.mirror.partnerReady then { s with pair.lease.giveUp := true } else s
    else s.dropReady
  else s

/-- The Lamp is given up at the first boundary after the loss (R357). -/
def State.essentialGiveUp (s : State) : State := if s.pair.lease.giveUp then s.giveUpLamp (some 0x03) else s

/-- The holder renews its own lease at a boundary while its partner is not present, or names the holder's own
position (R367, R438). -/
def State.selfRenew (s : State) : State :=
  if s.mirrors && (!s.v.ppIn || s.pair.mirror.ownPositionNow) then
    { s.countLease s.cyc.start with pair.lease.renewed := some s.cyc.start, pair.mirror.ownPositionNow := false }
  else s

/-- A handover that the new holder never renews ends (R284, R236). -/
def State.handoverLost (s : State) : State :=
  match s.pair.lease.released with
  | some f =>
    if s.pair.lease.handed && f.toNat + s.ps.lease + 3 ≤ s.cyc.cycle.toNat then s.endHandover 0x41 noDetail else s
  | none => s

/-- The run point (R77, R483): auto-run is tried once. -/
def State.runPoint (s : State) : State :=
  if s.alive && s.pair.roleSettled && !s.cyc.autoTried && s.cyc.start = s.now && s.cyc.cycle ≠ 0 then
    let s := { s with cyc.autoTried := true }
    if s.trust.cfg.autoRun && s.cyc.mode = .stop && s.runAllowed then { s with cyc.modeDue := some .run } else s
  else s

end Sys2Proof.Machine
end

