-- ==== Sys2Proof/Machine/Boundary.lean ====
section
/-! DEFINITION. The cycle boundary (R51, R55, R56): what the ended cycle still owes, what takes effect at a
boundary, and the freeze; the boundary that V keeps (R531). -/

namespace Sys2Proof.Machine

/-! What a cycle owes at its end -/

/-- Consecutive skips above the limit (R70). -/
def State.skipLimit (s : State) : State :=
  if s.overSkipped && !s.flt.safelight.on then s.voteFault 0x073 else s

/-- A lane voted out as tardy in three cycles in a row (R63). -/
def State.tardyOut (s : State) (l : Lane) : State :=
  if s.isVoting l && 3 ≤ (s.lane l).tardyRun then s.noteOut 0x041 l else s

/-- A lane in the minority for one input in three cycles in a row, or a channel on which the two lanes of 2oo2
differ as long (R58). -/
def State.minorityOut (s : State) (l : Lane) : State :=
  let runs := (s.lane l).minority.filter fun x => 3 ≤ x.2
  let split := runs.any fun x => match x.1 with
    | .channel _ => true
    | .partner _ => false
  if runs.isEmpty then s
  else if s.votes = 2 && s.isVoting l && split then (if s.flt.safelight.on then s else s.voteFault 0x071)
  else s.noteOut 0x040 l

/-- A tardy lane's image is not complete at its next boundary (R196, R205). -/
def State.lateOut (s : State) (l : Lane) : State :=
  let r := s.lane l
  if r.lateDue && r.phase.exchanges then s.noteOut (if r.phase = .probation then 0x042 else 0x043) l else s

/-- Errors in three consecutive cycles fault a channel (R27). -/
def State.faultChannel (s : State) (ch : Chan) : State :=
  let c := s.chan ch
  if !c.faulted && (3 ≤ c.run || (c.error && 2 ≤ c.run)) then
    (s.modChan ch fun c => { c with faulted := true }).note (0x063 + Chan.idx ch) Lane.all
  else s

/-- Loss of sync (R74): no reference boundary within the window in 8 cycles. -/
def State.syncLoss (s : State) : State :=
  if 8 ≤ s.v.sync.missed && !s.v.sync.lost && s.cs.sync ≠ 0 then
    { s with v.sync.lost := true, v.sync.aligned := false }.note 0x075 Lane.all
  else s

/-- A cycle that comes to its end without Fix or skip is skipped. -/
def State.unfinished (s : State) : Bool :=
  (s.cyc.mode = .run || s.cyc.hold.elim false fun h => h.stepping) &&
    match s.cyc.phase with
    | .idle => false
    | .done => false
    | .release => false
    | .halted => false
    | _ => true

/-- Checkers whose checks are commands of their own: the frames of the field crossing and the words between the lanes. -/
def checkedByCommand (n : Nat) : Bool := n = 0x050 || (0x060 ≤ n && n ≤ 0x062)

/-- One inverted check of an armed injection: its checker reports (R387). -/
def State.injectedCheck (s : State) : State :=
  match s.flt.injection with
  | some j =>
    let lanes := Lane.all.filter fun l => j.lane = 0xFF || j.lane.toNat = l.idx
    if checkedByCommand j.source || !lanes.any fun l => (s.lane l).phase.live then s
    else (if j.source = 0x1C1 then { s with dies.kFaulted := true } else s).note j.source lanes
  | none => s

/-- The checks that an armed injection has left, made within the cycle that ends (R387). -/
def State.injectedChecks (s : State) : State :=
  (List.range (s.flt.injection.elim 0 fun j => j.left)).foldl (fun s _ => s.injectedCheck) s

/-- What the ended cycle owes. -/
def State.closeCycle (s : State) : State :=
  let s := s.injectedChecks
  let s := if s.unfinished then s.skip else s
  let s := s.skipLimit
  let s := Lane.all.foldl State.lateOut s
  let s := Lane.all.foldl State.tardyOut s
  let s := Lane.all.foldl State.minorityOut s
  let s := Chan.all.foldl State.faultChannel s
  s.syncLoss

/-! The new cycle -/

/-- Lanes whose return is due (R199, R204, R206). -/
def enterDue (r : LaneRec) : LaneRec :=
  match r.phase, r.enter with
  | .probation, true => { r with phase := .voting, enter := false, matched := 0, tardyRun := 0 }
  | .resync, true => { r with phase := .probation, enter := false, matched := 0, resync := {} }
  | .resync, false => { r with resync := { r.resync with ready := true } }
  | _, _ => r

/-- What a lane held for the cycle that ends is gone; a held cycle keeps its Develop (R78). -/
def newLane (held : Bool) (r : LaneRec) : LaneRec :=
  { r with sets := [], passed := [], arrived := none, image := none, lateDue := false, delta := 0, torn := [], devDone := held && r.devDone }

def newChan (c : ChanRec) : ChanRec :=
  { c with run := if c.error then c.run + 1 else 0, error := false, absent := false }

/-- The module halts and goes on halting (R76, R78). -/
def State.staysHalted (s : State) : Bool :=
  s.cyc.mode = .hold && s.cyc.phase = .halted && s.cyc.hold.elim false fun h => !h.stepping

/-- The cycle number advances at every boundary (R51); a module without the Lamp follows its holder's (R352). -/
def State.nextCycle (s : State) : W48 :=
  if s.paired && !s.holdsLamp then s.pair.mirror.holderCycle.getD s.cyc.cycle + 1 else s.cyc.cycle + 1

/-- The cycle record of the new cycle. -/
def State.turnCycle (s : State) : State :=
  let held := s.staysHalted
  let s := s.modLanes fun _ r => newLane held r
  { s with
    cyc.cycle := s.nextCycle, cyc.start := s.now, cyc.visit := 0, cyc.voted := none, cyc.unmirrored := false, cyc.devJudged := false
    cyc.armed := s.flt.injection.isSome, cyc.ready := s.cyc.settingsOk
    cyc.dev := if held then s.cyc.dev else none
    cyc.phase := if held then .halted else .expose
    chanAB := newChan s.chanAB, chanBC := newChan s.chanBC, chanCA := newChan s.chanCA
    fio.pulseFrom := none
    pair.lease.acked := false, pair.lease.sent := false, pair.mirror.holderCycle := none
    v.sync.missed := if s.v.sync.seen then 0 else min 8 (s.v.sync.missed + 1)
    v.sync.seen := false, v.sync.adjust := 0
    net.charges := s.net.charges.filter fun c => s.nextCycle.toNat ≤ c.1 }

/-! Effects of a boundary -/

/-- Sessions at a boundary; partners on the ports of a lost network die are lost, and the commands pending to them end (R31):
openings, losses, closes (R31, R218, R224, R225, R308). -/
def State.sessionBoundary (s : State) : State :=
  let s := s.openSessions
  let s := (s.net.sessions.filter fun x => !x.lost && (x.pclass = 2 || x.pclass = 1) && s.dieOut (portDie x.port)).foldl (fun s x => s.declareLost x none) s
  let s := (s.net.sessions.filter s.fieldCloseDue).foldl (fun s x => s.modSession x.sid Session.close) s
  let s := s.net.sessions.foldl (fun s x => s.aliveExpiry x.sid) s
  s.closeSessions.countAlive

/-- New settings take effect (R54, R285). -/
def State.settingsBoundary (s : State) : State :=
  { s with
    cyc.settings := { s.cyc.settings with cycle := s.cyc.cycleDue.getD s.cs, pair := s.cyc.pairDue.getD s.ps }
    cyc.cycleDue := none, cyc.pairDue := none
    v.sync.aligned := s.v.sync.aligned && s.cyc.cycleDue.isNone }

/-- A change to RUN (R77, R267); what a hold still owes is answered. -/
def State.enterRun (s : State) : State :=
  let s := match s.cyc.hold with
    | some h => s.sayAll (h.owed.toList ++ h.resume ++ h.stepOwed.map fun (a : Answer) => { a with status := 0x12, body := noDetail })
    | none => s
  { s with cyc.mode := .run, cyc.modeDue := none, cyc.hold := none, v.sync.aligned := false }

/-- A mode change that is due takes effect (R77, R267). -/
def State.modeBoundary (s : State) : State :=
  match s.cyc.modeDue with
  | some .run => s.enterRun
  | some .stop => (s.endHold 0x12).enterStop
  | _ => s

/-- A deferred activation is judged again (R436). -/
def State.deferredBoundary (s : State) : State := if s.upd.deferred then s.activationDue else s

/-- Everything that takes effect at a boundary of the module; a session that an effect closes is closed at it (R225, R402,
R404). -/
def State.boundaryEffects (s : State) : State :=
  let s := s.sessionBoundary.applySeal.closeSessions
  let s := s.modeBoundary.settingsBoundary
  let s := s.exchange.closeSessions.challengeAll
  let s := s.modLanes fun _ r => enterDue r
  let s := s.essentialGiveUp.handoverLost
  let s := (s.testBoundary.resendParts 0).resendParts 1
  s.refreshRole.deferredBoundary

/-- A boundary of the module; activation there leaves no cycle. -/
def State.moduleBoundary (s : State) : State :=
  let s := s.closeCycle
  if 2 ≤ s.votes then
    let s := s.boundaryEffects
    if s.alive then s.turnCycle.selfRenew else s
  else s

/-- V enables the SYNC-OUT driver (R506): the module is unpaired, or holds the Lamp while V and two lanes count the lease valid. -/
def State.drivesSync (s : State) : Bool :=
  s.v.strap = 0 || (s.holdsLamp && !s.leaseLapsed && 2 ≤ (s.voting.filter s.laneLease).length)

/-- The pulse on SYNC-OUT at a boundary (R72, R506). -/
def State.pulseOut (s : State) : State := if s.drivesSync then s.emit .syncPulse else s

/-- Lanes that exchange images and have reported their boundary in the cycle in hand. -/
def State.reported (s : State) : Nat := ((lanesOf s.cyc.visit).filter fun l => (s.lane l).phase.exchanges).length

/-- A lane reports its boundary to V: the second report brings the pulse (R506). -/
def State.visit (s : State) (l : Lane) : State :=
  let was := s.reported
  let s := { s with cyc.visit := s.cyc.visit ||| laneMask [l] }
  if was < 2 && 2 ≤ s.reported then s.pulseOut else s

/-- A lane's boundary: the first lane that has had one in the cycle in hand begins the next (R51, R55). -/
def State.cycleBoundary (s : State) (l : Lane) (reading : Ticks) : State :=
  if !s.alive then s
  else
    let s := s.overdue
    let s := if (s.lane l).phase.exchanges && laneIn s.cyc.visit l then s.moduleBoundary else s
    let s := s.visit l
    if (s.lane l).phase.exchanges && s.cyc.phase = .expose then s.freeze l reading
    else (s.modLane l fun r => { r with boundary := s.now, reading := reading }).tally 0 [l]

/-! The boundary that V keeps (R531) -/

/-- A reply without two lanes: with safety code 1 of the scribe alone, or none (R29, R212, R237). -/
def State.lonelyReply (s : State) (sid : Nat) (op : W16) (scribe : Bool) (cmdSeq adm : W32) (payload : List Byte) : State :=
  match s.session? sid with
  | some x =>
    if !s.portUsable x.port then s
    else if x.pclass = 2 then s.eventReply sid false cmdSeq adm 0x7F []
    else s.sendIn sid (if scribe then .scribe else .bare) false op 0 payload
  | none => s

/-- The answer to one admitted command. -/
def State.supervise (s : State) (e : Entry) : State :=
  if e.op = 0x0610 && s.scribe.isSome then
    s.lonelyReply e.sid e.op true e.cmdSeq e.adm (replyPrefix 0x00 e.cmdSeq e.adm ++ s.negativeBody e)
  else s.lonelyReply e.sid e.op false e.cmdSeq e.adm (replyPrefix 0x7F e.cmdSeq e.adm)

/-- SUPERVISOR_BOUNDARY: commands that two lanes would have answered. -/
def State.supervisorBoundary (s : State) : State :=
  if s.alive && s.flt.safelight.on && s.votes < 2 then
    let waiting := s.net.answers
    let entries := s.net.entries
    let s := (sortAnswers waiting).foldl (fun s a => s.lonelyReply a.sid a.op false a.cmdSeq a.adm (replyPrefix 0x7F a.cmdSeq a.adm)) s
    let s := (sortEntries entries).foldl State.supervise s
    let s := { s with net.answers := [], net.entries := [], cyc.cycle := s.cyc.cycle + 1, cyc.start := s.now }
    s.unsaidSeal.closeSessions.countAlive
  else s

end Sys2Proof.Machine
end

