-- ==== Sys2Proof/Machine/LaneChecks.lean ====
section
/-! DEFINITION. What the checkers report: pace and supply (R21, R22), the Loupes and the Latent Buffer (R180 to
R185), lane memory (R17, R19, R462), cross-lane words (R27), the check-value engines (R457), timebases (R25),
reports and block resets (R369 to R381), the way out of Safelight (R384) and the Negative's own steps (R388 to
R395). -/

namespace Sys2Proof.Machine

/-- Whether a source reports in a lane at this instant (R203, R381). -/
def State.setReporting (s : State) (n : Nat) (l : Lane) (on : Bool) : State :=
  s.modLane l fun r => { r with
    bath.reporting := if on then r.bath.reporting ||| srcBit n else r.bath.reporting &&& ~~~srcBit n }

/-! Pace and supply -/

/-- The pace index of a ring count (R22). -/
def paceIndex (count floor : Nat) : Nat := min 255 (64 * count / floor)

/-- PACE_SAMPLE: one or two samples below 64 in a row are a note, the third withdraws the lane (R22, R23). -/
def State.paceSample (s : State) (l : Lane) (count : Nat) : State :=
  let pi := paceIndex count (Config.cFloor l)
  let r := s.lane l
  if r.phase = .down then s
  else
    let run := if pi < 64 then min 3 (r.piLow + 1) else 0
    let s := s.modLane l fun r => { r with
      pi := BitVec.ofNat 8 pi, piMin := BitVec.ofNat 8 (min pi r.piMin.toNat), piLow := run }
    if run = 0 then s else s.noteLane (if run < 3 then 0x020 else 0x021) l

/-- CORE_SUPPLY_LOW: `ns` is how long the supply has been below 0.72 V (R21). -/
def State.coreSupply (s : State) (l : Lane) (ns : Nat) : State :=
  let low : Bool := 10000 < ns
  let s := s.setReporting 0x022 l low
  if low then s.noteLane 0x022 l else s

/-! The core pair -/

/-- Source of a core-pair mismatch (R181, R376). -/
def LoupeItem.source : LoupeItem → Nat
  | .register => 0x000
  | .store => 0x001
  | .sheet => 0x002
  | .word => 0x003

/-- What two verdicts on an item report (R182, R183). -/
def loupeSource (item : LoupeItem) (v1 v2 : Verdict) : Option Nat :=
  match v1, v2 with
  | .matched, .matched => none
  | .mismatch, .mismatch => some item.source
  | _, _ => some 0x004

/-- The two verdicts with what an armed injection inverts: both, or that of the second Loupe alone (R183, R387). -/
def State.verdicts (s : State) (l : Lane) (item : LoupeItem) (v1 v2 : Verdict) : Verdict × Verdict :=
  if s.injected item.source [l] then (.mismatch, .mismatch)
  else if s.injected 0x004 [l] then (v1, if v1 = .matched then .mismatch else .matched)
  else (v1, v2)

/-- CORE_PAIR_MISMATCH. -/
def State.corePair (s : State) (l : Lane) (item : LoupeItem) (v1 v2 : Verdict) : State :=
  let v := s.verdicts l item v1 v2
  match loupeSource item v.1 v.2 with
  | some n => s.noteLane n l
  | none => s

/-- LOUPE_PROBE: both Loupes report the probe and nothing next to it (R184). -/
def State.loupeProbe (s : State) (l : Lane) (v1 v2 : Verdict) (neighbour : Bool) : State :=
  if v1 = .mismatch && v2 = .mismatch && !neighbour then s else s.noteLane 0x005 l

/-- An entry of the Latent Buffer is faulty: its check bits, or the index at which it is consumed (R180). -/
def LatentEntry.faulty (e : LatentEntry) (consumedBy : W32) : Bool :=
  e.check ≠ Config.latentCheck e.value e.index || e.index ≠ consumedBy

/-- The shadow consumes an entry, which is then freed (R179, R180). -/
def State.consumeLatent (s : State) (l : Lane) (e : LatentEntry) (consumedBy : W32) : State :=
  let s := s.modLane l fun r => { r with latent := r.latent.filter fun x => x ≠ e && x.index ≠ consumedBy }
  if e.faulty consumedBy || s.injected 0x006 [l] then s.noteLane 0x006 l else s

/-! Memory -/

/-- STATIC_REGION_SCAN_END: the value of a whole region against its own reference (R462, R463). -/
def State.scanEnd (s : State) (l : Lane) (logic : Bool) (value : W64) : State :=
  match if logic then (s.lane l).refLogic else (s.lane l).refFirmware with
  | some v => if v = value then s else s.noteLane 0x011 l
  | none => s

/-- The nine bytes under each configuration (R457). -/
def selfCheckJobs : List EngineJob := [(0 : BitVec 3), 1, 2, 3, 4].map fun k => { ctx := EngineCtx.fresh k, bytes := checkBytes }

/-- ENGINE_SELF_CHECK: the configurations of R458 whose known answer came out wrong (R457). -/
def State.selfCheck (s : State) (l : Lane) (second : Bool) (wrong : BitVec 5) : State :=
  let n := if second then 0x031 else 0x030
  let s := selfCheckJobs.foldl (fun s j => s.issue l second false j) s
  if wrong = 0 && !s.injected n [l] then s.setReporting n l false else s.noteLane n l

/-! Cross-lane words -/

/-- A word as its sender codes it: the true rail of each bit high for 1, the false rail for 0, with its CRC (R26). -/
def railWord (w : W32) : RailWord :=
  { dataTrue := w, dataFalse := ~~~w, crcTrue := crc8 w, crcFalse := ~~~(crc8 w) }

/-- The data of a word that a receiver accepts: one rail of each pair high, and the CRC right (R26, R27). -/
def RailWord.data (w : RailWord) : Option W32 :=
  if w.dataFalse = ~~~w.dataTrue && w.crcFalse = ~~~w.crcTrue && w.crcTrue = crc8 w.dataTrue then some w.dataTrue else none

/-- CROSS_LANE_WORD_REJECTED: a word with an illegal rail pair or a wrong CRC is asked for once again, then it is a channel error
(R27). A word that passes its checks is accepted. -/
def State.wordRejected (s : State) (ch : Chan) (w : RailWord) (repeated : Bool) : State :=
  if w.data.isSome then s else if repeated then s.channelError ch else s.emit (.askWord ch)

/-! Timebases -/

/-- Two timebases differ by more than 50 ppm over the second compared (R25): ticks of 100 ns counted in it. -/
def apart (x y : Ticks) : Bool := 500 < (x - y) + (y - x)

/-- TIMEBASE (R25): `a`, `b`, `c` are what each lane's timebase counted over the second. -/
def State.timebases (s : State) (a b c : Ticks) : State :=
  let count : Lane → Ticks := fun l => match l with
    | .a => a
    | .b => b
    | .c => c
  let lanes := Lane.all.filter fun l => (s.lane l).phase.exchanges
  let off := lanes.filter fun l => (lanes.filter fun k => k ≠ l && apart (count l) (count k)).length = 2
  let s := off.foldl (fun s l => s.noteLane 0x024 l) s
  match s.voting with
  | [k, j] => if apart (count k) (count j) && !s.flt.safelight.on && s.alive then s.voteFault 0x071 else s
  | _ => s

/-! Reports -/

/-- What a report tells of the dies (R36, R41, R48). For an archive source the code holds the region in the order of R41 and, in bit
8, the copy. -/
def State.reportDies (s : State) (n : Nat) (code : W16) : State :=
  let region := code.toNat % 256
  let copy := 1 + code.toNat / 256 % 2
  if n = 0x1C0 || n = 0x1C1 then { s with dies.kFaulted := true }
  else if n = 0x1C2 then { s with dies.archiveBad := s.dies.archiveBad.filter (fun x => x ≠ (5, copy)) ++ [(5, copy)] }
  else if n = 0x1E0 then
    { s with dies.archiveBad := s.dies.archiveBad.filter (fun x => x ≠ (region, copy)) ++ [(region, copy)] }
  else if n = 0x1E1 then
    { s with dies.archiveBad := s.dies.archiveBad.filter (fun x => x.1 ≠ region) ++ [(region, 1), (region, 2)] }
  else s

/-- What a report tells of the channels (R27). -/
def State.reportChannels (s : State) (n : Nat) : State :=
  Chan.all.foldl (fun s ch =>
    if n = 0x060 + Chan.idx ch then s.modChan ch fun c => { c with error := true }
    else if n = 0x063 + Chan.idx ch then s.modChan ch fun c => { c with faulted := true }
    else s) s

/-- Sources whose report names a code in its detail (R391). -/
def coded (n : Nat) : Bool := 0x100 ≤ n && n < 0x16C

/-- A source whose condition lasts until it is seen to have gone (R21). -/
def lasting (n : Nat) : Bool := n = 0x022 || n = 0x023

/-- STOP_BATH_OCCURRENCE: a source reports in the lanes of `seen`; where it is not seen it has stopped reporting
(R369 to R380). A source outside the lanes reports in all three, or with none seen in none. -/
def State.occurrence (s : State) (n : Nat) (seen : BitVec 3) (code : W16) : State :=
  let where_ := if ownLane n then seen else if seen = 0 then 0 else 7
  let s := Lane.all.foldl (fun s l =>
    if laneIn where_ l then (if lasting n then s.setReporting n l true else s) else s.setReporting n l false) s
  let lanes := (lanesOf where_).filter fun l => (s.lane l).phase.live
  if (if ownLane n then lanes.isEmpty else where_ = 0) then s
  else
    let det := if coded n then
        faultDetail code.toNat (if n < 0x160 then n - 0xFF else n - 0x15F) (if n < 0x160 then s.image.channelSymbol (n - 0x100) else 0) 0 0 0 0 0
      else codeDetail 0 0
    ((s.reportDies n code).reportChannels n).report n lanes det

/-! Block resets -/

/-- Detectors whose own measurement says whether they still report (R381). -/
def measured (n : Nat) : Bool := n = 0x050 || n = 0x051 || coded n

/-- Lanes in which a source still reports when its shadow closes. -/
def State.stillReports (s : State) (n : Nat) (lanes : List Lane) : List Lane :=
  lanes.filter fun l => (s.lane l).bath.reporting.getLsbD n && (!measured n || (s.causes l).getLsbD n)

/-- What a completed reset leaves in its block: a field crossing counts its frames anew on both sides (R464), an engine runs the
job that was interrupted and those that wait (R460). -/
def State.afterReset (s : State) (b : Block) : State :=
  match b with
  | .crossing l => s.modLane l fun r => { r with
      board.inCtr := none, board.boardCtr := none, board.outCtr := 0, board.stale := 0 }
  | .engine l second => s.modLane l (LaneRec.modEngine second EngineUnit.resume)
  | _ => s

/-- A reaction shadow closes and its detectors are judged afresh (R379, R381). -/
def State.closeShadow (s : State) (b : Block) : State :=
  let s := { s with dies.resets := s.dies.resets.filter fun x => x.1 ≠ b }
  let mask := fun (l : Lane) => shadowOf b l &&& ~~~(s.shadowMask l)
  let live := s.liveLanes
  let again := ((List.range 512).filter fun n => live.any fun l => (mask l).getLsbD n).map fun n =>
    (n, s.stillReports n (live.filter fun l => (mask l).getLsbD n))
  let s := s.modLanes fun l r => { r with
    bath.shadowed := r.bath.shadowed &&& ~~~(mask l), bath.reporting := r.bath.reporting &&& ~~~(mask l) }
  again.foldl (fun s x =>
    if x.2.isEmpty then s
    else (x.2.foldl (fun s l => s.modLane l fun r => { r with bath.shadowed := r.bath.shadowed ||| srcBit x.1 }) s).note x.1 x.2) s

/-- BLOCK_RESET_COMPLETE; a network die is released by K's check only (R32). -/
def State.resetComplete (s : State) (b : Block) : State :=
  match b with
  | .die _ => s
  | _ => if s.dies.resets.any fun x => x.1 = b then (s.afterReset b).closeShadow b else s

/-- The source under which the reset of a block that does not complete is recorded. -/
def Block.source : Block → Nat
  | .engine _ second => if second then 0x031 else 0x030
  | .crossing _ => 0x050
  | .port p => portSource p
  | .die .n1 => 0x180
  | .die .n2 => 0x1A0

/-- Lanes that a block's sources are seen in. -/
def Block.lanes : Block → List Lane
  | .engine l _ => [l]
  | .crossing l => [l]
  | _ => Lane.all

/-- BLOCK_RESET_BOUND_EXPIRY: the block is taken at level 2, and its shadow closes (R378, R379). -/
def State.resetOverdue (s : State) (b : Block) : State :=
  if s.dies.resets.any fun x => x.1 = b && x.2 + b.bound ≤ s.now then
    let s := s.record
      { kind := 1, level := 2, source := BitVec.ofNat 16 b.source, cls := BitVec.ofNat 8 ((classOf b.source).elim 0 fun c => c.code),
        lanes := laneMask (b.lanes.filter fun l => (s.lane l).phase.live), escalated := true, detail := codeDetail 0 0 }
    ((s.blockOut b b.source).closeShadow b).judge b.source
  else s

/-- The firmware image hash that K measured for the running slot. -/
def State.runningHash (s : State) : Hash := if s.upd.onTrial then s.upd.boot.trialHash else s.upd.boot.committedHash

/-- The network die image and the lane image of the running slot, as K measured them (R33, R422). -/
def State.netImage (s : State) : Hash := ((s.slot s.upd.running).image).elim Config.factoryNetworkHash fun i => i.netHash
def State.laneImage (s : State) : Hash := ((s.slot s.upd.running).image).elim Config.factoryLaneHash fun i => i.laneHash

/-- NETWORK_DIE_RESET_CHECK (R32). -/
def State.dieChecked (s : State) (d : Die) (h : Hash) : State :=
  if s.dies.resets.any fun x => x.1 = .die d then
    if h = s.netImage then (s.setDie d .up).closeShadow (.die d)
    else
      let n := if d = .n1 then 0x184 else 0x1A4
      let s := (s.loseDie d).closeShadow (.die d)
      (s.note n Lane.all).judge n
  else s

/-! The way out of Safelight -/

/-- A lane in VOTING holds a bit that reacted at level 3 or 4. -/
def LaneRec.holdsHigh (r : LaneRec) : Bool := r.bath.levels.any fun x => 3 ≤ x.2 && r.bath.sticky.getLsbD x.1

/-- The conditions of R384. -/
def State.mayLeave (s : State) : Bool :=
  s.alive && s.flt.safelight.on && !s.flt.safelight.lockout && s.flt.safelight.since + ms 1000 ≤ s.now && 2 ≤ s.votes &&
    s.voting.all (fun l => !(s.lane l).holdsHigh) && s.boundaryCycle.isSome

/-- SAFELIGHT_EXIT: the module stays in STOP (R80, R384). -/
def State.leaveSafelight (s : State) : State :=
  if s.mayLeave then
    let s := s.record { kind := 5, lanes := laneMask s.voting, detail := beBytes 6 s.flt.safelight.cycle.toNat }
    { s with flt.safelight := {} }
  else s

/-! The Negative -/

/-- RECORD_NUMBERS_EXHAUSTED: the last number is source 0x1E3's, and nothing further is written (R393). -/
def State.numbersExhausted (s : State) : State :=
  if s.neg.next = 0xFFFFFFFF && !s.neg.closed && !s.neg.queue.isEmpty then
    let s := s.writeRecord (s.fillRecord
      { kind := 1, level := 4, source := 0x1E3, cls := 0x15, lanes := laneMask s.liveLanes, detail := codeDetail 0 0 })
    let s := { s with neg.closed := true, neg.queue := [] }
    s.note 0x1E3 Lane.all
  else s

/-- The newest record written does not check in these banks (R390, R397). -/
def Negative.tear (n : Negative) (torn : BitVec 2) (number : W32) : Negative :=
  { n with
    bank1.torn := if torn.getLsbD 0 then n.bank1.torn ++ [number] else n.bank1.torn
    bank2.torn := if torn.getLsbD 1 then n.bank2.torn ++ [number] else n.bank2.torn }

/-- NEGATIVE_RECORD_WRITE: a scribe writes the oldest queued record (R388, R389); `torn`: banks in which the slot does not check
afterwards. -/
def State.scribeWrites (s : State) (torn : BitVec 2) : State :=
  if s.scribe.isSome && !s.neg.queue.isEmpty then
    let n := s.neg.next
    let s := s.writeFirst
    if s.neg.next = n then s else { s with neg := s.neg.tear torn n }
  else s

/-- CHAIN_HEAD_SIGN (R395). -/
def State.signDueHead (s : State) : State := if s.neg.reasons.isEmpty then s else s.signHead

end Sys2Proof.Machine
end

