-- ==== Sys2Proof/Machine/LaneLife.lean ====
section
/-! DEFINITION. A lane from reset to VOTING and back (R199, R203, R204): load, hashes and join checks (R34, R167,
R478, R482), the comparison of the Negative banks (R397), resynchronisation and the restart. -/

namespace Sys2Proof.Machine

/-! Reset and load -/

/-- The lane dies have power and K loads them, after both network dies (R37, R476). -/
def State.loads (s : State) : Bool := s.v.power.phase = .joining || s.alive

/-- LANE_RELEASED_FROM_RESET (R37, R199): V releases the three lanes together at a start. -/
def State.releaseLane (s : State) (l : Lane) : State :=
  if s.loads && s.suppliesGood && (s.lane l).phase = .down then
    s.modLanes fun k r => if r.phase = .down && (k = l || s.v.power.phase = .joining) then { r with phase := .loading } else r
  else s

/-- LANE_LOAD_COMPLETE (R199, R371, R469): the Stop Bath keeps its bits, the counters are off. -/
def State.laneLoaded (s : State) (l : Lane) (ok : Bool) : State :=
  if s.loads && (s.lane l).phase = .loading then
    if ok then s.modLane l fun r => { r with phase := .joining, counters := List.replicate 32 {} }
    else (s.withdrawalRecord l 0xFFFF).modLane l fun r => { r with phase := .withdrawn, withdrawnAt := some s.now }
  else s

/-! Hashes (R34) -/

/-- HASH: the firmware hash that a lane sends (R187). -/
def State.takeHash (s : State) (l sender : Lane) (h : Hash) : State :=
  if l ≠ sender && s.joins l sender && s.loads && (s.lane l).phase.live && (s.lane sender).phase.live then
    s.modLane sender fun r => { r with fwHash := some h }
  else s

/-! The Negative banks at a start (R397) -/

/-- The slot of a record: in the pinned area in order, or in the ring (R388). -/
def slotOf (pinned : List Record) (r : Record) : Nat :=
  let before := (pinned.filter fun p => p.number.toNat < r.number.toNat).length
  if r.pinned then before else 4096 + (r.number.toNat - 1 - before) % 94208

/-- Records of one bank that the other lacks or holds otherwise. -/
def missing (one two : List Record) : List Record := one.filter fun r => !two.contains r

/-- A slot rewritten is an EVENT NEGATIVE_REPAIRED (R529). -/
def State.repaired (s : State) (bank : Byte) (l : List Record) : State :=
  l.foldl (fun s r => s.event 0x0404 (beBytes 4 (slotOf s.neg.bank1.pinned r) ++ [bank])) s

/-- The records of a bank of given numbers check again once their slots are rewritten. -/
def Bank.mend (b : Bank) (l : List Record) : Bank :=
  { b with torn := b.torn.filter fun n => !l.any fun r => r.number = n }

/-- The scribe compares the banks: bank 1 takes what only bank 2 holds, or holds sound, bank 2 then takes bank 1's content. -/
def State.repairBanks (s : State) : State :=
  let one := s.neg.bank1.held
  let two := s.neg.bank2.sound
  let numbers := one.map fun r => r.number
  let lacking := two.filter fun r => !numbers.contains r.number
  let only2 := two.filter fun r => !numbers.contains r.number || s.neg.bank1.torn.contains r.number
  let s := if s.writable 0 1 && !only2.isEmpty then
      { s with neg.bank1 := (lacking.foldl Bank.put s.neg.bank1).mend only2 }.repaired 1 only2
    else s
  let only1 := missing s.neg.bank1.held two
  if s.writable 0 2 && !only1.isEmpty then { s with neg.bank2 := s.neg.bank1 }.repaired 2 only1 else s

/-! Join checks (R34, R167, R199, R478) -/

/-- What a lane has found agrees with another lane. -/
def State.agreesWith (s : State) (l k : Lane) : Bool :=
  l ≠ k && (s.lane l).fwHash = (s.lane k).fwHash && (s.lane l).logicHash = (s.lane k).logicHash

/-- A lane in JOINING whose checks have been made. -/
def LaneRec.checked (r : LaneRec) : Bool := r.phase = .joining && r.fwHash.isSome && r.logicHash.isSome && r.refFirmware.isSome

/-- A lane may join: another lane that has passed or makes the same checks agrees with it. -/
def State.mayJoin (s : State) (l : Lane) : Bool :=
  (s.lane l).checked && Lane.all.any fun k => s.agreesWith l k &&
    ((s.lane k).checked || (s.lane k).phase = .voting || (s.lane k).phase = .probation)

/-- Neither other lane, both known, agrees with a lane. -/
def State.standsAlone (s : State) (l : Lane) : Bool :=
  (s.lane l).checked && (Lane.all.filter fun k => k ≠ l).all fun k =>
    (s.lane k).logicHash.isSome && (s.lane k).fwHash.isSome && !s.agreesWith l k

/-- A lane fails a join check: WITHDRAWN with the source (R478), whatever level the source reacts at. -/
def State.failJoin (s : State) (l : Lane) (n : Nat) : State := s.noteOut n l

/-- A lane that may join joins: before the first boundary it waits for it, later it resynchronises (R199). -/
def State.joinLane (s : State) (l : Lane) : State :=
  if s.mayJoin l && !(s.lane l).joined then
    if s.v.power.phase = .joining then s.modLane l fun r => { r with joined := true }
    else if 2 ≤ s.votes then s.modLane l fun r => { r with phase := .resync, resync := {}, joined := true }
    else s
  else s

/-- Lanes that have joined and wait for the first boundary. -/
def State.joinedLanes (s : State) : List Lane := Lane.all.filter fun l => (s.lane l).phase = .joining && (s.lane l).joined

/-- The active bank fails where the joined lanes agree on another hash than the stored one (R167); its state is then
REJECTED (DESIGN CHOICE, log 124). -/
def State.judgeBank (s : State) : State :=
  let b := s.logic.activeBank
  match s.joinedLanes with
  | l :: _ :: _ =>
    if (s.bank b).state = .active && (s.lane l).logicHash ≠ some s.cyc.settings.activeHash then
      s.setBank b { s.bank b with state := .rejected }
    else s
  | _ => s

/-- The lanes take their settings from the store in use, or the other where it does not verify (R441, R478). -/
def State.takeSettings (s : State) (x : Settings) : State :=
  if s.v.power.phase = .joining && s.cyc.settingsOk then { s with cyc.settings := x } else s

/-- Neither settings store verifies: the launch profile in place of every setting (R8, R482). -/
def State.defaultSettings (s : State) : State :=
  if s.v.power.phase = .joining && s.cyc.settingsOk then
    { s with
      cyc.settings := { s.cyc.settings with cycle := {}, pair := {} }
      cyc.settingsOk := false, cyc.defaultsNeed := 3 }.event 0x0403 []
  else s

/-- LANE_JOIN_CHECK: checks 1 to 4 of R478, and what they settle. The LOCKOUT flag is read at the first boundary. -/
def State.joinCheck (s : State) (l : Lane) (fw logic : Hash) (refsAgree : Bool) (stores : BitVec 2) : State :=
  if (s.lane l).phase ≠ .joining || (s.lane l).joined then s
  else if fw ≠ s.laneImage then
    (s.modLane l fun r => { r with fwHash := some fw }).failJoin l 0x044
  else if !refsAgree then (s.modLane l fun r => { r with fwHash := some fw, logicHash := some logic }).failJoin l 0x011
  else
    let before := s.joinedLanes.length
    let s := s.modLane l fun r => { r with
      fwHash := some fw, logicHash := some logic
      refFirmware := some (Config.regionCode fw), refLogic := some (Config.regionCode logic) }
    let s := (s.settingsRead stores).elim s.defaultSettings s.takeSettings
    let s := if s.v.power.phase = .joining then s.convertSettings else s
    let s := Lane.all.foldl State.joinLane s
    let s := Lane.all.foldl (fun s k => if s.standsAlone k then s.failJoin k 0x044 else s) s
    let s := if s.v.power.phase = .joining then s.judgeBank else s
    if before < 2 && 2 ≤ s.joinedLanes.length then s.repairBanks else s

/-- JOIN_TIMEOUT: the module stays in Safelight with no lane in VOTING (R478, R202). -/
def State.joinTimeout (s : State) : State :=
  match s.v.power.loadedAt with
  | some t =>
    if s.v.power.phase = .joining && t + ms 1000 ≤ s.now && s.joinedLanes.length < 2 then
      { s with v.power.phase := .running }.judge 0x070
    else s
  | none => s

/-! Resynchronisation (R204) -/

/-- The lanes in VOTING that send to a returning lane. -/
def State.sources (s : State) (l : Lane) : List Lane := s.voting.filter fun k => k ≠ l

/-- The words that a source lane has sent. -/
def Resync.copy (r : Resync) (k : Lane) : List W32 := (r.copies.find? fun x => x.1 = k).elim [] fun x => x.2

def Resync.setCopy (r : Resync) (k : Lane) (w : List W32) : Resync :=
  { r with copies := (r.copies.filter fun x => x.1 ≠ k) ++ [(k, w)] }

/-- Place of the first word in which two copies differ. -/
def firstDifference : List W32 → List W32 → Nat
  | a :: r, b :: t => if a = b then firstDifference r t + 1 else 0
  | _, _ => 0

/-- Copies that differ once more: the lanes in VOTING hold different committed state (R199, R204). -/
def State.resyncFails (s : State) (l : Lane) : State :=
  let s := s.noteOut 0x044 l
  if s.flt.safelight.on then s else s.voteFault 0x071

/-- The two whole copies are compared (R204): the words from the first that differs on are asked for once more. -/
def State.compareCopies (s : State) (l : Lane) : State :=
  let r := (s.lane l).resync
  match (s.sources l).map r.copy with
  | [x, y] =>
    if x.length < r.words.length || y.length < r.words.length then s
    else if x = y then s.modLane l fun z => { z with resync.agreed := true }
    else if r.askedOnce then s.resyncFails l
    else
      let first := firstDifference x y
      let n := r.words.length - first
      (s.modLane l fun z => { z with
        resync.askedOnce := true, resync.asked := some (first, n)
        resync.copies := r.copies.map fun c => (c.1, c.2.take first) }).emit (.askRange l first n)
  | _ => s

/-- RESYNC_BULK: a slice of a source lane's copy, placed at its first word; the two copies are compared once both are in. -/
def State.resyncBulk (s : State) (l sender : Lane) (first : Nat) (words : List W32) : State :=
  let r := (s.lane l).resync
  if (s.lane l).phase ≠ .resync || !r.snapped || r.agreed || !(s.sources l).contains sender || (r.copy sender).length ≠ first then s
  else (s.modLane l fun x => { x with resync := r.setCopy sender (r.copy sender ++ words) }).compareCopies l

/-- Two deltas of one cycle that differ are asked for once more (R204). -/
def State.compareDeltas (s : State) (l : Lane) (cycle : W48) : State :=
  let r := (s.lane l).resync
  match r.deltaFrom.filter fun x => x.2.1 = cycle with
  | [x, y] =>
    if x.2.2 = y.2.2 then s
    else if r.deltaAsked then s.resyncFails l
    else
      (s.modLane l fun z => { z with
        resync.deltaAsked := true, resync.deltaFrom := r.deltaFrom.filter fun x => x.2.1 ≠ cycle }).emitAll
        ((s.sources l).map fun k => .resyncDelta k l s.cyc.lastFix s.committedWords)
  | _ => s

/-- RESYNC_DELTA: the newest commit of a source lane, compared with the other's. -/
def State.resyncDelta (s : State) (l sender : Lane) (cycle : W48) (words : List W32) : State :=
  if (s.lane l).phase = .resync && (s.lane l).resync.snapped && (s.sources l).contains sender then
    (s.modLane l fun r => { r with
      resync.deltaFrom := (r.resync.deltaFrom.filter fun x => x.1 ≠ sender) ++ [(sender, cycle, words)] }).compareDeltas l cycle
  else s

/-- A returning lane holds a source's every commit. -/
def State.caughtUp (s : State) (l k : Lane) : Bool :=
  let r := (s.lane l).resync
  s.cyc.lastFix.toNat ≤ r.snapshot.toNat || r.deltaFrom.any fun x => x.1 = k && s.cyc.lastFix.toNat ≤ x.2.1.toNat

/-- RESYNC_COMPLETE: PROBATION at the next boundary. -/
def State.resyncDone (s : State) (l : Lane) : State :=
  if (s.lane l).phase = .resync && (s.lane l).resync.agreed && (s.sources l).all (s.caughtUp l) then
    s.modLane l fun r => { r with enter := true, leaseAt := s.pair.lease.renewed }
  else s

/-! The restart (R199, R203) -/

/-- LANE_RESTART_TIMER: at a boundary, from 100 ms after withdrawal on (log 60). -/
def State.restartTimer (s : State) (l : Lane) : State :=
  let r := s.lane l
  match r.phase, r.withdrawnAt with
  | .withdrawn, some t =>
    if !s.alive || s.now ≠ s.cyc.start || s.now < t + ms 100 then s
    else if 3 ≤ r.restartsIn24h s.now then s.modLane l fun r => { r with phase := .barred }
    else if s.restartable l then s.modLane l fun r => restartLane { r with restarts := r.restarts ++ [s.now] }
    else s
  | _, _ => s

end Sys2Proof.Machine
end

