-- ==== Sys2Proof/Machine/Clock.lean ====
section
/-! DEFINITION. Following a reference: SYNC-IN and PTP boundaries (R72 to R75, R507), PTP time (R317, R318), and the
Densitometer's sample tick (R469 to R472). -/

namespace Sys2Proof.Machine

/-! Reference boundaries -/

/-- A reference boundary outside the window, or an edge too soon after the last: flagged and counted (R73, R74,
R507). -/
def State.flagEdge (s : State) : State :=
  { s with v.sync.outOfWindow := if s.v.sync.outOfWindow = 0xFFFFFFFF then 0xFFFFFFFF else s.v.sync.outOfWindow + 1 }.note
    0x075 Lane.all

/-- Offset of this instant from a lane's own boundary nearest to it, in ns (R73). -/
def State.laneOffset (s : State) (l : Lane) : Int :=
  let back : Int := (s.now : Int) - (s.lane l).boundary
  let ahead : Int := back - (s.periodNs + s.v.sync.adjust)
  if ahead.natAbs < back.natAbs then ahead else back

/-- The results of the lanes in VOTING (R73). -/
def State.offsets (s : State) : List Int := s.voting.map s.laneOffset

/-- The move of the next boundary for an offset (R73), in ns. -/
def moveFor (p : Time) (e : Int) : Int :=
  let a := e.natAbs
  if a ≤ 10000 then 0
  else
    let step := min (min (max (a / 2) 50000) (p * 2 / 100)) a
    if e < 0 then -(step : Int) else step

/-- The one step by which a module in STOP aligns itself (R75): the next boundary falls a multiple of P after the
reference. A reference that lies outside the window is neither flagged nor counted then, and it ends a loss of sync (DESIGN
CHOICE, log 121). -/
def State.alignTo (s : State) (e : Int) : State :=
  let adjust := s.v.sync.adjust + e
  let early : Bool := (s.nextBoundary : Int) + e ≤ s.now
  { s with
    v.sync.adjust := if early then adjust + s.periodNs else adjust
    v.sync.aligned := true, v.sync.seen := true, v.sync.missed := 0, v.sync.lost := false }

/-- A reference boundary (R73, R74, R75); one that is outside the window of all lanes but one is outside that of the module. -/
def State.referenceBoundary (s : State) : State :=
  if !s.alive || s.votes < 2 then s
  else
    let within := s.offsets.filter fun e => 4 * e.natAbs ≤ s.periodNs
    if s.cyc.mode = .stop && !s.v.sync.aligned then s.alignTo (middleMove s.offsets)
    else if within.length < 2 then s.flagEdge
    else
      { s with
        v.sync.adjust := s.v.sync.adjust + middleMove (within.map (moveFor s.periodNs))
        v.sync.seen := true, v.sync.missed := 0, v.sync.lost := false }

/-- SYNC_IN_EDGE (R507): `width` and `gap` in ns. -/
def State.syncEdge (s : State) (width gap : Nat) : State :=
  if s.cs.sync ≠ 1 || width < 2000 || gap < 10000 then s
  else
    let soon := match s.v.sync.lastEdge with
      | some t => decide (2 * (s.now - t) < s.periodNs)
      | none => false
    let s := { s with v.sync.lastEdge := some s.now }
    if soon then (if s.alive then s.flagEdge else s) else s.referenceBoundary

/-- PTP time is an integer multiple of P since the PTP epoch (R72). -/
def State.ptpMultiple (s : State) : Bool := s.ptpTime.elim false fun t => t.toNat % s.periodNs = 0

/-- PTP_REFERENCE_BOUNDARY (R72). -/
def State.ptpBoundary (s : State) : State := if s.cs.sync = 2 && s.ptpMultiple then s.referenceBoundary else s

/-! PTP -/

/-- PTP_VALID changes, with its record (R318, R529); an interval without valid time begins or ends (R224). -/
def State.setPtp (s : State) (on : Bool) (cause : Byte) : State :=
  { s with v.ptp.valid := on, v.ptp.unchecked := false, v.ptp.good := if on then 16 else 0 }.event 0x0407 [if on then 1 else 0, cause]

/-- PTP_VALID is cleared, where it is set. -/
def State.dropPtp (s : State) (cause : Byte) : State :=
  if s.v.ptp.valid then s.setPtp false cause else { s with v.ptp.good := 0 }

/-- The best master heard: the lowest rank, of equal ranks the one heard first (R317). -/
def bestMaster (l : List (Nat × Nat)) : Option Nat :=
  (l.foldl (fun (b : Option (Nat × Nat)) m => match b with
    | some x => if m.2 < x.2 then some m else b
    | none => some m) none).map fun x => x.1

/-- V selects among the masters; a new one starts the count of good intervals (R317, R318). -/
def State.selectMaster (s : State) (l : List (Nat × Nat)) : State :=
  let sel := bestMaster l
  { s with
    v.ptp.masters := l, v.ptp.selected := sel
    v.ptp.good := if sel = s.v.ptp.selected || s.v.ptp.valid then s.v.ptp.good else 0 }

/-- The end of a Sync interval with the selected master (R318). -/
def State.syncInterval (s : State) (m : PtpMsg) : State :=
  let s := { s with v.ptp.base := m.time, v.ptp.baseAt := s.now }
  if 100 < m.ratePpm then s.dropPtp 3
  else if 100000 < m.offset.natAbs then s.dropPtp 2
  else if 1000 ≤ m.offset.natAbs then { s with v.ptp.good := if s.v.ptp.valid then s.v.ptp.good else 0 }
  else
    let good := min 16 (s.v.ptp.good + 1)
    if good = 16 && !s.v.ptp.valid then (s.setPtp true 0).judgeSchedule else { s with v.ptp.good := good }

/-- PTP_MESSAGE on a host port (R317, R318). -/
def State.ptpTraffic (s : State) (m : PtpMsg) : State :=
  if !s.alive || !s.portUsable (.h m.port) || m.domain ≠ s.trust.cfg.ptpDomain then s
  else if m.announce then s.selectMaster (setKey s.v.ptp.masters m.master m.rank)
  else if s.v.ptp.selected = some m.master then s.syncInterval m
  else s

/-- PTP_ANNOUNCE_TIMEOUT (R318). -/
def State.announceLost (s : State) (master : Nat) : State :=
  let l := s.v.ptp.masters.filter fun x => x.1 ≠ master
  let s := s.selectMaster l
  if l.isEmpty then s.dropPtp 1 else s

/-! The Densitometer's sample tick (R470) -/

/-- DELTA data received and not yet computed, in bytes (R352, R364). -/
def State.backlog (s : State) : Nat :=
  if s.holdsLamp then 0 else s.pair.mirror.held.foldl (fun n x => n + x.2.bytes.length) 0

/-- Value of a resource at a lane's sample tick (R470). -/
def State.resource (s : State) (l : Lane) (code : Nat) : Nat :=
  let r := s.lane l
  let exposing : Bool := s.cyc.phase = .expose || s.cyc.phase = .setWait
  if code < 0x10 then (s.net.entries.filter fun e => e.tray = code && !e.left).length
  else if code = 0x10 then s.inFlight
  else if code = 0x11 then (s.backlog + 1023) / 1024
  else if code = 0x12 then
    match r.arrived with
    | some t => if s.cyc.phase = .rendezvous || s.cyc.phase = .waitThird then min 1000000 ((s.now - t) / 1000) else 0
    | none => 0
  else if code = 0x13 then
    if exposing || (s.cyc.phase = .develop && !r.devDone) then min 1000 ((s.now - r.boundary) * 1000 / s.periodNs) else 0
  else if code = 0x14 then
    if s.cyc.phase = .develop then ((s.cutUpTo s.cyc.cons.cut).filter Entry.isRoute).length else 0
  else if code = 0x15 then s.rail.waiting.length
  else if code = 0x16 then r.minority.length
  else if code = 0x17 then r.latent.length
  else 0

/-- DENSITOMETER_SAMPLE_TICK: every threshold counter above its threshold adds 1 (R469 to R472). -/
def State.sampleTick (s : State) (l : Lane) : State :=
  if (s.lane l).phase.counts && !s.laneInSlice l then
    s.modLane l fun r => { r with
      counters := countWhere (fun c => c.mode = 1 && decide (c.threshold.toNat < s.resource l c.source.toNat)) r.counters }
  else s

end Sys2Proof.Machine
end

