-- ==== Sys2Proof/Machine/Start.lean ====
section
/-! DEFINITION. Supplies, start and power-fail stop (R37, R38, R427, R439, R476 to R490), the first boundary (R368,
R385, R478 to R480), pair presence (R500), cages and links (R503, R504). -/

namespace Sys2Proof.Machine

/-! Supplies -/

def Power.setFeed (p : Power) (f : Feed) (on : Bool) : Power :=
  match f with
  | .a => { p with feedA := on }
  | .b => { p with feedB := on }

def Power.feed (p : Power) : Feed → Bool
  | .a => p.feedA
  | .b => p.feedB

/-- The source of a lost feed (R485). -/
def feedSource : Feed → Nat
  | .a => 0x1D3
  | .b => 0x1D4

/-- LOW_SUPPLY: the store below 90 %, or the supply below 20 V (R262, R485). -/
def Power.low (p : Power) : Bool := p.charge < 90 || p.feedLow

/-- The hold-up store as V measures it (R38, R477). -/
def State.measure (s : State) (charge : Nat) : State :=
  let p := { s.v.power with charge := min 100 charge }
  { s with v.power := { p with lowSupply := p.low } }

/-- V leaves reset: straps, pair presence, charging (R345, R476, R499, R500). A strap bit that is linked wrongly gives
code 0b11. -/
def State.leaveReset (s : State) (f : Feed) (straps : BitVec 2) (strapFault : Bool) (charge : Nat) : State :=
  let s := { s with
    v.power := { s.v.power.setFeed f true with phase := .charging, feedLow := false, within := some s.now }
    v.strap := if strapFault then 3 else straps, v.ppOut := true }
  (s.measure charge).emit (.ppOut true)

/-- POWER_ON: the first logic feed. -/
def State.powerOn (s : State) (f : Feed) (straps : BitVec 2) (strapFault : Bool) (charge : Nat) : State :=
  if s.v.power.phase = .off then s.leaveReset f straps strapFault charge
  else { s with v.power := s.v.power.setFeed f true }

/-- HOLD_UP_READY: V, released 1 ms after its supplies came within limits, releases M, then K, at 60 % (R37, R476, R477). -/
def State.holdUpReady (s : State) (charge : Nat) : State :=
  if s.v.power.phase = .charging then
    let s := s.measure charge
    if 60 ≤ charge && s.suppliesGood then { s with v.power.phase := .booting, dies.mUp := true, dies.kUp := true } else s
  else s

/-! K boots (R427, R439) -/

/-- The seal configuration whose change was written before the supplies went (R416). -/
def State.takeSeal (s : State) : State :=
  match s.trust.due with
  | some c => if c.said then { s with trust.cfg := c.new, trust.due := none }.storeSeal else { s with trust.due := none }
  | none => s

/-- The slot that is not running is judged again (R440). -/
def State.judgeSlot (s : State) : State :=
  if s.offerSlot.state = .verified && !s.loadable (!s.upd.running) then s.modOfferSlot fun x => { x with state := .rejected } else s

/-- An image that was complete when the supplies went is checked anew, by FIRMWARE_IMAGE_VERIFIED (R445). -/
def State.chosen (s : State) : State :=
  let b := s.upd.boot
  { s with upd.running := b.trial.getD b.committed, upd.onTrial := b.trial.isSome, upd.unjudged := b.activation.isSome }

/-- What K does with the copies that verify (R33, R408, R427, R439). -/
def State.bootFrom (s : State) (sealCopies : BitVec 2) : State :=
  ((s.readSeal sealCopies).bootWrite fun b => { b with bootCount := b.bootCount + 1 }).takeSeal.chooseSlot.chosen

/-- K_BOOT_COMPLETE: copies chosen, trial rules applied, the network dies loaded together. `boot` and `sealCopies`: the copies of the
boot record and of the seal configuration that verify, bit 0 copy 1. Without a boot record K loads no die. -/
def State.kBooted (s : State) (boot sealCopies : BitVec 2) : State :=
  if s.v.power.phase ≠ .booting then s
  else match s.readBoot boot with
    | none => { s with v.power.phase := .dead }
    | some s =>
      let s := s.bootFrom sealCopies
      if !s.loadable s.upd.running then { s with v.power.phase := .dead }
      else
        let s := s.judgeSlot.stopPrints
        { (s.setDie .n1 .up).setDie .n2 .up with v.power.phase := .joining, v.power.loadedAt := some s.now }

/-! The first boundary (R368, R385, R476, R478 to R480) -/

/-- Median of the timebase readings of the joined lanes, the lower of two. -/
def State.startReading (s : State) : Ticks := medianOrLower (s.joinedLanes.map s.readingOf)

/-- The railway in the cold state, within the start settle period, its outputs held safe by STOP (R82, R479, R480; log 113). -/
def State.startRail (s : State) : Rail :=
  let now := s.startReading
  ((coldRail s.image now).beginSettle (now + tk s.image.settleMs)).holdSafe s.image true

/-- The START record (R391). -/
def State.startRecord (s : State) : State :=
  s.record { kind := 9, lanes := laneMask s.voting,
             detail := [if s.upd.running then 1 else 0, if s.upd.onTrial then 1 else 0] ++ beBytes 4 s.upd.boot.bootCount.toNat }

/-- Cages found with a refused module at this start (R504, R529). -/
def State.refusedCages (s : State) : State :=
  let refused := (s.net.hostPorts ++ s.net.mirrorPorts).zipIdx.filter fun x => x.1.refusedSfp
  refused.foldl (fun s x => s.event 0x0406 [BitVec.ofNat 8 x.2]) s

/-- Pair role and Lamp at a start (R347, R366, R368). -/
def State.startRole (s : State) : State :=
  if s.paired then
    { s with pair.role := .standby, pair.listenSince := some s.now, pair.mirror.wantBulk := true,
             pair.mirror.bulkSince := some s.cyc.cycle }
  else if s.v.strap = 0 then { s.raiseEpoch with pair.roleSettled := true }
  else s

/-- Notes of a start, a retirement that the supplies interrupted, and a LOCKOUT that outlasts it (R345, R385, R404, R416,
R427). -/
def State.startNotes (s : State) : State :=
  let s := if s.trust.cfg.lifecycle = .retired && !s.trust.erased then s.retire else s
  let s := if s.v.strap = 3 then s.note 0x1F1 Lane.all else s
  let s := if s.dies.bootUnread || (s.dies.archiveBad.any fun x => x.1 = 5) then s.note 0x1C2 Lane.all else s
  let s := if s.dies.kFaulted then s.note 0x1C0 Lane.all else s
  let s := if s.flt.persistent.lockout then s.enterSafelight s.flt.persistent.lockoutSource 4 else s
  s.judge s.flt.safelight.source

/-- FIRST_BOUNDARY: two lanes have joined. -/
def State.firstBoundary (s : State) : State :=
  let lanes := s.joinedLanes
  if s.v.power.phase ≠ .joining || lanes.length < 2 then s
  else
    let rail := s.startRail
    let s := s.readLamp
    let s := s.modLanes fun l r => if lanes.contains l then { r with phase := .voting } else r
    let s := { s with
      v.power.phase := .running, v.ppOut := true, rail := rail
      cyc.cycle := 0, cyc.start := s.now, cyc.phase := .expose, cyc.visit := laneMask lanes }
    let s := if s.paired then s.emit (.ppOut true) else s
    let s := s.startRecord.refusedCages.wantSignature 1
    let s := s.startRole.startNotes.pulseOut
    lanes.foldl (fun s l => s.freeze l (s.readingOf l)) s

/-! Losing the supplies -/

/-- FEED_LOSS (R485, R493). -/
def State.feedLost (s : State) (f : Feed) : State :=
  if s.v.power.feed f then
    { s with v.power := { s.v.power.setFeed f false with lastLost := f } }.note (feedSource f) Lane.all
  else s

/-- The dies go down with the end of the power-fail stop, or of a start that has not come to its first boundary (R487,
R489). -/
def State.goDown (s : State) : State := s.resetDies .stopped

/-- The power-fail stop (R487): Safelight, the last records, the signature. -/
def State.powerFailStop (s : State) : State :=
  let src := feedSource s.v.power.lastLost
  let queued := s.neg.queue.length
  let s := if s.flt.safelight.on then
      s.record { kind := 4, level := 3, source := BitVec.ofNat 16 src, lanes := laneMask s.voting,
                 detail := beBytes 2 src ++ [3] }
    else s.enterSafelight src 3
  let s := if 2 ≤ s.votes then (s.fence.sendTelegrams .safe).sendReplies [] else s
  let s := s.record { kind := 0x0A, lanes := laneMask s.voting,
                      detail := [BitVec.ofNat 8 s.v.power.charge] ++ beBytes 2 queued }
  let s := s.writeAll s.neg.queue.length
  let s := { s with neg.reasons := [3] }.signHead
  (s.writeAll s.neg.queue.length).goDown

/-- BOTH_FEEDS_LOST (R486, R489). -/
def State.bothLost (s : State) (charge : Nat) : State :=
  let s := ((s.feedLost .a).feedLost .b).measure charge
  match s.v.power.phase with
  | .off => s
  | .stopped => s
  | .rideThrough => s
  | .running =>
    if charge < 60 then s.powerFailStop else { s with v.power.phase := .rideThrough, v.power.lossAt := some s.now }
  | _ => s.goDown

/-- FEED_RETURN: a ride-through is withdrawn; a stop that has begun is not (R486, R488). -/
def State.feedBack (s : State) (f : Feed) : State :=
  let s := { s with v.power := s.v.power.setFeed f true }
  if s.v.power.phase = .rideThrough then { s with v.power.phase := .running, v.power.lossAt := none } else s

/-- RIDE_THROUGH_END (R486). -/
def State.rideEnd (s : State) (charge : Nat) : State :=
  match s.v.power.phase, s.v.power.lossAt with
  | .rideThrough, some t =>
    let s := s.measure charge
    if t + ms 10 ≤ s.now || charge ≤ 60 then s.powerFailStop else s
  | _, _ => s

/-- RESTART_AFTER_POWER_FAIL: a full start (R488). -/
def State.restartAfterFail (s : State) (f : Feed) (straps : BitVec 2) (strapFault : Bool) (charge : Nat) : State :=
  if s.v.power.phase = .stopped then s.leaveReset f straps strapFault charge else s

/-- LOW_SUPPLY_CHANGE (R262, R485). -/
def State.lowSupplyChange (s : State) (charge : Nat) (feedLow : Bool) : State :=
  if s.v.power.phase = .off then s
  else
    let s := { s with v.power.feedLow := feedLow }.measure charge
    if s.v.power.lowSupply then s.note 0x1D2 Lane.all else s

/-! Presence and ports -/

/-- PAIR_PRESENCE_CHANGE: what PP-IN shows, after V's filter (R345, R500). -/
def State.presence (s : State) (asserted : Bool) : State := if s.v.power.phase = .off then s else { s with v.ppIn := asserted }

/-- The number of a cage (R529). -/
def cageOf : Port → Option Nat
  | .h i => some i.val
  | .m i => some (i.val + 4)
  | _ => none

/-- SFP_INSERTED (R504). -/
def State.sfp (s : State) (p : Port) (accepted : Bool) : State :=
  match cageOf p with
  | none => s
  | some k =>
    let s := s.modPort p fun x => { x with refusedSfp := !accepted, up := x.up && accepted }
    if accepted || !s.alive then s else s.event 0x0406 [BitVec.ofNat 8 k]

/-- HOST_LINK_CHANGE on a host, mirror or service port (R290, R504). -/
def State.hostLink (s : State) (p : Port) (up : Bool) : State :=
  match p with
  | .f _ => s
  | _ =>
    let x := s.port p
    let on := up && s.dieUp (portDie p) && s.portLive p && !x.outOfService && !x.refusedSfp
    s.modPort p fun y => { y with up := on }

end Sys2Proof.Machine
end

