-- ==== Sys2Proof/Machine/ExecCycle.lean ====
section
/-! DEFINITION. The cycle (R49 to R80, R187 to R206, R244) and the reference it follows. -/

namespace Sys2Proof.Machine

/-- CYCLE_BOUNDARY (R51, R55). -/
def execCycleBoundary (t : Time) (l : Lane) (reading : Ticks) (s : State) : Host.Outcome State Fault Refusal :=
  .next ((s.begin t).cycleBoundary l reading)

/-- INPUT_IMAGE arrives at a lane (R187, R188). -/
def execInputImage (t : Time) (l : Lane) (m : LaneMsg) (s : State) : Host.Outcome State Fault Refusal :=
  .next ((s.begin t).takeInput l m.ch m.words)

/-- E has passed since a lane's own boundary (R49, R192). -/
def State.exposeEnds (s : State) : State :=
  if s.alive && (s.cyc.phase = .expose || s.cyc.phase = .setWait) then s.closeExpose (s.closesExpose false) else s

/-- EXPOSE_CLOSE. -/
def execExposeClose (t : Time) (s : State) : Host.Outcome State Fault Refusal :=
  .next ((s.begin t).overdue.exposeEnds)

/-- SET arrives at a lane (R191, R192). -/
def execSet (t : Time) (l : Lane) (m : LaneMsg) (s : State) : Host.Outcome State Fault Refusal :=
  .next (((s.begin t).overdue.takeSet l m.ch m.words).setsHeld l)

/-- SET_WAIT_EXPIRY: the 10 us for SETs have passed in a lane (R192). -/
def execSetWaitExpiry (t : Time) (l : Lane) (s : State) : Host.Outcome State Fault Refusal :=
  .next ((s.begin t).overdue.setsDue l)

/-- DEVELOP_COMPLETE (R59, R126, R154). -/
def execDevelopComplete (t : Time) (d : LaneDelta) (s : State) : Host.Outcome State Fault Refusal :=
  .next ((s.begin t).overdue.developDone d.lane d.delta)

/-- The Develop deadline: a lane that is not done is counted (R471), and with fewer than two done the cycle is skipped
(R68). -/
def State.developDeadlinePasses (s : State) : State :=
  if s.inCycle && s.past s.cs.develop false then s.developMissed.developLate else s

/-- DEVELOP_DEADLINE. -/
def execDevelopDeadline (t : Time) (s : State) : Host.Outcome State Fault Refusal :=
  .next ((s.begin t).developDeadlinePasses)

/-- The Mirror deadline (R61). -/
def State.mirrorDeadlinePasses (s : State) : State :=
  if s.inCycle && s.past s.cs.mirror false then s.mirrorEnd else s

/-- MIRROR_DEADLINE. -/
def execMirrorDeadline (t : Time) (s : State) : Host.Outcome State Fault Refusal :=
  .next ((s.begin t).mirrorDeadlinePasses)

/-- OUTPUT_IMAGE (R62, R190, R193). -/
def execOutputImage (t : Time) (l : Lane) (e : ImageError) (s : State) : Host.Outcome State Fault Refusal :=
  .next ((s.begin t).overdue.outputArrives l e)

/-- W after the second arrival (R62). -/
def State.windowEnds (s : State) : State := if s.alive && s.windowOver false then s.voteInstant else s.reVote

/-- RENDEZVOUS_WINDOW_EXPIRY. -/
def execRendezvousWindowExpiry (t : Time) (s : State) : Host.Outcome State Fault Refusal :=
  .next ((s.begin t).windowEnds)

/-- Fix latest (R62, R64, R65, R68). -/
def State.fixLatestPasses (s : State) : State :=
  if s.inCycle && s.past s.cs.fixLatest false then s.fixLatest else s

/-- FIX_LATEST_DEADLINE. -/
def execFixLatestDeadline (t : Time) (s : State) : Host.Outcome State Fault Refusal :=
  .next ((s.begin t).overdue.fixLatestPasses)

/-- LATE_OUTPUT_IMAGE (R196, R205). -/
def execLateOutputImage (t : Time) (l : Lane) (e : ImageError) (s : State) : Host.Outcome State Fault Refusal :=
  .next ((s.begin t).overdue.lateArrives l e)

/-- A tardy lane at its next boundary (R196). -/
def State.tardyBoundary (s : State) (l : Lane) : State :=
  if s.alive && s.nextBoundary ≤ s.now then s.lateOut l else s

/-- TARDY_LANE_BOUNDARY. -/
def execTardyLaneBoundary (t : Time) (l : Lane) (s : State) : Host.Outcome State Fault Refusal :=
  .next ((s.begin t).overdue.tardyBoundary l)

/-- SKIP_LIMIT_EXCEEDED (R70). -/
def execSkipLimitExceeded (t : Time) (s : State) : Host.Outcome State Fault Refusal :=
  .next ((s.begin t).skipLimit)

/-- TARDY_WITHDRAWAL (R63). -/
def execTardyWithdrawal (t : Time) (l : Lane) (s : State) : Host.Outcome State Fault Refusal :=
  .next ((s.begin t).tardyOut l)

/-- INPUT_MINORITY_FAULT (R58). -/
def execInputMinorityFault (t : Time) (l : Lane) (s : State) : Host.Outcome State Fault Refusal :=
  .next ((s.begin t).minorityOut l)

/-- An entry whose promised time had passed when its cycle began has no effect (R71). -/
def State.expireEntry (s : State) (adm : W32) : State :=
  { s with net.entries := s.net.entries.map fun e =>
      if e.adm = adm then { e with done := e.done || e.limit.elim false fun t => decide (t < s.cyc.start) } else e }

/-- TIMED_PROMISE_EXPIRED. -/
def execTimedPromiseExpired (t : Time) (adm : W32) (s : State) : Host.Outcome State Fault Refusal :=
  .next ((s.begin t).expireEntry adm)

/-- HOLD_TIMEOUT (R77): 600 s. -/
def execHoldTimeout (t : Time) (s : State) : Host.Outcome State Fault Refusal :=
  .next ((s.begin t).holdExpired)

/-- SAFE_STATE_RELEASE (R244). -/
def execSafeStateRelease (t : Time) (s : State) : Host.Outcome State Fault Refusal :=
  .next ((s.begin t).overdue.safeRelease)

/-- SYNC_IN_EDGE (R72 to R75, R507). -/
def execSyncInEdge (t : Time) (width : Nat) (gap : Nat) (s : State) : Host.Outcome State Fault Refusal :=
  .next ((s.begin t).syncEdge width gap)

/-- SYNC_LOSS (R74). -/
def execSyncLoss (t : Time) (s : State) : Host.Outcome State Fault Refusal :=
  .next ((s.begin t).syncLoss)

/-- PTP_MESSAGE (R317, R318). -/
def execPtpMessage (t : Time) (m : PtpMsg) (s : State) : Host.Outcome State Fault Refusal :=
  .next ((s.begin t).ptpTraffic m)

/-- PTP_ANNOUNCE_TIMEOUT (R318). -/
def execPtpAnnounceTimeout (t : Time) (master : Nat) (s : State) : Host.Outcome State Fault Refusal :=
  .next ((s.begin t).announceLost master)

/-- PTP_REFERENCE_BOUNDARY (R72, R73). -/
def execPtpReferenceBoundary (t : Time) (s : State) : Host.Outcome State Fault Refusal :=
  .next ((s.begin t).ptpBoundary)

/-- TIMEBASE (R25): what each timebase counted over the second. -/
def execTimebase (t : Time) (a : Ticks) (b : Ticks) (c : Ticks) (s : State) : Host.Outcome State Fault Refusal :=
  .next ((s.begin t).timebases a b c)

/-- SUPERVISOR_BOUNDARY (R531). -/
def execSupervisorBoundary (t : Time) (s : State) : Host.Outcome State Fault Refusal :=
  .next ((s.begin t).supervisorBoundary)

end Sys2Proof.Machine
end

