-- ==== Sys2Proof/Machine/ExecFault.lean ====
section
/-! DEFINITION. Reports, block resets, Safelight, injection, the Negative, counters and proposals (R369 to R396, R416, R457, R470 to R473). -/

namespace Sys2Proof.Machine

/-- STOP_BATH_OCCURRENCE (R369 to R380). -/
def execStopBathOccurrence (t : Time) (source : Fin 512) (seen : BitVec 3) (code : W16) (s : State) : Host.Outcome State Fault Refusal :=
  .next ((s.begin t).occurrence source.val seen code)

/-- BLOCK_RESET_COMPLETE (R379, R381). -/
def execBlockResetComplete (t : Time) (b : Block) (s : State) : Host.Outcome State Fault Refusal :=
  .next ((s.begin t).resetComplete b)

/-- BLOCK_RESET_BOUND_EXPIRY (R31, R378). -/
def execBlockResetBoundExpiry (t : Time) (b : Block) (s : State) : Host.Outcome State Fault Refusal :=
  .next ((s.begin t).resetOverdue b)

/-- NETWORK_DIE_RESET_CHECK (R31, R32). -/
def execNetworkDieResetCheck (t : Time) (d : Die) (h : Hash) (s : State) : Host.Outcome State Fault Refusal :=
  .next ((s.begin t).dieChecked d h)

/-- SAFELIGHT_EXIT (R80, R384). -/
def execSafelightExit (t : Time) (s : State) : Host.Outcome State Fault Refusal :=
  .next ((s.begin t).leaveSafelight)

/-- SAFE_STATE_NOT_REACHED (R383). -/
def execSafeStateNotReached (t : Time) (l : Lane) (ch : Fin 96) (s : State) : Host.Outcome State Fault Refusal :=
  .next ((s.begin t).safeStateNotReached l ch.val)

/-- INJECTION_DISARM (R387). -/
def execInjectionDisarm (t : Time) (s : State) : Host.Outcome State Fault Refusal :=
  .next ((s.begin t).disarm)

/-- ENGINE_SELF_CHECK (R457). -/
def execEngineSelfCheck (t : Time) (l : Lane) (second : Bool) (wrong : BitVec 5) (s : State) : Host.Outcome State Fault Refusal :=
  .next ((s.begin t).selfCheck l second wrong)

/-- STATIC_REGION_SCAN_END (R462). -/
def execStaticRegionScanEnd (t : Time) (l : Lane) (logic : Bool) (value : W64) (s : State) : Host.Outcome State Fault Refusal :=
  .next ((s.begin t).scanEnd l logic value)

/-- NEGATIVE_RECORD_WRITE (R388 to R396). -/
def execNegativeRecordWrite (w : RecordWrite) (s : State) : Host.Outcome State Fault Refusal :=
  .next ((s.begin w.t).scribeWrites w.torn)

/-- CHAIN_HEAD_SIGN (R395, R419). -/
def execChainHeadSign (t : Time) (s : State) : Host.Outcome State Fault Refusal :=
  .next ((s.begin t).signDueHead)

/-- RECORD_NUMBERS_EXHAUSTED (R393). -/
def execRecordNumbersExhausted (t : Time) (s : State) : Host.Outcome State Fault Refusal :=
  .next ((s.begin t).numbersExhausted)

/-- COUNTER_SATURATION (R473). -/
def execCounterSaturation (t : Time) (l : Lane) (i : Fin 32) (s : State) : Host.Outcome State Fault Refusal :=
  .next ((s.begin t).saturate l i.val)

/-- DENSITOMETER_SAMPLE_TICK (R470, R472). -/
def execDensitometerSampleTick (t : Time) (l : Lane) (s : State) : Host.Outcome State Fault Refusal :=
  .next ((s.begin t).sampleTick l)

/-- PROPOSAL_EXPIRY (R279, R416). -/
def execProposalExpiry (t : Time) (s : State) : Host.Outcome State Fault Refusal :=
  .next ((s.begin t).expireProposal)

end Sys2Proof.Machine
end

