-- ==== Sys2Proof/Machine/ExecField.lean ====
section
/-! DEFINITION. Local field I/O (R322 to R344). -/

namespace Sys2Proof.Machine

/-- Frames cross between a lane and its board: the lane runs and its crossing is not in reset (R198, R379). -/
def State.crosses (s : State) (l : Lane) : Bool :=
  (s.lane l).phase.live && !(s.dies.resets.any fun x => x.1 = .crossing l)

/-- A frame period of a lane: what came in, then the frame that goes out (R337). -/
def State.period (s : State) (l : Lane) (f : State → State) : State :=
  if s.crosses l then
    let s := f s
    if s.crosses l then s.sendFrame l else s
  else s

/-- The field boards have their supply (R44). -/
def State.powered (s : State) : Bool := s.v.power.phase ≠ .off

/-- INBOUND_FIELD_FRAME (R334, R339, R340). -/
def execInboundFieldFrame (t : Time) (l : Lane) (f : InFrame) (s : State) : Host.Outcome State Fault Refusal :=
  .next ((s.begin t).period l fun s => s.inbound l f)

/-- STALE_FRAME (R324, R340). -/
def execStaleFrame (t : Time) (l : Lane) (s : State) : Host.Outcome State Fault Refusal :=
  .next ((s.begin t).period l fun s => s.staleFrame l)

/-- A field board that has its supply. -/
def State.onBoard (s : State) (l : Lane) (f : Board → Board) : State :=
  if s.powered then s.modLane l fun r => { r with board := f r.board } else s

/-- FIELD_BOARD_WATCHDOG (R44, R340). -/
def execFieldBoardWatchdog (t : Time) (l : Lane) (s : State) : Host.Outcome State Fault Refusal :=
  .next ((s.begin t).onBoard l fun b => boardWatchdog (max s.now t) b)

/-- OUTBOUND_FIELD_FRAME (R325, R338, R340). -/
def execOutboundFieldFrame (t : Time) (l : Lane) (f : OutFrame) (s : State) : Host.Outcome State Fault Refusal :=
  .next ((s.begin t).onBoard l fun b => outbound f (max s.now t) b)

/-- A raw sample has held throughout DEBOUNCE; a slice freezes the debounce of its group (R323, R452). -/
def State.debounceEnds (s : State) (l : Lane) (ch : Nat) : State :=
  if s.crosses l && !s.sliceMask.getLsbD ch then
    s.modLane l fun r => { r with board := debounce (s.image.debounceNs ch) ch s.now r.board }
  else s

/-- DEBOUNCE_EXPIRY (R322, R323). -/
def execDebounceExpiry (t : Time) (l : Lane) (ch : Fin 96) (s : State) : Host.Outcome State Fault Refusal :=
  .next ((s.begin t).debounceEnds l ch.val)

/-- The samples of a Dark Pulse by lane. -/
def samplesOf (a b c : PulseSamples) : Lane → PulseSamples
  | .a => a
  | .b => b
  | .c => c

/-- DARK_PULSE (R330 to R333). -/
def execDarkPulse (t : Time) (slot : Nat) (a : PulseSamples) (b : PulseSamples) (c : PulseSamples) (s : State) : Host.Outcome State Fault Refusal :=
  .next ((s.begin t).darkPulse slot (samplesOf a b c))

/-- GROUP_FEED_RECOVERY (R335). -/
def execGroupFeedRecovery (t : Time) (l : Lane) (g : Fin 12) (s : State) : Host.Outcome State Fault Refusal :=
  .next ((s.begin t).groupRecovery l g.val)

/-- CUTOFF_STUCK (R327). -/
def execCutoffStuck (t : Time) (l : Lane) (g : Fin 12) (s : State) : Host.Outcome State Fault Refusal :=
  .next ((s.begin t).cutoffStuck l g.val)

/-- PAIRED_NO_DARK (R344). -/
def execPairedNoDark (t : Time) (l : Lane) (ch : Fin 96) (s : State) : Host.Outcome State Fault Refusal :=
  .next ((s.begin t).pairedNoDark l ch.val)

end Sys2Proof.Machine
end

