-- ==== Sys2Proof/Machine/ExecLane.lean ====
section
/-! DEFINITION. Inside a lane, between the lanes, and a lane coming back (R17 to R27, R179 to R206). -/

namespace Sys2Proof.Machine

/-- PACE_SAMPLE (R22, R23). -/
def execPaceSample (t : Time) (l : Lane) (count : Nat) (s : State) : Host.Outcome State Fault Refusal :=
  .next ((s.begin t).paceSample l count)

/-- CORE_SUPPLY_LOW (R21). -/
def execCoreSupplyLow (t : Time) (l : Lane) (ns : Nat) (s : State) : Host.Outcome State Fault Refusal :=
  .next ((s.begin t).coreSupply l ns)

/-- CORE_PAIR_MISMATCH (R181 to R183). -/
def execCorePairMismatch (t : Time) (l : Lane) (item : LoupeItem) (v1 : Verdict) (v2 : Verdict) (s : State) : Host.Outcome State Fault Refusal :=
  .next ((s.begin t).corePair l item v1 v2)

/-- LOUPE_PROBE (R184). -/
def execLoupeProbe (t : Time) (l : Lane) (v1 : Verdict) (v2 : Verdict) (neighbour : Bool) (s : State) : Host.Outcome State Fault Refusal :=
  .next ((s.begin t).loupeProbe l v1 v2 neighbour)

/-- LATENT_BUFFER_FAULT (R179, R180). -/
def execLatentBufferFault (t : Time) (l : Lane) (e : LatentEntry) (consumedBy : W32) (s : State) : Host.Outcome State Fault Refusal :=
  .next ((s.begin t).consumeLatent l e consumedBy)

/-- SRAM_READ_ERROR (R17). -/
def execSramReadError (t : Time) (l : Lane) (w : SramWord) (s : State) : Host.Outcome State Fault Refusal :=
  .next ((s.begin t).sramRead l w.addr w.word w.check)

/-- CACHE_PARITY_ERROR (R19): the line is refilled, whichever cache it lies in. -/
def execCacheParityError (t : Time) (l : Lane) (cache : CacheId) (line : Nat) (s : State) : Host.Outcome State Fault Refusal :=
  .next ((s.begin t).refill l cache.shadow cache.data line)

/-- CROSS_LANE_WORD_REJECTED (R26, R27). -/
def execCrossLaneWordRejected (t : Time) (ch : Chan) (w : LaneWord) (s : State) : Host.Outcome State Fault Refusal :=
  .next ((s.begin t).wordRejected ch w.word w.repeated)

/-- CHANNEL_FAULTED (R27). -/
def execChannelFaulted (t : Time) (ch : Chan) (s : State) : Host.Outcome State Fault Refusal :=
  .next ((s.begin t).faultChannel ch)

/-- HASH (R34, R187). -/
def execHash (t : Time) (l : Lane) (sender : Lane) (h : Hash) (s : State) : Host.Outcome State Fault Refusal :=
  .next ((s.begin t).takeHash l sender h)

/-- RESYNC_BULK (R204). -/
def execResyncBulk (t : Time) (l : Lane) (sender : Lane) (part : WordRange) (s : State) : Host.Outcome State Fault Refusal :=
  .next ((s.begin t).resyncBulk l sender part.first part.words)

/-- RESYNC_DELTA (R204). -/
def execResyncDelta (t : Time) (l : Lane) (sender : Lane) (d : CycleWords) (s : State) : Host.Outcome State Fault Refusal :=
  .next ((s.begin t).resyncDelta l sender d.cycle d.words)

/-- RESYNC_COMPLETE (R199, R204). -/
def execResyncComplete (t : Time) (l : Lane) (s : State) : Host.Outcome State Fault Refusal :=
  .next ((s.begin t).resyncDone l)

/-- LANE_RELEASED_FROM_RESET (R37, R199, R203). -/
def execLaneReleasedFromReset (t : Time) (l : Lane) (s : State) : Host.Outcome State Fault Refusal :=
  .next ((s.begin t).releaseLane l)

/-- LANE_LOAD_COMPLETE (R199, R371, R469). -/
def execLaneLoadComplete (t : Time) (l : Lane) (ok : Bool) (s : State) : Host.Outcome State Fault Refusal :=
  .next ((s.begin t).laneLoaded l ok)

/-- LANE_JOIN_CHECK (R34, R167, R199, R478). -/
def execLaneJoinCheck (t : Time) (l : Lane) (fw : Hash) (logic : Hash) (refsAgree : Bool) (stores : BitVec 2) (s : State) : Host.Outcome State Fault Refusal :=
  .next ((s.begin t).joinCheck l fw logic refsAgree stores)

/-- LANE_RESTART_TIMER (R199, R203). -/
def execLaneRestartTimer (t : Time) (l : Lane) (s : State) : Host.Outcome State Fault Refusal :=
  .next ((s.begin t).restartTimer l)

/-- JOIN_TIMEOUT (R478). -/
def execJoinTimeout (t : Time) (s : State) : Host.Outcome State Fault Refusal :=
  .next ((s.begin t).joinTimeout)

end Sys2Proof.Machine
end

