-- ==== Sys2Proof/Machine/ExecLinks.lean ====
section
/-! DEFINITION. Sessions, field links and stray datagrams (R219 to R225, R243, R291 to R314). -/

namespace Sys2Proof.Machine

/-- OPEN_1, part by part (R219, R265). -/
def execOpen1 (t : Time) (p : Pkt) (s : State) : Host.Outcome State Fault Refusal :=
  .next ((s.begin t).receiveOpen1 p)

/-- OPEN_3, part by part (R219, R265). -/
def execOpen3 (t : Time) (p : Pkt) (s : State) : Host.Outcome State Fault Refusal :=
  .next ((s.begin t).receiveOpen3 p)

/-- SESSION_CLOSE (R225, R266). -/
def execSessionClose (t : Time) (p : Pkt) (s : State) : Host.Outcome State Fault Refusal :=
  .next ((s.begin t).receive 0x0402 p)

/-- SESSION_KEEPALIVE (R224, R266). -/
def execSessionKeepalive (t : Time) (p : Pkt) (s : State) : Host.Outcome State Fault Refusal :=
  .next ((s.begin t).receive 0x0403 p)

/-- OPENING_ABANDONED: 2,000 ms without an end (R222). -/
def execOpeningAbandoned (t : Time) (sid : Nat) (s : State) : Host.Outcome State Fault Refusal :=
  .next ((s.begin t).abandonOpening sid)

/-- SESSION_ALIVE_EXPIRY: no new alive value for K_s supervision periods (R224). -/
def execSessionAliveExpiry (t : Time) (sid : Nat) (s : State) : Host.Outcome State Fault Refusal :=
  .next ((s.begin t).aliveExpiry sid)

/-- A lost partner's session closes (R308). -/
def State.closeField (s : State) (sid : Nat) : State :=
  match s.session? sid with
  | some x => if s.fieldCloseDue x then s.modSession sid Session.close else s
  | none => s

/-- FIELD_SESSION_CLOSE_TIMEOUT (R308). -/
def execFieldSessionCloseTimeout (t : Time) (sid : Nat) (s : State) : Host.Outcome State Fault Refusal :=
  .next ((s.begin t).closeField sid)

/-- EVENT: admitted as a cut command (R226, R309). -/
def execEvent (t : Time) (m : FieldMsg) (s : State) : Host.Outcome State Fault Refusal :=
  .next ((s.begin t).receiveEvent m)

/-- A telegram that the network die refuses counts as invalid (R294, R304, R471). -/
def State.telegramArrives (s : State) (m : FieldMsg) : State :=
  let old := (s.session? m.sid).elim 0 fun x => x.refused
  let s := s.receiveTelegram m
  match s.session? m.sid with
  | some x => if x.refused = old then s else s.tallyPartner 24 x
  | none => s

/-- PARTNER_TELEGRAM: checked and stored for the freeze (R294, R296, R304). -/
def execPartnerTelegram (t : Time) (m : FieldMsg) (s : State) : Host.Outcome State Fault Refusal :=
  .next ((s.begin t).telegramArrives m)

/-- HELLO, part by part (R297, R298, R300, R301). -/
def execHello (t : Time) (link : Fin 48) (m : FieldMsg) (s : State) : Host.Outcome State Fault Refusal :=
  .next ((s.begin t).receiveHello link m)

/-- FIELD_LINK_UP (R288, R297). -/
def execFieldLinkUp (t : Time) (link : Fin 48) (s : State) : Host.Outcome State Fault Refusal :=
  .next ((s.begin t).linkUp link)

/-- FIELD_LINK_DOWN (R301, R308, R311). -/
def execFieldLinkDown (t : Time) (link : Fin 48) (s : State) : Host.Outcome State Fault Refusal :=
  .next ((s.begin t).linkDown link)

/-- CHALLENGE_REPEAT: 200 ms without a HELLO (R297). -/
def execChallengeRepeat (t : Time) (link : Fin 48) (s : State) : Host.Outcome State Fault Refusal :=
  .next ((s.begin t).challengeAgain link)

/-- QUARANTINE_END: 60 s have passed (R301). -/
def execQuarantineEnd (t : Time) (link : Fin 48) (s : State) : Host.Outcome State Fault Refusal :=
  .next ((s.begin t).endQuarantine link)

/-- MISSED has reached K for a partner (R307, R313). -/
def State.partnerGone (s : State) (sid : Nat) : State :=
  match s.session? sid with
  | some x => if s.lossDue x then s.declareLost x none else s
  | none => s

/-- PARTNER_LOST (R307, R312 to R314). -/
def execPartnerLost (t : Time) (sid : Nat) (s : State) : Host.Outcome State Fault Refusal :=
  .next ((s.begin t).partnerGone sid)

/-- A packet of an opcode that is none of R247 (R231, R243): checks 1 to 5 as for any other, then BAD_FORMAT. -/
def State.unknownOpcode (s : State) (op : W16) (p : Pkt) : State :=
  if !p.versionOk || !p.headerOk op.toNat then s.discard p.port
  else match s.session? p.sid with
    | some x =>
      if x.takes p then
        match s.passChecks x p op.toNat with
        | .inl s => s
        | .inr s => s.refuseIn x op p.seq 0x30 noDetail
      else s.badSession p op.toNat
    | none => s.badSession p op.toNat

/-- A datagram that no session command is made of (R231, R243, R291): a bad opcode is refused, the rest is discarded
and counted. -/
def State.strayDatagram (s : State) (port : Port) (why : BadDatagram) : State :=
  if !s.portUsable port then s.lose port
  else match why with
    | .opcode op p => if (opRow op.toNat s.ps.lease).isSome || op = 0x0401 then s else s.unknownOpcode op { p with port := port }
    | _ => s.discard port

/-- UNRECOGNISED_DATAGRAM. -/
def execUnrecognisedDatagram (t : Time) (port : Port) (why : BadDatagram) (s : State) : Host.Outcome State Fault Refusal :=
  .next ((s.begin t).strayDatagram port why)

end Sys2Proof.Machine
end

