-- ==== Sys2Proof/Machine/ExecModule.lean ====
section
/-! DEFINITION. Module, diagnostic and pair commands of Nernel packets (R267 to R275, R283 to R285). -/

namespace Sys2Proof.Machine

/-- MODE_SET RUN (R77, R267): byte 0 is the mode. -/
def execModeSetRun (t : Time) (p : Pkt) (s : State) : Host.Outcome State Fault Refusal :=
  .next ((s.begin t).receive 0x0501 (p.withByte 0 1))

/-- MODE_SET STOP (R77, R267). -/
def execModeSetStop (t : Time) (p : Pkt) (s : State) : Host.Outcome State Fault Refusal :=
  .next ((s.begin t).receive 0x0501 (p.withByte 0 0))

/-- MODE_SET HOLD (R77, R267). -/
def execModeSetHold (t : Time) (p : Pkt) (s : State) : Host.Outcome State Fault Refusal :=
  .next ((s.begin t).receive 0x0501 (p.withByte 0 2))

/-- CYCLE_SET (R52 to R54, R268). -/
def execCycleSet (t : Time) (p : Pkt) (s : State) : Host.Outcome State Fault Refusal :=
  .next ((s.begin t).receive 0x0502 p)

/-- HOLD_STEP (R78, R269). -/
def execHoldStep (t : Time) (p : Pkt) (s : State) : Host.Outcome State Fault Refusal :=
  .next ((s.begin t).receive 0x0503 p)

/-- TEST_STRIP_RUN (R270, R446 to R449). -/
def execTestStripRun (t : Time) (p : Pkt) (s : State) : Host.Outcome State Fault Refusal :=
  .next ((s.begin t).receive 0x0601 p)

/-- NEGATIVE_READ of records (R271): byte 0 is the mode. -/
def execNegativeReadRecords (t : Time) (p : Pkt) (s : State) : Host.Outcome State Fault Refusal :=
  .next ((s.begin t).receive 0x0610 (p.withByte 0 0))

/-- NEGATIVE_READ of a chain head block (R271). -/
def execNegativeReadChainHead (t : Time) (p : Pkt) (s : State) : Host.Outcome State Fault Refusal :=
  .next ((s.begin t).receive 0x0610 (p.withByte 0 1))

/-- COUNTER_READ (R272, R475). -/
def execCounterRead (t : Time) (p : Pkt) (s : State) : Host.Outcome State Fault Refusal :=
  .next ((s.begin t).receive 0x0620 p)

/-- COUNTER_SET (R273, R474). -/
def execCounterSet (t : Time) (p : Pkt) (s : State) : Host.Outcome State Fault Refusal :=
  .next ((s.begin t).receive 0x0621 p)

/-- FAULT_CLEAR without the release flag (R274, R386): byte 2, bit 0. -/
def execFaultClear (t : Time) (p : Pkt) (s : State) : Host.Outcome State Fault Refusal :=
  .next ((s.begin t).receive 0x0630 (p.withBit0 2 false))

/-- FAULT_CLEAR with the release flag (R274, R385). -/
def execLockoutRelease (t : Time) (p : Pkt) (s : State) : Host.Outcome State Fault Refusal :=
  .next ((s.begin t).receive 0x0630 (p.withBit0 2 true))

/-- FAULT_INJECT (R275, R387). -/
def execFaultInject (t : Time) (p : Pkt) (s : State) : Host.Outcome State Fault Refusal :=
  .next ((s.begin t).receive 0x0640 p)

/-- LAMP_STATUS (R283). -/
def execLampStatus (t : Time) (p : Pkt) (s : State) : Host.Outcome State Fault Refusal :=
  .next ((s.begin t).receive 0x0901 p)

/-- LAMP_RELEASE (R284, R361). -/
def execLampRelease (t : Time) (p : Pkt) (s : State) : Host.Outcome State Fault Refusal :=
  .next ((s.begin t).receive 0x0902 p)

/-- PAIR_SET (R285). -/
def execPairSet (t : Time) (p : Pkt) (s : State) : Host.Outcome State Fault Refusal :=
  .next ((s.begin t).receive 0x0903 p)

end Sys2Proof.Machine
end

