-- ==== Sys2Proof/Machine/ExecPair.lean ====
section
/-! DEFINITION. The pair (R345 to R368). -/

namespace Sys2Proof.Machine

/-- DELTA (R351 to R353, R530). -/
def execDelta (t : Time) (h : MirrorHdr) (b : DeltaBody) (s : State) : Host.Outcome State Fault Refusal :=
  .next ((s.begin t).takeDelta h b)

/-- RENEW (R350, R352, R361). -/
def execRenew (t : Time) (h : MirrorHdr) (base : W48) (handover : Bool) (s : State) : Host.Outcome State Fault Refusal :=
  .next ((s.begin t).takeRenew h base handover)

/-- ACK (R350, R354). -/
def execAck (t : Time) (h : MirrorHdr) (b : AckBody) (s : State) : Host.Outcome State Fault Refusal :=
  .next ((s.begin t).takeAck h b)

/-- RELEASE (R350, R355, R358). -/
def execRelease (t : Time) (h : MirrorHdr) (lastFix : W48) (reason : Byte) (s : State) : Host.Outcome State Fault Refusal :=
  .next ((s.begin t).takeRelease h lastFix reason)

/-- BULK (R364, R365). -/
def execBulk (t : Time) (h : MirrorHdr) (b : BulkBody) (s : State) : Host.Outcome State Fault Refusal :=
  .next ((s.begin t).takeBulk h b)

/-- BULK_TIMEOUT (R364). -/
def execBulkTimeout (t : Time) (s : State) : Host.Outcome State Fault Refusal :=
  .next ((s.begin t).bulkTimeout)

/-- ANNOUNCE (R350, R364, R366). -/
def execAnnounce (t : Time) (h : MirrorHdr) (b : AnnounceBody) (s : State) : Host.Outcome State Fault Refusal :=
  .next ((s.begin t).takeAnnounce h b)

/-- The vote instant, or the release of STOP or HOLD, finds the lease lapsed (R354, R357). -/
def State.leaseEnds (s : State) : State :=
  match s.cyc.phase with
  | .rendezvous => if s.leaseLapsed then s.lapsedCycle else s
  | .waitThird => if s.leaseLapsed then s.lapsedCycle else s
  | .release => s.lapse
  | .halted => s.lapse
  | _ => s

/-- LEASE_LAPSE. -/
def execLeaseLapse (t : Time) (s : State) : Host.Outcome State Fault Refusal :=
  .next ((s.begin t).overdue.leaseEnds)

/-- GUARD_CYCLE_START (R355, R356, R361). -/
def execGuardCycleStart (t : Time) (s : State) : Host.Outcome State Fault Refusal :=
  .next ((s.begin t).guardStart)

/-- TAKE_LAMP (R355, R359, R360). -/
def execTakeLamp (t : Time) (s : State) : Host.Outcome State Fault Refusal :=
  .next ((s.begin t).takeLamp)

/-- SETTLE_PERIOD_END (R360). -/
def execSettlePeriodEnd (t : Time) (s : State) : Host.Outcome State Fault Refusal :=
  .next ((s.begin t).endSettle)

/-- START_SETTLE_PERIOD_END (R480). -/
def execStartSettlePeriodEnd (t : Time) (s : State) : Host.Outcome State Fault Refusal :=
  .next ((s.begin t).endSettle)

/-- ESSENTIAL_SUPPLY_LOST (R336, R357). -/
def execEssentialSupplyLost (t : Time) (g : Fin 12) (s : State) : Host.Outcome State Fault Refusal :=
  .next ((s.begin t).essentialDue g.val)

/-- PAIR_PRESENCE_CHANGE (R345, R438, R500). -/
def execPairPresenceChange (t : Time) (asserted : Bool) (s : State) : Host.Outcome State Fault Refusal :=
  .next ((s.begin t).presence asserted)

/-- PAIR_LISTEN_END (R366). -/
def execPairListenEnd (t : Time) (s : State) : Host.Outcome State Fault Refusal :=
  .next ((s.begin t).endListening)

/-- RUN_POINT (R77, R483). -/
def execRunPoint (t : Time) (s : State) : Host.Outcome State Fault Refusal :=
  .next ((s.begin t).runPoint)

end Sys2Proof.Machine
end

