-- ==== Sys2Proof/Machine/ExecPower.lean ====
section
/-! DEFINITION. Supplies, start and ports (R476 to R489, R504). -/

namespace Sys2Proof.Machine

/-- POWER_ON (R37, R476, R499). -/
def execPowerOn (t : Time) (f : Feed) (straps : BitVec 2) (strapFault : Bool) (charge : Nat) (s : State) : Host.Outcome State Fault Refusal :=
  .next ((s.begin t).powerOn f straps strapFault charge)

/-- HOLD_UP_READY (R37, R477). -/
def execHoldUpReady (t : Time) (charge : Nat) (s : State) : Host.Outcome State Fault Refusal :=
  .next ((s.begin t).holdUpReady charge)

/-- K_BOOT_COMPLETE (R33, R427, R439). -/
def execKBootComplete (t : Time) (good : CopiesGood) (s : State) : Host.Outcome State Fault Refusal :=
  .next ((s.begin t).kBooted good.boot good.sealConfig)

/-- FIRST_BOUNDARY (R368, R385, R478 to R480). -/
def execFirstBoundary (t : Time) (s : State) : Host.Outcome State Fault Refusal :=
  .next ((s.begin t).firstBoundary)

/-- FEED_LOSS (R485). -/
def execFeedLoss (t : Time) (f : Feed) (s : State) : Host.Outcome State Fault Refusal :=
  .next ((s.begin t).feedLost f)

/-- BOTH_FEEDS_LOST (R486, R489). -/
def execBothFeedsLost (t : Time) (charge : Nat) (s : State) : Host.Outcome State Fault Refusal :=
  .next ((s.begin t).bothLost charge)

/-- FEED_RETURN (R486). -/
def execFeedReturn (t : Time) (f : Feed) (s : State) : Host.Outcome State Fault Refusal :=
  .next ((s.begin t).feedBack f)

/-- RIDE_THROUGH_END (R486, R487). -/
def execRideThroughEnd (t : Time) (charge : Nat) (s : State) : Host.Outcome State Fault Refusal :=
  .next ((s.begin t).rideEnd charge)

/-- RESTART_AFTER_POWER_FAIL (R488). -/
def execRestartAfterPowerFail (t : Time) (f : Feed) (straps : BitVec 2) (strapFault : Bool) (charge : Nat) (s : State) : Host.Outcome State Fault Refusal :=
  .next ((s.begin t).restartAfterFail f straps strapFault charge)

/-- SFP_INSERTED (R504). -/
def execSfpInserted (t : Time) (p : Port) (accepted : Bool) (s : State) : Host.Outcome State Fault Refusal :=
  .next ((s.begin t).sfp p accepted)

/-- HOST_LINK_CHANGE (R290, R504). -/
def execHostLinkChange (t : Time) (p : Port) (up : Bool) (s : State) : Host.Outcome State Fault Refusal :=
  .next ((s.begin t).hostLink p up)

/-- LOW_SUPPLY_CHANGE (R262, R485). -/
def execLowSupplyChange (t : Time) (charge : Nat) (feedLow : Bool) (s : State) : Host.Outcome State Fault Refusal :=
  .next ((s.begin t).lowSupplyChange charge feedLow)

end Sys2Proof.Machine
end

