-- ==== Sys2Proof/Machine/ExecRoute.lean ====
section
/-! DEFINITION. Route, element and query commands of Nernel packets (R247, R249 to R264). -/

namespace Sys2Proof.Machine

/-- SET_ROUTE (R250): admission (R231, R234); it acts in the locking pass (R128). -/
def execSetRoute (t : Time) (p : Pkt) (s : State) : Host.Outcome State Fault Refusal :=
  .next ((s.begin t).receive 0x0101 p)

/-- CANCEL_ROUTE (R251): admission; it acts in the locking pass. -/
def execCancelRoute (t : Time) (p : Pkt) (s : State) : Host.Outcome State Fault Refusal :=
  .next ((s.begin t).receive 0x0102 p)

/-- EMERGENCY_RELEASE_STEP_1 (R252, R141): byte 2 is the step. -/
def execEmergencyReleaseStep1 (t : Time) (p : Pkt) (s : State) : Host.Outcome State Fault Refusal :=
  .next ((s.begin t).receive 0x0103 (p.withByte 2 1))

/-- EMERGENCY_RELEASE_STEP_2 (R252, R142). -/
def execEmergencyReleaseStep2 (t : Time) (p : Pkt) (s : State) : Host.Outcome State Fault Refusal :=
  .next ((s.begin t).receive 0x0103 (p.withByte 2 2))

/-- POINT_MOVE (R254): admission; it acts in the object step (R90). -/
def execPointMove (t : Time) (p : Pkt) (s : State) : Host.Outcome State Fault Refusal :=
  .next ((s.begin t).receive 0x0201 p)

/-- POINT_BLOCK (R255). -/
def execPointBlock (t : Time) (p : Pkt) (s : State) : Host.Outcome State Fault Refusal :=
  .next ((s.begin t).receive 0x0202 p)

/-- SIGNAL_BLOCK (R255). -/
def execSignalBlock (t : Time) (p : Pkt) (s : State) : Host.Outcome State Fault Refusal :=
  .next ((s.begin t).receive 0x0211 p)

/-- SECTION_RESET (R256, R102). -/
def execSectionReset (t : Time) (p : Pkt) (s : State) : Host.Outcome State Fault Refusal :=
  .next ((s.begin t).receive 0x0221 p)

/-- BLOCK_RESTORE (R257, R111). -/
def execBlockRestore (t : Time) (p : Pkt) (s : State) : Host.Outcome State Fault Refusal :=
  .next ((s.begin t).receive 0x0231 p)

/-- ZONE_GRANT (R258, R113). -/
def execZoneGrant (t : Time) (p : Pkt) (s : State) : Host.Outcome State Fault Refusal :=
  .next ((s.begin t).receive 0x0241 p)

/-- QUERY_STATE (R259 to R262): admission; it acts in the Slack (R236). -/
def execQueryState (t : Time) (p : Pkt) (s : State) : Host.Outcome State Fault Refusal :=
  .next ((s.begin t).receive 0x0301 p)

/-- SUBSCRIBE (R263). -/
def execSubscribe (t : Time) (p : Pkt) (s : State) : Host.Outcome State Fault Refusal :=
  .next ((s.begin t).receive 0x0302 p)

/-- UNSUBSCRIBE (R264). -/
def execUnsubscribe (t : Time) (p : Pkt) (s : State) : Host.Outcome State Fault Refusal :=
  .next ((s.begin t).receive 0x0303 p)

end Sys2Proof.Machine
end

