-- ==== Sys2Proof/Machine/ExecTimers.lean ====
section
/-! DEFINITION. Timers of objects, routes and equations, which expire at a Develop (R85, R95, R99, R101, R105, R109, R130, R138, R142, R158). -/

namespace Sys2Proof.Machine

/-- An expiry that falls in the Develop of the cycle in hand (R49, R59): from it on the Develop holds what the expiry
brings about, with everything else it computes from the same consensus image; the Fix commits it (R50). -/
def State.expire (s : State) (due : Ticks → Bool) : State :=
  if s.cyc.phase = .develop && s.cyc.dev.isNone && s.holdsLamp && due s.cyc.cons.time then
    { s with cyc.dev := some s.developResult }
  else s

/-- An object with its declaration. -/
def State.declared (s : State) (oid : Nat) : Option (Obj × ObjDecl) :=
  match s.rail.obj? oid, s.image.decl? oid with
  | some o, some d => some (o, d)
  | _, _ => none

/-- A route's state with its declaration. -/
def State.routed (s : State) (rid : BitVec 12) : Option (RouteSt × RouteDecl) :=
  match s.rail.route? s.image rid, s.image.route? rid with
  | some x, some d => some (x, d)
  | _, _ => none

/-- A timer that ends at an instant has run out. -/
def ranOut (fin : Option Ticks) (now : Ticks) : Bool := fin.elim false fun t => decide (t ≤ now)

/-- T_loss has passed without fresh data (R85). -/
def State.tLossDue (s : State) (oid : Nat) (now : Ticks) : Bool :=
  match s.declared oid with
  | some (o, d) => !o.lost && tk d.tLoss ≤ now - o.lastFresh
  | none => false

/-- T_LOSS_EXPIRY (R85). -/
def execTLossExpiry (t : Time) (oid : Nat) (s : State) : Host.Outcome State Fault Refusal :=
  .next ((s.begin t).expire ((s.begin t).tLossDue oid))

/-- MOVE_ELAPSED has reached the move time limit (R95). -/
def State.moveDue (s : State) (oid : Nat) (now : Ticks) : Bool :=
  match s.declared oid with
  | some ({ body := .point p, .. }, { params := .point limit _ _, .. }) => p.moving && limit ≤ (now - p.start) / 10000
  | _ => false

/-- POINT_MOVE_TIMEOUT (R95). -/
def execPointMoveTimeout (t : Time) (oid : Nat) (s : State) : Host.Outcome State Fault Refusal :=
  .next ((s.begin t).expire ((s.begin t).moveDue oid))

/-- The commanded aspect has not been proven within the proving time (R99). -/
def State.provingDue (s : State) (oid : Nat) (now : Ticks) : Bool :=
  match s.declared oid with
  | some ({ body := .signal x, .. }, { params := .signal proving _, .. }) =>
    longerThan proving now (if x.cmd = 0 then x.unprovenSince else x.differSince)
  | _ => false

/-- SIGNAL_PROVING_TIMEOUT (R99). -/
def execSignalProvingTimeout (t : Time) (oid : Nat) (s : State) : Host.Outcome State Fault Refusal :=
  .next ((s.begin t).expire ((s.begin t).provingDue oid))

/-- The source has reported clear for the clear delay (R101). -/
def State.clearDue (s : State) (oid : Nat) (now : Ticks) : Bool :=
  match s.declared oid with
  | some ({ body := .stretch x, .. }, { params := .stretch delay _ _, .. }) =>
    x.clearSince.elim false fun c => decide (tk delay ≤ now - c)
  | _ => false

/-- SECTION_CLEAR_DELAY (R101). -/
def execSectionClearDelay (t : Time) (oid : Nat) (s : State) : Host.Outcome State Fault Refusal :=
  .next ((s.begin t).expire ((s.begin t).clearDue oid))

/-- A warning, closing or raise timer has run out (R109). -/
def State.crossingDue (s : State) (oid : Nat) (now : Ticks) : Bool :=
  match s.rail.obj? oid with
  | some { body := .crossing c, .. } => ranOut c.timerEnd now
  | _ => false

/-- CROSSING_TIMER_EXPIRY (R109). -/
def execCrossingTimerExpiry (t : Time) (oid : Nat) (s : State) : Host.Outcome State Fault Refusal :=
  .next ((s.begin t).expire ((s.begin t).crossingDue oid))

/-- The overlap release timer has run out (R105). -/
def State.overlapDue (s : State) (oid : Nat) (now : Ticks) : Bool :=
  match s.rail.obj? oid with
  | some { body := .overlap o, .. } => o.state = .releasing && ranOut o.timerEnd now
  | _ => false

/-- OVERLAP_RELEASE_TIMER (R105). -/
def execOverlapReleaseTimer (t : Time) (oid : Nat) (s : State) : Host.Outcome State Fault Refusal :=
  .next ((s.begin t).expire ((s.begin t).overlapDue oid))

/-- ROUTE_TIMER of an approach-locked route has reached 0 (R135, R138). -/
def State.approachDue (s : State) (rid : BitVec 12) (now : Ticks) : Bool :=
  match s.routed rid with
  | some (x, _) => x.state = .approachLocked && ranOut x.timerEnd now
  | none => false

/-- APPROACH_RELEASE_TIMER (R135, R138). -/
def execApproachReleaseTimer (t : Time) (rid : BitVec 12) (s : State) : Host.Outcome State Fault Refusal :=
  .next ((s.begin t).expire ((s.begin t).approachDue rid))

/-- The emergency release timer has reached 0 (R142). -/
def State.emergencyDue (s : State) (rid : BitVec 12) (now : Ticks) : Bool :=
  match s.routed rid with
  | some (x, _) => x.armed && ranOut x.timerEnd now
  | none => false

/-- EMERGENCY_TIMER_EXPIRY (R142). -/
def execEmergencyTimerExpiry (t : Time) (rid : BitVec 12) (s : State) : Host.Outcome State Fault Refusal :=
  .next ((s.begin t).expire ((s.begin t).emergencyDue rid))

/-- The confirmation window has ended (R142). -/
def State.confirmDue (s : State) (rid : BitVec 12) (now : Ticks) : Bool :=
  match s.routed rid with
  | some (x, d) => x.armed && ranOut (x.timerEnd.map fun t => t + tk d.confirmMs) now
  | none => false

/-- CONFIRMATION_WINDOW_END (R142). -/
def execConfirmationWindowEnd (t : Time) (rid : BitVec 12) (s : State) : Host.Outcome State Fault Refusal :=
  .next ((s.begin t).expire ((s.begin t).confirmDue rid))

/-- The wait limit of a waiting request has passed (R130). -/
def State.waitDue (s : State) (rid : BitVec 12) (now : Ticks) : Bool :=
  s.rail.waiting.any fun w => w.rid = rid && w.since + tk w.limitMs ≤ now

/-- WAIT_LIMIT_EXPIRY (R130). -/
def execWaitLimitExpiry (t : Time) (rid : BitVec 12) (s : State) : Host.Outcome State Fault Refusal :=
  .next ((s.begin t).expire ((s.begin t).waitDue rid))

/-- An equation timer has reached its expiry (R158, R160). -/
def State.timerDue (s : State) (k : Nat) (now : Ticks) : Bool :=
  match s.rail.timers[k]? with
  | some x => x.phase = .running && x.expiry ≤ now
  | none => false

/-- FOLQUEL_TIMER_EXPIRY (R158, R160). -/
def execFolquelTimerExpiry (t : Time) (k : Nat) (s : State) : Host.Outcome State Fault Refusal :=
  .next ((s.begin t).expire ((s.begin t).timerDue k))

end Sys2Proof.Machine
end

