-- ==== Sys2Proof/Machine/ExecTrust.lean ====
section
/-! DEFINITION. Update, seal, lifecycle and logic commands of Nernel packets (R276 to R282, R286, R287). -/

namespace Sys2Proof.Machine

/-- UPDATE_OFFER (R276, R428, R429). -/
def execUpdateOffer (t : Time) (p : Pkt) (s : State) : Host.Outcome State Fault Refusal :=
  .next ((s.begin t).receive 0x0701 p)

/-- UPDATE_SCHEDULE (R277, R434): CANCEL is bit 0 of byte 40. -/
def execUpdateSchedule (t : Time) (p : Pkt) (s : State) : Host.Outcome State Fault Refusal :=
  .next ((s.begin t).receive 0x0704 (p.withBit0 40 false))

/-- UPDATE_SCHEDULE with CANCEL (R277). -/
def execUpdateScheduleCancel (t : Time) (p : Pkt) (s : State) : Host.Outcome State Fault Refusal :=
  .next ((s.begin t).receive 0x0704 (p.withBit0 40 true))

/-- UPDATE_CONFIRM (R278, R440). -/
def execUpdateConfirm (t : Time) (p : Pkt) (s : State) : Host.Outcome State Fault Refusal :=
  .next ((s.begin t).receive 0x0708 p)

/-- SEAL_PROPOSE, phase NONCE (R280): byte 0 is the phase. -/
def execSealProposeNonce (t : Time) (p : Pkt) (s : State) : Host.Outcome State Fault Refusal :=
  .next ((s.begin t).receive 0x0801 (p.withByte 0 1))

/-- SEAL_PROPOSE, phase PART (R279, R280). -/
def execSealProposePart (t : Time) (p : Pkt) (s : State) : Host.Outcome State Fault Refusal :=
  .next ((s.begin t).receive 0x0801 (p.withByte 0 2))

/-- SEAL_PROPOSE, phase WITHDRAW (R280). -/
def execSealProposeWithdraw (t : Time) (p : Pkt) (s : State) : Host.Outcome State Fault Refusal :=
  .next ((s.begin t).receive 0x0801 (p.withByte 0 3))

/-- SEAL_APPROVE (R281, R415). -/
def execSealApprove (t : Time) (p : Pkt) (s : State) : Host.Outcome State Fault Refusal :=
  .next ((s.begin t).receive 0x0802 p)

/-- LIFECYCLE_SET, phase NONCE (R282). -/
def execLifecycleSetNonce (t : Time) (p : Pkt) (s : State) : Host.Outcome State Fault Refusal :=
  .next ((s.begin t).receive 0x0810 (p.withByte 0 1))

/-- LIFECYCLE_SET, phase PART (R282, R401). -/
def execLifecycleSetPart (t : Time) (p : Pkt) (s : State) : Host.Outcome State Fault Refusal :=
  .next ((s.begin t).receive 0x0810 (p.withByte 0 2))

/-- LIFECYCLE_SET, phase WITHDRAW (R282). -/
def execLifecycleSetWithdraw (t : Time) (p : Pkt) (s : State) : Host.Outcome State Fault Refusal :=
  .next ((s.begin t).receive 0x0810 (p.withByte 0 3))

/-- LOGIC_LOAD (R166, R286). -/
def execLogicLoad (t : Time) (p : Pkt) (s : State) : Host.Outcome State Fault Refusal :=
  .next ((s.begin t).receive 0x0A01 p)

/-- LOGIC_SWITCH (R168, R169, R287). -/
def execLogicSwitch (t : Time) (p : Pkt) (s : State) : Host.Outcome State Fault Refusal :=
  .next ((s.begin t).receive 0x0A02 p)

end Sys2Proof.Machine
end

