-- ==== Sys2Proof/Machine/ExecUpdate.lean ====
section
/-! DEFINITION. Images, contact printing and activation (R166, R428 to R443). -/

namespace Sys2Proof.Machine

/-- FIRMWARE_IMAGE_VERIFIED: K has checked the image in a slot (R428, R430). -/
def execFirmwareImageVerified (t : Time) (slot : Bool) (s : State) : Host.Outcome State Fault Refusal :=
  .next ((s.begin t).firmwareVerified slot)

/-- LOGIC_IMAGE_VERIFIED (R60, R145, R146, R166). -/
def execLogicImageVerified (t : Time) (i : Image) (sigOk : Bool) (signer : Nat) (headerLanes : BitVec 3) (hashLanes : BitVec 3) (s : State) : Host.Outcome State Fault Refusal :=
  .next ((s.begin t).logicVerified i sigOk signer headerLanes hashLanes)

/-- PARTIAL_IMAGE_DISCARD (R429). -/
def execPartialImageDiscard (t : Time) (s : State) : Host.Outcome State Fault Refusal :=
  .next ((s.begin t).discardPartial)

/-- PRINT_RETRY (R432). -/
def execPrintRetry (t : Time) (e : Fin 2) (s : State) : Host.Outcome State Fault Refusal :=
  .next ((s.begin t).retryPrint e.val)

/-- PRINT_TIMEOUT (R432). -/
def execPrintTimeout (t : Time) (e : Fin 2) (s : State) : Host.Outcome State Fault Refusal :=
  .next ((s.begin t).timeOutPrint e.val)

/-- PRINT_PART_REPLY (R431, R432). -/
def execPrintPartReply (t : Time) (e : Fin 2) (r : PartReply) (s : State) : Host.Outcome State Fault Refusal :=
  .next ((s.begin t).printReply e.val r)

/-- PRINT_SESSION_REPLY (R431, R432). -/
def execPrintSessionReply (t : Time) (e : Fin 2) (r : PrintReply) (s : State) : Host.Outcome State Fault Refusal :=
  .next ((s.begin t).printSession e.val r)

/-- Activation falls at a boundary of the module (R434, R435). -/
def State.activationPoint (s : State) : State := if s.alive && s.boundaryCycle.isSome then s.activationDue else s

/-- ACTIVATION_BOUNDARY (R435 to R437). -/
def execActivationBoundary (t : Time) (s : State) : Host.Outcome State Fault Refusal :=
  .next ((s.begin t).activationPoint)

/-- DEFERRED_ACTIVATION_TIMEOUT (R436). -/
def execDeferredActivationTimeout (t : Time) (s : State) : Host.Outcome State Fault Refusal :=
  .next ((s.begin t).deferredTimeout)

/-- CONVERSION_FAILED_RESTART (R443). -/
def execConversionFailedRestart (t : Time) (s : State) : Host.Outcome State Fault Refusal :=
  .next ((s.begin t).conversionRestart)

end Sys2Proof.Machine
end

