-- ==== Sys2Proof/Machine/Dispatch.lean ====
section
/-! DEFINITION. The meaning of every command: one arm per row of spec/opcode_table.json. -/

namespace Sys2Proof.Machine

def exec (i : Instr) (s : State) : Host.Outcome State Fault Refusal :=
  match i with
  | .setRoute t p => Sys2Proof.Machine.execSetRoute t p s
  | .cancelRoute t p => Sys2Proof.Machine.execCancelRoute t p s
  | .emergencyReleaseStep1 t p => Sys2Proof.Machine.execEmergencyReleaseStep1 t p s
  | .emergencyReleaseStep2 t p => Sys2Proof.Machine.execEmergencyReleaseStep2 t p s
  | .pointMove t p => Sys2Proof.Machine.execPointMove t p s
  | .pointBlock t p => Sys2Proof.Machine.execPointBlock t p s
  | .signalBlock t p => Sys2Proof.Machine.execSignalBlock t p s
  | .sectionReset t p => Sys2Proof.Machine.execSectionReset t p s
  | .blockRestore t p => Sys2Proof.Machine.execBlockRestore t p s
  | .zoneGrant t p => Sys2Proof.Machine.execZoneGrant t p s
  | .queryState t p => Sys2Proof.Machine.execQueryState t p s
  | .subscribe t p => Sys2Proof.Machine.execSubscribe t p s
  | .unsubscribe t p => Sys2Proof.Machine.execUnsubscribe t p s
  | .open1 t p => Sys2Proof.Machine.execOpen1 t p s
  | .open3 t p => Sys2Proof.Machine.execOpen3 t p s
  | .sessionClose t p => Sys2Proof.Machine.execSessionClose t p s
  | .sessionKeepalive t p => Sys2Proof.Machine.execSessionKeepalive t p s
  | .modeSetRun t p => Sys2Proof.Machine.execModeSetRun t p s
  | .modeSetStop t p => Sys2Proof.Machine.execModeSetStop t p s
  | .modeSetHold t p => Sys2Proof.Machine.execModeSetHold t p s
  | .cycleSet t p => Sys2Proof.Machine.execCycleSet t p s
  | .holdStep t p => Sys2Proof.Machine.execHoldStep t p s
  | .testStripRun t p => Sys2Proof.Machine.execTestStripRun t p s
  | .negativeReadRecords t p => Sys2Proof.Machine.execNegativeReadRecords t p s
  | .negativeReadChainHead t p => Sys2Proof.Machine.execNegativeReadChainHead t p s
  | .counterRead t p => Sys2Proof.Machine.execCounterRead t p s
  | .counterSet t p => Sys2Proof.Machine.execCounterSet t p s
  | .faultClear t p => Sys2Proof.Machine.execFaultClear t p s
  | .lockoutRelease t p => Sys2Proof.Machine.execLockoutRelease t p s
  | .faultInject t p => Sys2Proof.Machine.execFaultInject t p s
  | .updateOffer t p => Sys2Proof.Machine.execUpdateOffer t p s
  | .updateSchedule t p => Sys2Proof.Machine.execUpdateSchedule t p s
  | .updateScheduleCancel t p => Sys2Proof.Machine.execUpdateScheduleCancel t p s
  | .updateConfirm t p => Sys2Proof.Machine.execUpdateConfirm t p s
  | .sealProposeNonce t p => Sys2Proof.Machine.execSealProposeNonce t p s
  | .sealProposePart t p => Sys2Proof.Machine.execSealProposePart t p s
  | .sealProposeWithdraw t p => Sys2Proof.Machine.execSealProposeWithdraw t p s
  | .sealApprove t p => Sys2Proof.Machine.execSealApprove t p s
  | .lifecycleSetNonce t p => Sys2Proof.Machine.execLifecycleSetNonce t p s
  | .lifecycleSetPart t p => Sys2Proof.Machine.execLifecycleSetPart t p s
  | .lifecycleSetWithdraw t p => Sys2Proof.Machine.execLifecycleSetWithdraw t p s
  | .lampStatus t p => Sys2Proof.Machine.execLampStatus t p s
  | .lampRelease t p => Sys2Proof.Machine.execLampRelease t p s
  | .pairSet t p => Sys2Proof.Machine.execPairSet t p s
  | .logicLoad t p => Sys2Proof.Machine.execLogicLoad t p s
  | .logicSwitch t p => Sys2Proof.Machine.execLogicSwitch t p s
  | .event t m => Sys2Proof.Machine.execEvent t m s
  | .partnerTelegram t m => Sys2Proof.Machine.execPartnerTelegram t m s
  | .hello t link m => Sys2Proof.Machine.execHello t link m s
  | .fieldLinkUp t link => Sys2Proof.Machine.execFieldLinkUp t link s
  | .fieldLinkDown t link => Sys2Proof.Machine.execFieldLinkDown t link s
  | .challengeRepeat t link => Sys2Proof.Machine.execChallengeRepeat t link s
  | .openingAbandoned t sid => Sys2Proof.Machine.execOpeningAbandoned t sid s
  | .quarantineEnd t link => Sys2Proof.Machine.execQuarantineEnd t link s
  | .sessionAliveExpiry t sid => Sys2Proof.Machine.execSessionAliveExpiry t sid s
  | .fieldSessionCloseTimeout t sid => Sys2Proof.Machine.execFieldSessionCloseTimeout t sid s
  | .delta t h b => Sys2Proof.Machine.execDelta t h b s
  | .renew t h base handover => Sys2Proof.Machine.execRenew t h base handover s
  | .ack t h b => Sys2Proof.Machine.execAck t h b s
  | .release t h lastFix reason => Sys2Proof.Machine.execRelease t h lastFix reason s
  | .bulk t h b => Sys2Proof.Machine.execBulk t h b s
  | .bulkTimeout t => Sys2Proof.Machine.execBulkTimeout t s
  | .announce t h b => Sys2Proof.Machine.execAnnounce t h b s
  | .leaseLapse t => Sys2Proof.Machine.execLeaseLapse t s
  | .guardCycleStart t => Sys2Proof.Machine.execGuardCycleStart t s
  | .takeLamp t => Sys2Proof.Machine.execTakeLamp t s
  | .settlePeriodEnd t => Sys2Proof.Machine.execSettlePeriodEnd t s
  | .startSettlePeriodEnd t => Sys2Proof.Machine.execStartSettlePeriodEnd t s
  | .essentialSupplyLost t g => Sys2Proof.Machine.execEssentialSupplyLost t g s
  | .pairPresenceChange t asserted => Sys2Proof.Machine.execPairPresenceChange t asserted s
  | .pairListenEnd t => Sys2Proof.Machine.execPairListenEnd t s
  | .runPoint t => Sys2Proof.Machine.execRunPoint t s
  | .cycleBoundary t l reading => Sys2Proof.Machine.execCycleBoundary t l reading s
  | .inputImage t l m => Sys2Proof.Machine.execInputImage t l m s
  | .exposeClose t => Sys2Proof.Machine.execExposeClose t s
  | .set t l m => Sys2Proof.Machine.execSet t l m s
  | .setWaitExpiry t l => Sys2Proof.Machine.execSetWaitExpiry t l s
  | .developComplete t d => Sys2Proof.Machine.execDevelopComplete t d s
  | .developDeadline t => Sys2Proof.Machine.execDevelopDeadline t s
  | .mirrorDeadline t => Sys2Proof.Machine.execMirrorDeadline t s
  | .outputImage t l e => Sys2Proof.Machine.execOutputImage t l e s
  | .rendezvousWindowExpiry t => Sys2Proof.Machine.execRendezvousWindowExpiry t s
  | .fixLatestDeadline t => Sys2Proof.Machine.execFixLatestDeadline t s
  | .lateOutputImage t l e => Sys2Proof.Machine.execLateOutputImage t l e s
  | .tardyLaneBoundary t l => Sys2Proof.Machine.execTardyLaneBoundary t l s
  | .skipLimitExceeded t => Sys2Proof.Machine.execSkipLimitExceeded t s
  | .tardyWithdrawal t l => Sys2Proof.Machine.execTardyWithdrawal t l s
  | .inputMinorityFault t l => Sys2Proof.Machine.execInputMinorityFault t l s
  | .timedPromiseExpired t adm => Sys2Proof.Machine.execTimedPromiseExpired t adm s
  | .holdTimeout t => Sys2Proof.Machine.execHoldTimeout t s
  | .safeStateRelease t => Sys2Proof.Machine.execSafeStateRelease t s
  | .syncInEdge t width gap => Sys2Proof.Machine.execSyncInEdge t width gap s
  | .syncLoss t => Sys2Proof.Machine.execSyncLoss t s
  | .ptpMessage t m => Sys2Proof.Machine.execPtpMessage t m s
  | .ptpAnnounceTimeout t master => Sys2Proof.Machine.execPtpAnnounceTimeout t master s
  | .timebase t a b c => Sys2Proof.Machine.execTimebase t a b c s
  | .paceSample t l count => Sys2Proof.Machine.execPaceSample t l count s
  | .coreSupplyLow t l ns => Sys2Proof.Machine.execCoreSupplyLow t l ns s
  | .corePairMismatch t l item v1 v2 => Sys2Proof.Machine.execCorePairMismatch t l item v1 v2 s
  | .loupeProbe t l v1 v2 neighbour => Sys2Proof.Machine.execLoupeProbe t l v1 v2 neighbour s
  | .latentBufferFault t l e consumedBy => Sys2Proof.Machine.execLatentBufferFault t l e consumedBy s
  | .sramReadError t l w => Sys2Proof.Machine.execSramReadError t l w s
  | .cacheParityError t l cache line => Sys2Proof.Machine.execCacheParityError t l cache line s
  | .crossLaneWordRejected t ch w => Sys2Proof.Machine.execCrossLaneWordRejected t ch w s
  | .channelFaulted t ch => Sys2Proof.Machine.execChannelFaulted t ch s
  | .hash t l sender h => Sys2Proof.Machine.execHash t l sender h s
  | .resyncBulk t l sender part => Sys2Proof.Machine.execResyncBulk t l sender part s
  | .resyncDelta t l sender d => Sys2Proof.Machine.execResyncDelta t l sender d s
  | .stopBathOccurrence t source seen code => Sys2Proof.Machine.execStopBathOccurrence t source seen code s
  | .blockResetComplete t b => Sys2Proof.Machine.execBlockResetComplete t b s
  | .blockResetBoundExpiry t b => Sys2Proof.Machine.execBlockResetBoundExpiry t b s
  | .networkDieResetCheck t d h => Sys2Proof.Machine.execNetworkDieResetCheck t d h s
  | .laneReleasedFromReset t l => Sys2Proof.Machine.execLaneReleasedFromReset t l s
  | .laneLoadComplete t l ok => Sys2Proof.Machine.execLaneLoadComplete t l ok s
  | .laneJoinCheck t l fw logic refsAgree stores => Sys2Proof.Machine.execLaneJoinCheck t l fw logic refsAgree stores s
  | .resyncComplete t l => Sys2Proof.Machine.execResyncComplete t l s
  | .laneRestartTimer t l => Sys2Proof.Machine.execLaneRestartTimer t l s
  | .joinTimeout t => Sys2Proof.Machine.execJoinTimeout t s
  | .inboundFieldFrame t l f => Sys2Proof.Machine.execInboundFieldFrame t l f s
  | .staleFrame t l => Sys2Proof.Machine.execStaleFrame t l s
  | .fieldBoardWatchdog t l => Sys2Proof.Machine.execFieldBoardWatchdog t l s
  | .outboundFieldFrame t l f => Sys2Proof.Machine.execOutboundFieldFrame t l f s
  | .debounceExpiry t l ch => Sys2Proof.Machine.execDebounceExpiry t l ch s
  | .darkPulse t slot a b c => Sys2Proof.Machine.execDarkPulse t slot a b c s
  | .groupFeedRecovery t l g => Sys2Proof.Machine.execGroupFeedRecovery t l g s
  | .cutoffStuck t l g => Sys2Proof.Machine.execCutoffStuck t l g s
  | .pairedNoDark t l ch => Sys2Proof.Machine.execPairedNoDark t l ch s
  | .partnerLost t sid => Sys2Proof.Machine.execPartnerLost t sid s
  | .tLossExpiry t oid => Sys2Proof.Machine.execTLossExpiry t oid s
  | .pointMoveTimeout t oid => Sys2Proof.Machine.execPointMoveTimeout t oid s
  | .signalProvingTimeout t oid => Sys2Proof.Machine.execSignalProvingTimeout t oid s
  | .sectionClearDelay t oid => Sys2Proof.Machine.execSectionClearDelay t oid s
  | .crossingTimerExpiry t oid => Sys2Proof.Machine.execCrossingTimerExpiry t oid s
  | .overlapReleaseTimer t oid => Sys2Proof.Machine.execOverlapReleaseTimer t oid s
  | .approachReleaseTimer t rid => Sys2Proof.Machine.execApproachReleaseTimer t rid s
  | .emergencyTimerExpiry t rid => Sys2Proof.Machine.execEmergencyTimerExpiry t rid s
  | .confirmationWindowEnd t rid => Sys2Proof.Machine.execConfirmationWindowEnd t rid s
  | .waitLimitExpiry t rid => Sys2Proof.Machine.execWaitLimitExpiry t rid s
  | .folquelTimerExpiry t k => Sys2Proof.Machine.execFolquelTimerExpiry t k s
  | .safelightExit t => Sys2Proof.Machine.execSafelightExit t s
  | .safeStateNotReached t l ch => Sys2Proof.Machine.execSafeStateNotReached t l ch s
  | .injectionDisarm t => Sys2Proof.Machine.execInjectionDisarm t s
  | .engineSelfCheck t l second wrong => Sys2Proof.Machine.execEngineSelfCheck t l second wrong s
  | .staticRegionScanEnd t l logic value => Sys2Proof.Machine.execStaticRegionScanEnd t l logic value s
  | .negativeRecordWrite w => Sys2Proof.Machine.execNegativeRecordWrite w s
  | .chainHeadSign t => Sys2Proof.Machine.execChainHeadSign t s
  | .recordNumbersExhausted t => Sys2Proof.Machine.execRecordNumbersExhausted t s
  | .counterSaturation t l k => Sys2Proof.Machine.execCounterSaturation t l k s
  | .proposalExpiry t => Sys2Proof.Machine.execProposalExpiry t s
  | .firmwareImageVerified t slot => Sys2Proof.Machine.execFirmwareImageVerified t slot s
  | .logicImageVerified t img sigOk signer headerLanes hashLanes => Sys2Proof.Machine.execLogicImageVerified t img sigOk signer headerLanes hashLanes s
  | .partialImageDiscard t => Sys2Proof.Machine.execPartialImageDiscard t s
  | .printRetry t e => Sys2Proof.Machine.execPrintRetry t e s
  | .printTimeout t e => Sys2Proof.Machine.execPrintTimeout t e s
  | .printPartReply t e r => Sys2Proof.Machine.execPrintPartReply t e r s
  | .activationBoundary t => Sys2Proof.Machine.execActivationBoundary t s
  | .deferredActivationTimeout t => Sys2Proof.Machine.execDeferredActivationTimeout t s
  | .conversionFailedRestart t => Sys2Proof.Machine.execConversionFailedRestart t s
  | .powerOn t f straps strapFault charge => Sys2Proof.Machine.execPowerOn t f straps strapFault charge s
  | .holdUpReady t charge => Sys2Proof.Machine.execHoldUpReady t charge s
  | .kBootComplete t good => Sys2Proof.Machine.execKBootComplete t good s
  | .firstBoundary t => Sys2Proof.Machine.execFirstBoundary t s
  | .feedLoss t f => Sys2Proof.Machine.execFeedLoss t f s
  | .bothFeedsLost t charge => Sys2Proof.Machine.execBothFeedsLost t charge s
  | .feedReturn t f => Sys2Proof.Machine.execFeedReturn t f s
  | .rideThroughEnd t charge => Sys2Proof.Machine.execRideThroughEnd t charge s
  | .restartAfterPowerFail t f straps strapFault charge => Sys2Proof.Machine.execRestartAfterPowerFail t f straps strapFault charge s
  | .sfpInserted t p accepted => Sys2Proof.Machine.execSfpInserted t p accepted s
  | .hostLinkChange t p up => Sys2Proof.Machine.execHostLinkChange t p up s
  | .ptpReferenceBoundary t => Sys2Proof.Machine.execPtpReferenceBoundary t s
  | .lowSupplyChange t charge feedLow => Sys2Proof.Machine.execLowSupplyChange t charge feedLow s
  | .densitometerSampleTick t l => Sys2Proof.Machine.execDensitometerSampleTick t l s
  | .supervisorBoundary t => Sys2Proof.Machine.execSupervisorBoundary t s
  | .printSessionReply t e r => Sys2Proof.Machine.execPrintSessionReply t e r s
  | .unrecognisedDatagram t p why => Sys2Proof.Machine.execUnrecognisedDatagram t p why s

end Sys2Proof.Machine
end

