-- ==== Sys2Proof/WellFormed.lean ====
section
/-! DEFINITION. Which operands the hardware can present: the ranges of the manual that the operand types do
not already hold. exec has a meaning for every operand, well-formed or not. -/

namespace Sys2Proof

open Sys2Proof.Machine

/-- A payload of 0 to 1,024 bytes (R207). -/
def Machine.Pkt.wf (p : Pkt) : Bool := p.payload.length ≤ 1024

/-- A field message on a field link or a host port, of at most 1,024 content bytes (R288, R291, R292, R313). -/
def Machine.FieldMsg.wf (m : FieldMsg) : Bool :=
  (match m.port with
    | .f _ => true
    | .h _ => true
    | _ => false) && m.content.length ≤ 1024

/-- A part of a HELLO comes on its link (R292, R298). -/
def Machine.FieldMsg.wfHello (link : Fin 48) (m : FieldMsg) : Bool := m.port = .f link && m.content.length ≤ 1024

/-- Session IDs run from 1 to 63 (R216). -/
def sidOk (sid : Nat) : Bool := 1 ≤ sid && sid ≤ 63

/-- Object IDs have 14 bits (R81). -/
def oidOk (oid : Nat) : Bool := oid < 16384

/-- A LENGTH of 20 bits after the header word (R187). -/
def wordsOk (l : List W32) : Bool := l.length ≤ 2 ^ 20

/-- A timebase counts 64 bits (R188). -/
def readingOk (t : Ticks) : Bool := t < 2 ^ 64

/-- The store is measured in percent (R261). -/
def chargeOk (n : Nat) : Bool := n ≤ 100

/-- PTP messages come from a domain of 7 bits (R317). -/
def Machine.PtpMsg.wf (m : PtpMsg) : Bool := m.domain < 128

/-- A DELTA holds at most 63 partners and 2,112 commands of at most 8 bytes (R351). -/
def Machine.DeltaBody.wf (b : DeltaBody) : Bool :=
  b.partners.length ≤ 63 && b.cmds.length ≤ 2112 && b.cmds.all fun c => c.payload.length ≤ 8

/-! What `fqc` lets an image declare (R81, R83, R116, R118, R158) -/

def between (lo hi n : Nat) : Bool := lo ≤ n && n ≤ hi

/-- The ranges of the type parameters (R94, R98, R101, R104, R105, R109, R114). -/
def Machine.Params.wf : Params → Bool
  | .point limit _ protecting => between 1000 30000 limit && protecting.length ≤ 4
  | .signal proving aspects => proving ≤ 2000 && aspects.length ≤ 15
  | .stretch delay _ _ => delay ≤ 60000
  | .overlap release alts _ =>
    release ≤ 600000 && alts.length ≤ 4 && alts.all fun a => a.points.length ≤ 8 && a.sections.length ≤ 8
  | .crossing warning closing _ => warning ≤ 60000 && between 1000 60000 closing
  | .generic fields => fields.all fun f => between 1 16 f.width && f.lo + f.width ≤ 48
  | .route _ => true
  | .flank _ _ _ => true
  | .block _ _ _ _ => true
  | .zone _ _ _ => true

/-- The sources that a type accepts (R83). -/
def Machine.ObjDecl.sourceOk (d : ObjDecl) : Bool :=
  match d.params with
  | .route _ => d.source = .internal
  | .overlap _ _ _ => d.source = .internal
  | .flank _ _ _ => d.source = .internal
  | .generic _ => true
  | _ => d.source ≠ .internal

def Machine.ObjDecl.wf (d : ObjDecl) : Bool := oidOk d.oid && d.tLoss ≤ 10000 && d.params.wf && d.sourceOk

/-- The ranges of a route's parameters, and its three rows in their stored form (R116 to R118). -/
def Machine.RouteDecl.wf (d : RouteDecl) : Bool :=
  between 1 8 d.approach.length && d.alts ≤ 4 && d.approachMs ≤ 600000 && between 30000 600000 d.emergencyMs &&
    between 10000 300000 d.confirmMs && between 1000 600000 d.waitMs &&
    rowForm 0 d.rid d.settable && rowForm 1 d.rid d.hold && rowForm 2 d.rid d.clear

/-- A debounce time of 1 to 65,535 us, of at least 400 us on a channel that commands a switch (R320). -/
def Machine.ChEntry.wf (c : ChEntry) : Bool :=
  between (if c.mode = .output || c.mode = .paired then 400 else 1) 65535 c.debounce

/-- An image that `fqc` produces: ranges kept and every object ID unique (R81). -/
def Machine.Image.wf (i : Image) : Bool :=
  i.channels.all ChEntry.wf &&
  i.objects.all ObjDecl.wf && decide ((i.objects.map fun d => d.oid).Nodup) && i.routes.all RouteDecl.wf &&
    i.timers.all fun k => between 1 16777216 k.preset

/-- The range checks of a command. -/
def Instr.wf : Instr → Bool
  | .setRoute _ p => p.wf
  | .cancelRoute _ p => p.wf
  | .emergencyReleaseStep1 _ p => p.wf
  | .emergencyReleaseStep2 _ p => p.wf
  | .pointMove _ p => p.wf
  | .pointBlock _ p => p.wf
  | .signalBlock _ p => p.wf
  | .sectionReset _ p => p.wf
  | .blockRestore _ p => p.wf
  | .zoneGrant _ p => p.wf
  | .queryState _ p => p.wf
  | .subscribe _ p => p.wf
  | .unsubscribe _ p => p.wf
  | .open1 _ p => p.wf
  | .open3 _ p => p.wf
  | .sessionClose _ p => p.wf
  | .sessionKeepalive _ p => p.wf
  | .modeSetRun _ p => p.wf
  | .modeSetStop _ p => p.wf
  | .modeSetHold _ p => p.wf
  | .cycleSet _ p => p.wf
  | .holdStep _ p => p.wf
  | .testStripRun _ p => p.wf
  | .negativeReadRecords _ p => p.wf
  | .negativeReadChainHead _ p => p.wf
  | .counterRead _ p => p.wf
  | .counterSet _ p => p.wf
  | .faultClear _ p => p.wf
  | .lockoutRelease _ p => p.wf
  | .faultInject _ p => p.wf
  | .updateOffer _ p => p.wf
  | .updateSchedule _ p => p.wf
  | .updateScheduleCancel _ p => p.wf
  | .updateConfirm _ p => p.wf
  | .sealProposeNonce _ p => p.wf
  | .sealProposePart _ p => p.wf
  | .sealProposeWithdraw _ p => p.wf
  | .sealApprove _ p => p.wf
  | .lifecycleSetNonce _ p => p.wf
  | .lifecycleSetPart _ p => p.wf
  | .lifecycleSetWithdraw _ p => p.wf
  | .lampStatus _ p => p.wf
  | .lampRelease _ p => p.wf
  | .pairSet _ p => p.wf
  | .logicLoad _ p => p.wf
  | .logicSwitch _ p => p.wf
  | .event _ m => m.wf
  | .partnerTelegram _ m => m.wf
  | .hello _ link m => m.wfHello link
  | .openingAbandoned _ sid => sidOk sid
  | .sessionAliveExpiry _ sid => sidOk sid
  | .fieldSessionCloseTimeout _ sid => sidOk sid
  | .partnerLost _ sid => sidOk sid
  | .cycleBoundary _ _ reading => readingOk reading
  | .inputImage _ _ m => wordsOk m.words
  | .set _ _ m => wordsOk m.words
  | .ptpMessage _ m => m.wf
  | .timebase _ a b c => readingOk a && readingOk b && readingOk c
  | .darkPulse _ slot _ _ _ => slot < 96
  | .tLossExpiry _ oid => oidOk oid
  | .pointMoveTimeout _ oid => oidOk oid
  | .signalProvingTimeout _ oid => oidOk oid
  | .sectionClearDelay _ oid => oidOk oid
  | .crossingTimerExpiry _ oid => oidOk oid
  | .overlapReleaseTimer _ oid => oidOk oid
  | .powerOn _ _ _ _ charge => chargeOk charge
  | .holdUpReady _ charge => chargeOk charge
  | .bothFeedsLost _ charge => chargeOk charge
  | .rideThroughEnd _ charge => chargeOk charge
  | .restartAfterPowerFail _ _ _ _ charge => chargeOk charge
  | .lowSupplyChange _ charge _ => chargeOk charge
  | .fieldLinkUp _ _ => true
  | .fieldLinkDown _ _ => true
  | .challengeRepeat _ _ => true
  | .quarantineEnd _ _ => true
  | .delta _ _ b => b.wf
  | .renew _ _ _ _ => true
  | .ack _ _ _ => true
  | .release _ _ _ _ => true
  | .bulk _ _ _ => true
  | .bulkTimeout _ => true
  | .announce _ _ _ => true
  | .leaseLapse _ => true
  | .guardCycleStart _ => true
  | .takeLamp _ => true
  | .settlePeriodEnd _ => true
  | .startSettlePeriodEnd _ => true
  | .essentialSupplyLost _ _ => true
  | .pairPresenceChange _ _ => true
  | .pairListenEnd _ => true
  | .runPoint _ => true
  | .exposeClose _ => true
  | .setWaitExpiry _ _ => true
  | .developComplete _ _ => true
  | .developDeadline _ => true
  | .mirrorDeadline _ => true
  | .outputImage _ _ _ => true
  | .rendezvousWindowExpiry _ => true
  | .fixLatestDeadline _ => true
  | .lateOutputImage _ _ _ => true
  | .tardyLaneBoundary _ _ => true
  | .skipLimitExceeded _ => true
  | .tardyWithdrawal _ _ => true
  | .inputMinorityFault _ _ => true
  | .timedPromiseExpired _ _ => true
  | .holdTimeout _ => true
  | .safeStateRelease _ => true
  | .syncInEdge _ _ _ => true
  | .syncLoss _ => true
  | .ptpAnnounceTimeout _ _ => true
  | .paceSample _ _ _ => true
  | .coreSupplyLow _ _ _ => true
  | .corePairMismatch _ _ _ _ _ => true
  | .loupeProbe _ _ _ _ _ => true
  | .latentBufferFault _ _ _ _ => true
  | .sramReadError _ _ _ => true
  | .cacheParityError _ _ _ _ => true
  | .crossLaneWordRejected _ _ _ => true
  | .channelFaulted _ _ => true
  | .hash _ _ _ _ => true
  | .resyncBulk _ _ _ p => wordsOk p.words
  | .resyncDelta _ _ _ d => wordsOk d.words
  | .stopBathOccurrence _ _ _ _ => true
  | .blockResetComplete _ _ => true
  | .blockResetBoundExpiry _ _ => true
  | .networkDieResetCheck _ _ _ => true
  | .laneReleasedFromReset _ _ => true
  | .laneLoadComplete _ _ _ => true
  | .laneJoinCheck _ _ _ _ _ _ => true
  | .resyncComplete _ _ => true
  | .laneRestartTimer _ _ => true
  | .joinTimeout _ => true
  | .inboundFieldFrame _ _ _ => true
  | .staleFrame _ _ => true
  | .fieldBoardWatchdog _ _ => true
  | .outboundFieldFrame _ _ _ => true
  | .debounceExpiry _ _ _ => true
  | .groupFeedRecovery _ _ _ => true
  | .cutoffStuck _ _ _ => true
  | .pairedNoDark _ _ _ => true
  | .approachReleaseTimer _ _ => true
  | .emergencyTimerExpiry _ _ => true
  | .confirmationWindowEnd _ _ => true
  | .waitLimitExpiry _ _ => true
  | .folquelTimerExpiry _ _ => true
  | .safelightExit _ => true
  | .safeStateNotReached _ _ _ => true
  | .injectionDisarm _ => true
  | .engineSelfCheck _ _ _ _ => true
  | .staticRegionScanEnd _ _ _ _ => true
  | .negativeRecordWrite _ => true
  | .chainHeadSign _ => true
  | .recordNumbersExhausted _ => true
  | .counterSaturation _ _ _ => true
  | .proposalExpiry _ => true
  | .firmwareImageVerified _ _ => true
  | .logicImageVerified _ i _ _ _ _ => i.wf
  | .partialImageDiscard _ => true
  | .printRetry _ _ => true
  | .printTimeout _ _ => true
  | .printPartReply _ _ _ => true
  | .activationBoundary _ => true
  | .deferredActivationTimeout _ => true
  | .conversionFailedRestart _ => true
  | .kBootComplete _ _ => true
  | .firstBoundary _ => true
  | .feedLoss _ _ => true
  | .feedReturn _ _ => true
  | .sfpInserted _ _ _ => true
  | .hostLinkChange _ _ _ => true
  | .ptpReferenceBoundary _ => true
  | .densitometerSampleTick _ _ => true
  | .supervisorBoundary _ => true
  | .printSessionReply _ _ _ => true
  | .unrecognisedDatagram _ _ why =>
    match why with
    | .opcode _ p => p.wf
    | .port => true
    | .header => true
    | .version => true

end Sys2Proof
end

