-- ==== Sys2Proof/Safety.lean ====
section
/-! DEFINITION. The words in which claims are made: a command completes, the instant it brings, what a checker finds,
the circumstances in which a report is its own effect and nothing more, and the invariants. -/

namespace Sys2Proof

/-- The instant that a command brings (log 1). -/
def Instr.time : Instr → Time
  | .setRoute t _ => t
  | .cancelRoute t _ => t
  | .emergencyReleaseStep1 t _ => t
  | .emergencyReleaseStep2 t _ => t
  | .pointMove t _ => t
  | .pointBlock t _ => t
  | .signalBlock t _ => t
  | .sectionReset t _ => t
  | .blockRestore t _ => t
  | .zoneGrant t _ => t
  | .queryState t _ => t
  | .subscribe t _ => t
  | .unsubscribe t _ => t
  | .open1 t _ => t
  | .open3 t _ => t
  | .sessionClose t _ => t
  | .sessionKeepalive t _ => t
  | .modeSetRun t _ => t
  | .modeSetStop t _ => t
  | .modeSetHold t _ => t
  | .cycleSet t _ => t
  | .holdStep t _ => t
  | .testStripRun t _ => t
  | .negativeReadRecords t _ => t
  | .negativeReadChainHead t _ => t
  | .counterRead t _ => t
  | .counterSet t _ => t
  | .faultClear t _ => t
  | .lockoutRelease t _ => t
  | .faultInject t _ => t
  | .updateOffer t _ => t
  | .updateSchedule t _ => t
  | .updateScheduleCancel t _ => t
  | .updateConfirm t _ => t
  | .sealProposeNonce t _ => t
  | .sealProposePart t _ => t
  | .sealProposeWithdraw t _ => t
  | .sealApprove t _ => t
  | .lifecycleSetNonce t _ => t
  | .lifecycleSetPart t _ => t
  | .lifecycleSetWithdraw t _ => t
  | .lampStatus t _ => t
  | .lampRelease t _ => t
  | .pairSet t _ => t
  | .logicLoad t _ => t
  | .logicSwitch t _ => t
  | .event t _ => t
  | .partnerTelegram t _ => t
  | .hello t _ _ => t
  | .fieldLinkUp t _ => t
  | .fieldLinkDown t _ => t
  | .challengeRepeat t _ => t
  | .openingAbandoned t _ => t
  | .quarantineEnd t _ => t
  | .sessionAliveExpiry t _ => t
  | .fieldSessionCloseTimeout t _ => t
  | .delta t _ _ => t
  | .renew t _ _ _ => t
  | .ack t _ _ => t
  | .release t _ _ _ => t
  | .bulk t _ _ => t
  | .bulkTimeout t => t
  | .announce t _ _ => t
  | .leaseLapse t => t
  | .guardCycleStart t => t
  | .takeLamp t => t
  | .settlePeriodEnd t => t
  | .startSettlePeriodEnd t => t
  | .essentialSupplyLost t _ => t
  | .pairPresenceChange t _ => t
  | .pairListenEnd t => t
  | .runPoint t => t
  | .cycleBoundary t _ _ => t
  | .inputImage t _ _ => t
  | .exposeClose t => t
  | .set t _ _ => t
  | .setWaitExpiry t _ => t
  | .developComplete t _ => t
  | .developDeadline t => t
  | .mirrorDeadline t => t
  | .outputImage t _ _ => t
  | .rendezvousWindowExpiry t => t
  | .fixLatestDeadline t => t
  | .lateOutputImage t _ _ => t
  | .tardyLaneBoundary t _ => t
  | .skipLimitExceeded t => t
  | .tardyWithdrawal t _ => t
  | .inputMinorityFault t _ => t
  | .timedPromiseExpired t _ => t
  | .holdTimeout t => t
  | .safeStateRelease t => t
  | .syncInEdge t _ _ => t
  | .syncLoss t => t
  | .ptpMessage t _ => t
  | .ptpAnnounceTimeout t _ => t
  | .timebase t _ _ _ => t
  | .paceSample t _ _ => t
  | .coreSupplyLow t _ _ => t
  | .corePairMismatch t _ _ _ _ => t
  | .loupeProbe t _ _ _ _ => t
  | .latentBufferFault t _ _ _ => t
  | .sramReadError t _ _ => t
  | .cacheParityError t _ _ _ => t
  | .crossLaneWordRejected t _ _ => t
  | .channelFaulted t _ => t
  | .hash t _ _ _ => t
  | .resyncBulk t _ _ _ => t
  | .resyncDelta t _ _ _ => t
  | .stopBathOccurrence t _ _ _ => t
  | .blockResetComplete t _ => t
  | .blockResetBoundExpiry t _ => t
  | .networkDieResetCheck t _ _ => t
  | .laneReleasedFromReset t _ => t
  | .laneLoadComplete t _ _ => t
  | .laneJoinCheck t _ _ _ _ _ => t
  | .resyncComplete t _ => t
  | .laneRestartTimer t _ => t
  | .joinTimeout t => t
  | .inboundFieldFrame t _ _ => t
  | .staleFrame t _ => t
  | .fieldBoardWatchdog t _ => t
  | .outboundFieldFrame t _ _ => t
  | .debounceExpiry t _ _ => t
  | .darkPulse t _ _ _ _ => t
  | .groupFeedRecovery t _ _ => t
  | .cutoffStuck t _ _ => t
  | .pairedNoDark t _ _ => t
  | .partnerLost t _ => t
  | .tLossExpiry t _ => t
  | .pointMoveTimeout t _ => t
  | .signalProvingTimeout t _ => t
  | .sectionClearDelay t _ => t
  | .crossingTimerExpiry t _ => t
  | .overlapReleaseTimer t _ => t
  | .approachReleaseTimer t _ => t
  | .emergencyTimerExpiry t _ => t
  | .confirmationWindowEnd t _ => t
  | .waitLimitExpiry t _ => t
  | .folquelTimerExpiry t _ => t
  | .safelightExit t => t
  | .safeStateNotReached t _ _ => t
  | .injectionDisarm t => t
  | .engineSelfCheck t _ _ _ => t
  | .staticRegionScanEnd t _ _ _ => t
  | .negativeRecordWrite w => w.t
  | .chainHeadSign t => t
  | .recordNumbersExhausted t => t
  | .counterSaturation t _ _ => t
  | .proposalExpiry t => t
  | .firmwareImageVerified t _ => t
  | .logicImageVerified t _ _ _ _ _ => t
  | .partialImageDiscard t => t
  | .printRetry t _ => t
  | .printTimeout t _ => t
  | .printPartReply t _ _ => t
  | .activationBoundary t => t
  | .deferredActivationTimeout t => t
  | .conversionFailedRestart t => t
  | .powerOn t _ _ _ _ => t
  | .holdUpReady t _ => t
  | .kBootComplete t _ => t
  | .firstBoundary t => t
  | .feedLoss t _ => t
  | .bothFeedsLost t _ => t
  | .feedReturn t _ => t
  | .rideThroughEnd t _ => t
  | .restartAfterPowerFail t _ _ _ _ => t
  | .sfpInserted t _ _ => t
  | .hostLinkChange t _ _ => t
  | .ptpReferenceBoundary t => t
  | .lowSupplyChange t _ _ => t
  | .densitometerSampleTick t _ => t
  | .supervisorBoundary t => t
  | .printSessionReply t _ _ => t
  | .unrecognisedDatagram t _ _ => t

/-- A command of a Nernel packet: its opcode (R247), and the packet with what the row fixes in its payload. -/
def Instr.nernel : Instr → Option (Nat × Machine.Pkt)
  | .setRoute _ p => some (0x0101, p)
  | .cancelRoute _ p => some (0x0102, p)
  | .emergencyReleaseStep1 _ p => some (0x0103, p.withByte 2 1)
  | .emergencyReleaseStep2 _ p => some (0x0103, p.withByte 2 2)
  | .pointMove _ p => some (0x0201, p)
  | .pointBlock _ p => some (0x0202, p)
  | .signalBlock _ p => some (0x0211, p)
  | .sectionReset _ p => some (0x0221, p)
  | .blockRestore _ p => some (0x0231, p)
  | .zoneGrant _ p => some (0x0241, p)
  | .queryState _ p => some (0x0301, p)
  | .subscribe _ p => some (0x0302, p)
  | .unsubscribe _ p => some (0x0303, p)
  | .sessionClose _ p => some (0x0402, p)
  | .sessionKeepalive _ p => some (0x0403, p)
  | .modeSetRun _ p => some (0x0501, p.withByte 0 1)
  | .modeSetStop _ p => some (0x0501, p.withByte 0 0)
  | .modeSetHold _ p => some (0x0501, p.withByte 0 2)
  | .cycleSet _ p => some (0x0502, p)
  | .holdStep _ p => some (0x0503, p)
  | .testStripRun _ p => some (0x0601, p)
  | .negativeReadRecords _ p => some (0x0610, p.withByte 0 0)
  | .negativeReadChainHead _ p => some (0x0610, p.withByte 0 1)
  | .counterRead _ p => some (0x0620, p)
  | .counterSet _ p => some (0x0621, p)
  | .faultClear _ p => some (0x0630, p.withBit0 2 false)
  | .lockoutRelease _ p => some (0x0630, p.withBit0 2 true)
  | .faultInject _ p => some (0x0640, p)
  | .updateOffer _ p => some (0x0701, p)
  | .updateSchedule _ p => some (0x0704, p.withBit0 40 false)
  | .updateScheduleCancel _ p => some (0x0704, p.withBit0 40 true)
  | .updateConfirm _ p => some (0x0708, p)
  | .sealProposeNonce _ p => some (0x0801, p.withByte 0 1)
  | .sealProposePart _ p => some (0x0801, p.withByte 0 2)
  | .sealProposeWithdraw _ p => some (0x0801, p.withByte 0 3)
  | .sealApprove _ p => some (0x0802, p)
  | .lifecycleSetNonce _ p => some (0x0810, p.withByte 0 1)
  | .lifecycleSetPart _ p => some (0x0810, p.withByte 0 2)
  | .lifecycleSetWithdraw _ p => some (0x0810, p.withByte 0 3)
  | .lampStatus _ p => some (0x0901, p)
  | .lampRelease _ p => some (0x0902, p)
  | .pairSet _ p => some (0x0903, p)
  | .logicLoad _ p => some (0x0A01, p)
  | .logicSwitch _ p => some (0x0A02, p)
  | _ => none

end Sys2Proof

namespace Sys2Proof.Machine

/-- A command completes: exec answers a next state, and `P` holds of it. -/
def Completes (c : Instr) (s : State) (P : State → Prop) : Prop := ∃ t, exec c s = .next t ∧ P t

/-- The tables of ports have their sizes: 48 field links, four host ports, two mirror ports (R13). -/
def State.tabled (s : State) : Prop :=
  s.net.links.length = 48 ∧ s.net.hostPorts.length = 4 ∧ s.net.mirrorPorts.length = 2

/-! Invariants -/

/-- The Lamp epoch in the archive is never higher than the highest that the module knows (R356). -/
def State.EpochOk (s : State) : Prop := s.flt.persistent.epoch.toNat ≤ s.pair.epochKnown.toNat

/-- The rings hold at most 94,208 records (R388) and the bucket at most 1,024 tokens (R393). -/
def Negative.Sized (n : Negative) : Prop :=
  n.bank1.ring.length ≤ 94208 ∧ n.bank2.ring.length ≤ 94208 ∧ n.tokens ≤ 1024

/-- The module is retired, and no change that is due would end that (R401). -/
def State.Retired (s : State) : Prop :=
  s.trust.cfg.lifecycle = .retired ∧ ∀ c, s.trust.due = some c → c.new.lifecycle = .retired

/-! Admission -/

/-- The first eight checks of R231 on a packet of an open session, in their order; `h` is the sequence number accepted. -/
def State.passes (s : State) (op : Nat) (p : Pkt) (x : Session) (row : OpRow) (h : W32) : Prop :=
  (s.portUsable p.port = true ∧ p.versionOk = true ∧ p.headerOk op = true) ∧
  (s.session? p.sid = some x ∧ opRow op s.ps.lease = some row ∧ s.sessionOk x p op row = true) ∧
  (2 ≤ x.gclass.toNat → p.flag 4 = true ∧ p.tagOk x op = true) ∧
  (p.flagsOk op x.gclass = true ∧ (p.flag 2 = true → p.scOk op = true)) ∧
  (seqCheck x.legacy x.h p.seq = .accepted h ∧ counterIn 0 15 x.aliveSeen p.alive = true ∧ s.stampOk x p.stamp = true) ∧
  (p.length.toNat = p.payload.length ∧ p.reserved = 0 ∧ p.session.toNat < 64 ∧ offence op p.payload = none) ∧
  s.modeBars op x.gclass = false ∧
  (op / 256 = 1 ∨ op / 256 = 2 → s.paired = true → s.pair.role = .active)

/-- Check 9 of R231: admission (R234) finds room and a promise it can keep, with these charges, cycle and limit. -/
def State.roomFor (s : State) (op : Nat) (p : Pkt) (x : Session) (row : OpRow) (charges : List (Nat × Nat × Nat × Nat))
    (cycle : Nat) (limit : Option Time) : Prop :=
  s.admission ⟨op, row, p.tray, p.prio, x.gclass = 1 || x.gclass = 3, s.deadlineOf p, lastPart p.payload⟩ p.payload =
    .inr (charges, cycle, limit)

/-- Nothing is admitted, and one reply leaves with a status. -/
def State.refusedWith (s u : State) (op : Nat) (status : Byte) : Prop :=
  u.net.entries = s.net.entries ∧ u.net.nextAdm = s.net.nextAdm ∧ u.net.charges = s.net.charges ∧ u.rail = s.rail ∧
  u.cyc = s.cyc ∧ ∃ r : Reply, u.outbox = [.reply r] ∧ r.op = BitVec.ofNat 16 op ∧ r.payload.head? = some status

/-- A part of an opening arrives whole: its port carries traffic, and version, header, trailer flags and safety code are right. -/
def State.opensWith (s : State) (p : Pkt) : Prop :=
  s.portUsable p.port = true ∧ p.versionOk = true ∧ p.headerOk 0x0401 = true ∧ p.openFlags = true ∧ p.scOk 0x0401 = true

/-- Each timer command of objects, routes and equations with what it waits for, at the time of the consensus image. -/
def State.timerOf (s : State) : Instr → Option (Ticks → Bool)
  | .tLossExpiry _ oid => some (s.tLossDue oid)
  | .pointMoveTimeout _ oid => some (s.moveDue oid)
  | .signalProvingTimeout _ oid => some (s.provingDue oid)
  | .sectionClearDelay _ oid => some (s.clearDue oid)
  | .crossingTimerExpiry _ oid => some (s.crossingDue oid)
  | .overlapReleaseTimer _ oid => some (s.overlapDue oid)
  | .approachReleaseTimer _ rid => some (s.approachDue rid)
  | .emergencyTimerExpiry _ rid => some (s.emergencyDue rid)
  | .confirmationWindowEnd _ rid => some (s.confirmDue rid)
  | .waitLimitExpiry _ rid => some (s.waitDue rid)
  | .folquelTimerExpiry _ k => some (s.timerDue k)
  | _ => none

/-! Commands in the trays -/

/-- The outcome of an admitted command is said once, with a status. -/
def State.says (s u : State) (e : Entry) (status : Byte) : Prop :=
  ∃ body, u.net.answers = s.net.answers ++ [e.answer status body]

/-- The outcome is all that the command does. -/
def State.onlySays (s u : State) (e : Entry) (status : Byte) : Prop :=
  ∃ body, u = { s with net.answers := s.net.answers ++ [e.answer status body] }

/-! The cycle -/

/-- At an instant no deadline of the cycle has passed that has not acted: the command finds the state as it stands (R49). -/
def State.punctual (s : State) (t : Time) : Prop := (s.begin t).overdue = s.begin t

/-- Every word of a lane's memory agrees with its check bits (R17). -/
def LaneRec.scansClean (r : LaneRec) : Prop := ∀ x ∈ r.sram, sramOutcome (BitVec.ofNat 22 x.1) x.2.1 x.2.2 = .matches

/-- What a SET over a channel leaves in the lane that receives it: kept unless it is late, and passed on once where it comes
directly (R192). -/
def State.keepSet (s : State) (l k : Lane) (ch : Chan) (m : SetMsg) (late : Bool) : State :=
  { s.modLane l fun r => { r with sets := if late = true then r.sets else m :: r.sets, passed := (k, m.rendezvous) :: r.passed } with
    outbox := if Chan.between l k = ch then [.laneWords l (laneMessage 3 k (m.words s.cyc.cycle))] else [] }

/-- A SET in words, from another lane, in an exchange for which this lane has passed on none of that sender. -/
def State.newSet (s : State) (l k : Lane) (ch : Chan) (m : SetMsg) (words : List W32) : Prop :=
  words = laneMessage 3 k (m.words s.cyc.cycle) ∧ m.sender = k ∧ k ≠ l ∧ (Lane.chans l).contains ch = true ∧
  (s.lane l).phase.exchanges = true ∧ (s.lane l).passed.contains (k, m.rendezvous) = false

/-- A command with which a lane decides the used set of an exchange: its 10 us have passed, or the last SET that it lacked
arrives in time (R192); `v` is the state in which it decides. -/
def State.decides (s v : State) (rendezvous : Bool) (t : Time) (l : Lane) (c : Instr) : Prop :=
  (c = .setWaitExpiry t l ∧ v = s.begin t ∧ s.exchangeClose rendezvous l + 10000 ≤ t) ∨
  (∃ k ch m words, c = .set t l ⟨ch, words⟩ ∧ s.newSet l k ch m words ∧ m.rendezvous = rendezvous ∧
    max s.now t ≤ s.exchangeClose rendezvous l + 10000 ∧ v = (s.begin t).keepSet l k ch m false ∧
    v.holdsSets rendezvous l = true)

/-- An unpaired module with nothing admitted, no subscription and no Test Strip run, and clean lane memories. -/
def State.idling (s : State) : Prop :=
  (∀ l, (s.lane l).scansClean) ∧ s.flt.injection = none ∧
  s.net.entries = [] ∧ s.net.answers = [] ∧ s.net.subs = [] ∧ s.test = none ∧ s.pair.role = .unpaired ∧ s.v.strap = 0 ∧
  s.pair.lease.handover = none ∧ s.pair.lease.giveUp = false

/-- Three lanes vote, none calls for a level, and every cross-lane channel carries. -/
def State.whole (s : State) : Prop :=
  (∀ l, (s.lane l).phase = .voting ∧ (s.lane l).calls = 0 ∧ (s.lane l).lateDue = false) ∧
  ∀ ch, (s.chan ch).absent = false ∧ (s.chan ch).faulted = false

/-! The pair -/

/-- A mirror message arrives whole and in time, for the first time, from the partner's position (R345, R348, R349). -/
def State.hears (s : State) (h : MirrorHdr) (m : MirrorBody) : Prop :=
  (s.alive = true ∧ s.paired = true ∧ s.portUsable (.m h.port) = true) ∧ h.headerOk m.kind = true ∧ s.mirrorWhole h m = true ∧
  h.position ≠ s.position ∧ (h.position = 1 ∨ h.position = 2)

/-- The command that brings a mirror message. -/
def mirrorCommand (t : Time) (h : MirrorHdr) : MirrorBody → Instr
  | .delta b => .delta t h b
  | .renew base handover => .renew t h base handover
  | .ack b => .ack t h b
  | .release last reason => .release t h last reason
  | .bulk b => .bulk t h b
  | .announce b => .announce t h b

/-! Reports -/

/-- Two lanes vote once lane `gone` has stopped, so that no lack of a majority brings Safelight (R200, R382). -/
def State.heldWithout (s : State) (gone : Option Lane) : Prop :=
  s.alive = false ∨ s.flt.safelight.on = true ∨ 2 ≤ (s.voting.filter fun l => some l ≠ gone).length

/-- No level 3 or 4 is called for in any lane (R373), a network die works, and no injection is armed (R387). -/
def State.calm (s : State) : Prop :=
  (∀ l, (s.lane l).calls = 0) ∧ s.bothDiesLost = false ∧ s.flt.injection = none

/-- In a lane's Stop Bath no source of the class holds an unacknowledged bit outside a reaction shadow, and no shadow
covers the source: the source reacts at its class's baseline level (R377, R379, R380). -/
def State.baseline (s : State) (l : Lane) (n : Nat) : Prop :=
  (s.shadowMask l).getLsbD n = false ∧
  ∀ c, classOf n = some c → (s.lane l).bath.sticky &&& ~~~(s.lane l).bath.shadowed &&& c.sources = 0

/-- Code and baseline level of a source's class (R375, R376). -/
def rankOf (n : Nat) : Option (Nat × Nat) := (classOf n).map fun c => (c.code, c.base)

/-- The scribe's queue takes a FAULT record (R393). -/
def State.recording (s : State) (now : Time) : Prop :=
  s.neg.closed = false ∧ 0 < (s.neg.refilled now).tokens ∧ s.neg.queue.length < 2048

/-- A FAULT record of a source in some lanes (R390, R391). -/
def Record.isFault (r : Record) (n level : Nat) (lanes : BitVec 3) : Prop :=
  r.kind = 1 ∧ r.level = level ∧ r.source = BitVec.ofNat 16 n ∧ r.lanes = lanes

/-- The lane and the source that a checker's command reports; none where it finds nothing (R17, R19, R21, R180, R182,
R183, R184, R376, R462). The pace sample is apart. -/
def State.finding (s : State) : Instr → Option (Lane × Nat)
  | .sramReadError _ l w => (sramOutcome w.addr w.word w.check).source.map fun n => (l, n)
  | .cacheParityError _ l _ _ => some (l, 0x013)
  | .coreSupplyLow _ l ns => if 10000 < ns then some (l, 0x022) else none
  | .corePairMismatch _ _ _ .matched .matched => none
  | .corePairMismatch _ l .register .mismatch .mismatch => some (l, 0x000)
  | .corePairMismatch _ l .store .mismatch .mismatch => some (l, 0x001)
  | .corePairMismatch _ l .sheet .mismatch .mismatch => some (l, 0x002)
  | .corePairMismatch _ l .word .mismatch .mismatch => some (l, 0x003)
  | .corePairMismatch _ l _ _ _ => some (l, 0x004)
  | .loupeProbe _ _ .mismatch .mismatch false => none
  | .loupeProbe _ l _ _ _ => some (l, 0x005)
  | .latentBufferFault _ l e reader =>
    if e.check ≠ Config.latentCheck e.value e.index ∨ e.index ≠ reader then some (l, 0x006) else none
  | .staticRegionScanEnd _ l true v =>
    if (s.lane l).refLogic = none ∨ (s.lane l).refLogic = some v then none else some (l, 0x011)
  | .staticRegionScanEnd _ l false v =>
    if (s.lane l).refFirmware = none ∨ (s.lane l).refFirmware = some v then none else some (l, 0x011)
  | _ => none

end Sys2Proof.Machine
end

