-- ==== Sys2Proof/Certificates/Slice0/Obligations.lean ====
section
/-! DEFINITION. The statements for the provers. In each, `s` is the state before the command (or the step) and `u` the
state after it. -/

open Sys2Proof Sys2Proof.Machine

/-! The queue and the instants -/

/-- A step with a command at the front of the queue is that command's effect on the state with the queue's rest. -/
def Obligations.StepRunsFrontCommand : Prop :=
  ∀ (c : Instr) (rest : List Instr) (s : State), s.pending = c :: rest → step s = exec c { s with pending := rest }

/-- A step on an empty queue idles (the model's own reading, log 2). -/
def Obligations.EmptyQueueIdles : Prop := ∀ s : State, s.pending = [] → step s = .next s

/-- Every command is answered with a next state; it leaves the queue alone, and the module's instant becomes that of the
command unless it lies before the instant already reached (log 1). -/
def Obligations.EveryCommandAnswered : Prop :=
  ∀ (c : Instr) (s : State), Completes c s fun u => u.pending = s.pending ∧ u.now = max s.now c.time

/-! Checkers within a lane -/

/-- A correctable SRAM error and a cache parity error are recorded as a NOTE: the lane's sticky bit and one record of level 0;
the word is corrected and written back with its check bits, the line is filled anew from lane memory; the lane goes on, and nothing
else changes (R17, R19). -/
def Obligations.LaneErrorNoted : Prop :=
  ∀ (c : Instr) (s : State) (l : Lane) (n : Nat), s.finding c = some (l, n) → n = 0x010 ∨ n = 0x013 →
    (s.lane l).phase.live = true → s.baseline l n → s.calm → s.heldWithout none → s.recording (max s.now c.time) →
    Completes c s fun u =>
      (u.lane l).bath.sticky = (s.lane l).bath.sticky ||| srcBit n ∧
      u.lane l = { s.lane l with bath := (u.lane l).bath, sram := (u.lane l).sram, caches := (u.lane l).caches } ∧
      (∀ t a w check, c = .sramReadError t l ⟨a, w, check⟩ → ∃ bit, sramOutcome a w check = .single bit ∧
        (u.lane l).word a = w ^^^ (1 <<< bit) ∧ (∀ b, b ≠ a → (u.lane l).word b = (s.lane l).word b) ∧
        (u.lane l).caches = (s.lane l).caches) ∧
      (∀ t shadow data line, c = .cacheParityError t l ⟨shadow, data⟩ line → (u.lane l).sram = (s.lane l).sram ∧
        (s.lane l).fill shadow data line ∈ (u.lane l).caches ∧ ∀ x ∈ (u.lane l).caches,
          x ∈ (s.lane l).caches ∨ x = (s.lane l).fill shadow data line) ∧
      (∀ k, k ≠ l → u.lane k = s.lane k) ∧
      (∃ r, u.neg.queue = s.neg.queue ++ [r] ∧ r.isFault n 0 (laneMask [l])) ∧
      u = { s with now := max s.now c.time, outbox := [], laneA := u.laneA, laneB := u.laneB, laneC := u.laneC,
                   neg := u.neg, test := u.test }

/-- A core-pair mismatch, a Loupe that misses its probe, a faulty Latent Buffer entry, an uncorrectable SRAM error, a wrong
static region and a low core supply each withdraw the lane at level 2, with the source as its cause and every switch and
cut-off of the lane off; a lane of the others changes only if it was in RESYNC (R17, R21, R180, R182, R183, R184, R199, R462). -/
def Obligations.LaneFaultWithdraws : Prop :=
  ∀ (c : Instr) (s : State) (l : Lane) (n : Nat), s.finding c = some (l, n) → n ≠ 0x010 → n ≠ 0x013 →
    (s.lane l).phase.live = true → s.baseline l n → s.calm → s.heldWithout (some l) → s.recording (max s.now c.time) →
    Completes c s fun u =>
      (u.lane l).phase = .withdrawn ∧ (u.lane l).cause = BitVec.ofNat 9 n ∧ (u.lane l).withdrawnAt = some u.now ∧
      (u.lane l).board.cmdSwitches = 0 ∧ (u.lane l).board.cmdCutoffs = 0 ∧
      (u.lane l).bath.sticky = (s.lane l).bath.sticky ||| srcBit n ∧
      (∀ k, k ≠ l → (s.lane k).phase ≠ .resync → u.lane k = s.lane k) ∧
      (∃ r w rest, u.neg.queue = s.neg.queue ++ r :: w :: rest ∧ r.isFault n 2 (laneMask [l]) ∧
        w.kind = 8 ∧ w.source = BitVec.ofNat 16 n) ∧
      u = { s with now := max s.now c.time, outbox := [], laneA := u.laneA, laneB := u.laneB, laneC := u.laneC,
                   neg := u.neg, test := u.test }

/-- A checker that finds nothing leaves the lane as it was, but for what the check itself uses up: the Latent Buffer entry
consumed, the engine that has run its jobs, the reporting of a supply or of an engine that has ended, the pace index of a sample that
is not low, a word asked for again (R17, R21, R22, R26, R27, R179, R183, R184, R457, R462). -/
def Obligations.CheckersThatPass : Prop :=
  ∀ (s : State) (t : Time) (l : Lane), s.flt.injection = none →
    (∀ a w check, sramOutcome a w check = .matches → exec (.sramReadError t l ⟨a, w, check⟩) s = .next (s.begin t)) ∧
    (∀ item, exec (.corePairMismatch t l item .matched .matched) s = .next (s.begin t)) ∧
    exec (.loupeProbe t l .mismatch .mismatch false) s = .next (s.begin t) ∧
    (∀ e : LatentEntry, e.check = Config.latentCheck e.value e.index →
      exec (.latentBufferFault t l e e.index) s =
        .next ((s.begin t).modLane l fun r => { r with latent := r.latent.filter fun x => x ≠ e && x.index ≠ e.index })) ∧
    (∀ ns, ns ≤ 10000 → exec (.coreSupplyLow t l ns) s =
      .next ((s.begin t).modLane l fun r => { r with bath.reporting := r.bath.reporting &&& ~~~srcBit 0x022 })) ∧
    (∀ second, Completes (.engineSelfCheck t l second 0) s fun u => u = (s.begin t).modLane l (fun _ => u.lane l) ∧
      u.lane l = { s.lane l with
        bath.reporting := (s.lane l).bath.reporting &&& ~~~srcBit (if second then 0x031 else 0x030)
        engine1 := (u.lane l).engine1, engine2 := (u.lane l).engine2 }) ∧
    (∀ v, (s.lane l).refLogic = some v → exec (.staticRegionScanEnd t l true v) s = .next (s.begin t)) ∧
    (∀ v, (s.lane l).refFirmware = some v → exec (.staticRegionScanEnd t l false v) s = .next (s.begin t)) ∧
    (∀ ch w, w.data = none → exec (.crossLaneWordRejected t ch ⟨w, false⟩) s = .next { s.begin t with outbox := [.askWord ch] }) ∧
    (∀ ch w repeated, w.data.isSome = true → exec (.crossLaneWordRejected t ch ⟨w, repeated⟩) s = .next (s.begin t)) ∧
    (∀ count, (s.lane l).phase ≠ .down → 64 ≤ min 255 (64 * count / Config.cFloor l) →
      exec (.paceSample t l count) s = .next ((s.begin t).modLane l fun r =>
        { r with pi := BitVec.ofNat 8 (min 255 (64 * count / Config.cFloor l)),
                 piMin := BitVec.ofNat 8 (min (min 255 (64 * count / Config.cFloor l)) r.piMin.toNat), piLow := 0 }))

/-- A pace index below 64: the third sample in a row withdraws the lane, one or two are a NOTE (R22). Timebases (R25): with three lanes
exchanging, the lane whose count differs from both others by more than 50 ppm over the second (500 ticks) is withdrawn; with two lanes
voting, such a difference brings Safelight. -/
def Obligations.PaceAndTimebase : Prop :=
  (∀ (s : State) (t : Time) (l : Lane) (count : Nat), min 255 (64 * count / Config.cFloor l) < 64 →
    (s.lane l).phase.live = true → s.calm →
    (2 ≤ (s.lane l).piLow → s.baseline l 0x021 → s.heldWithout (some l) →
      Completes (.paceSample t l count) s fun u =>
        (u.lane l).phase = .withdrawn ∧ (u.lane l).cause = 0x021 ∧ (u.lane l).board.cmdSwitches = 0 ∧
        (u.lane l).pi = BitVec.ofNat 8 (min 255 (64 * count / Config.cFloor l)) ∧
        ∀ k, k ≠ l → (s.lane k).phase ≠ .resync → u.lane k = s.lane k) ∧
    ((s.lane l).piLow < 2 → s.baseline l 0x020 → s.heldWithout none →
      Completes (.paceSample t l count) s fun u =>
        (u.lane l).phase = (s.lane l).phase ∧ (u.lane l).bath.sticky = (s.lane l).bath.sticky ||| srcBit 0x020 ∧
        (u.lane l).pi = BitVec.ofNat 8 (min 255 (64 * count / Config.cFloor l)) ∧ (u.lane l).piLow = (s.lane l).piLow + 1 ∧
        (u.lane l).board = (s.lane l).board ∧ ∀ k, k ≠ l → u.lane k = s.lane k)) ∧
  ((∀ (s : State) (t : Time) (l : Lane) (x : Lane → Ticks), s.calm → s.heldWithout (some l) →
    (∀ k, (s.lane k).phase = .voting) → s.baseline l 0x024 →
    (∀ k, k ≠ l → 500 < (x l - x k) + (x k - x l)) →
    (∀ j k, j ≠ l → k ≠ l → (x j - x k) + (x k - x j) ≤ 500) →
    Completes (.timebase t (x .a) (x .b) (x .c)) s fun u =>
      (u.lane l).phase = .withdrawn ∧ (u.lane l).cause = 0x024 ∧
      (∀ k, k ≠ l → u.lane k = s.lane k) ∧ u.flt = s.flt ∧ u.cyc = s.cyc ∧ u.net = s.net ∧ u.rail = s.rail) ∧
  (∀ (s : State) (t : Time) (x : Lane → Ticks) (j k : Lane), s.voting = [j, k] → s.alive = true →
    s.flt.safelight.on = false → (∀ l, (s.lane l).phase ≠ .probation) → 500 < (x j - x k) + (x k - x j) →
    Completes (.timebase t (x .a) (x .b) (x .c)) s fun u =>
      u.flt.safelight.on = true ∧ u.flt.safelight.source = 0x071 ∧ u.cyc.mode = .stop ∧ u.cyc.outputs = 0 ∧
      (∀ l, (u.lane l).board.cmdSwitches = 0 ∧ (u.lane l).board.cmdCutoffs = 0) ∧ u.net.entries = []))

/-- A check-value engine with a wrong known answer is reset at level 1, in the shadow of R379, unless it has been reset
three times within 60 s; the lane goes on (R375, R378, R379, R457). -/
def Obligations.EngineFaultResetsEngine : Prop :=
  ∀ (s : State) (t : Time) (l : Lane) (second : Bool) (wrong : BitVec 5), wrong ≠ 0 →
    (s.lane l).phase.live = true → s.baseline l (if second then 0x031 else 0x030) → s.calm → s.heldWithout none →
    (s.begin t).fourthReset (.engine l second) = false →
    Completes (.engineSelfCheck t l second wrong) s fun u =>
      u.dies.resets = s.dies.resets.filter (fun x => x.1 ≠ .engine l second) ++ [(.engine l second, u.now)] ∧
      u.lane l = { s.lane l with bath := (u.lane l).bath, engine1 := (u.lane l).engine1, engine2 := (u.lane l).engine2 } ∧
      (u.lane l).bath.sticky = (s.lane l).bath.sticky ||| srcBit (if second then 0x031 else 0x030) ∧
      (∀ k, k ≠ l → u.lane k = s.lane k) ∧ u.cyc = s.cyc ∧ u.net = s.net ∧ u.rail = s.rail ∧ u.pair = s.pair ∧ u.upd = s.upd

/-- Check-value engines: the results for "123456789" are those of R458; a job that is interrupted, its context read and written
back, goes on as if it had not been (R459); a job issued during a block reset waits, and when the reset ends the job in hand is run again
from its start, then those that wait, in the order issued (R460); alive mode passes a block whose check verifies and whose counter has advanced by D_MIN to
2^D_MAX - 1, keeps the counter then and only then (R464), and its first row is how a field frame's counter is judged. Readings of the
model: log 112. -/
def Obligations.EngineJobs : Prop :=
  ((EngineCtx.fresh 0).feed checkBytes).result = 0xE3069283 ∧ ((EngineCtx.fresh 1).feed checkBytes).result = 0x6C40DF5F0B497347 ∧
  ((EngineCtx.fresh 2).feed checkBytes).result = 0x9D13A61C0E5B0FF5 ∧ ((EngineCtx.fresh 3).feed checkBytes).result = 0x29B1 ∧
  ((EngineCtx.fresh 4).feed checkBytes).result = 0x31C3 ∧
  (∀ (c : EngineCtx) (x y : List Byte), c.feed (x ++ y) = (c.feed x).feed y) ∧
  (∀ x : List Byte, ((EngineCtx.fresh 0).feed x).result = (crc32c x).setWidth 64 ∧ ((EngineCtx.fresh 1).feed x).result = crc64a x ∧
    ((EngineCtx.fresh 2).feed x).result = crc64b x ∧ ((EngineCtx.fresh 3).feed x).result = (crc16 0xFFFF x).setWidth 64 ∧
    ((EngineCtx.fresh 4).feed x).result = (crc16 0 x).setWidth 64) ∧
  (∀ (x : EngineUnit) (i j k : EngineJob), x.job = some i → x.waiting = [] →
    (EngineUnit.issue true j x).job = some i ∧ (EngineUnit.issue true j x).ctx = x.ctx ∧
    (EngineUnit.issue true k (EngineUnit.issue true j x)).resume = { ((x.take i).take j).take k with waiting := [] }) ∧
  (∀ (c : EngineCtx) (verified : Bool) (n : W16), (c.alive verified n).1 =
      (verified && decide (c.dMin.toNat ≤ (n - c.lastAlive).toNat ∧ (n - c.lastAlive).toNat ≤ 2 ^ c.dMax.toNat - 1)) ∧
    (c.alive verified n).2 = if (c.alive verified n).1 then { c with lastAlive := n } else c) ∧
  (∀ last n : W16, advanced (some last) n = ({ lastAlive := last, mode := 2, dMin := 1, dMax := 2 : EngineCtx }.alive true n).1)

/-- A word as sent is accepted, one with an illegal rail pair is not (R26). A word rejected twice is a channel error of that cycle: the data of the exchange are absent, and every live lane notes the channel's
source once (R27). A channel with an error in three cycles in a row is faulted, and the lane that R27 names for it is withdrawn: B for XL-
AB, C for XL-BC, A for XL-CA; the two others go on. Readings of the model: logs 54, 131. -/
def Obligations.ChannelErrors : Prop :=
  (∀ w : W32, (railWord w).data = some w) ∧ (∀ w : RailWord, w.dataFalse ≠ ~~~w.dataTrue → w.data = none) ∧
  (∀ (s : State) (t : Time) (ch : Chan) (w : RailWord), w.data = none → (s.chan ch).error = false → s.calm → s.heldWithout none →
    (∀ l, (s.lane l).phase.live = true ∧ s.baseline l (0x060 + Chan.idx ch)) →
    Completes (.crossLaneWordRejected t ch ⟨w, true⟩) s fun u =>
      u.chan ch = { s.chan ch with error := true, absent := true } ∧ (∀ k, k ≠ ch → u.chan k = s.chan k) ∧
      (∀ l, (u.lane l).bath.sticky = (s.lane l).bath.sticky ||| srcBit (0x060 + Chan.idx ch)) ∧
      (∀ l, u.lane l = { s.lane l with bath := (u.lane l).bath }) ∧
      u.cyc = s.cyc ∧ u.net = s.net ∧ u.rail = s.rail ∧ u.pair = s.pair ∧ u.upd = s.upd) ∧
  (∀ (s : State) (t : Time) (ch : Chan) (victim : Lane),
    (ch, victim) ∈ [(Chan.ab, Lane.b), (Chan.bc, Lane.c), (Chan.ca, Lane.a)] →
    (s.chan ch).faulted = false → 2 ≤ (s.chan ch).run → (s.chan ch).error = true → s.calm →
    s.heldWithout (some victim) → (∀ l, (s.lane l).phase = .voting ∧ s.baseline l (0x063 + Chan.idx ch)) →
    Completes (.channelFaulted t ch) s fun u =>
      (u.chan ch).faulted = true ∧ (u.lane victim).phase = .withdrawn ∧
      (u.lane victim).cause = BitVec.ofNat 9 (0x063 + Chan.idx ch) ∧ (u.lane victim).board.cmdSwitches = 0 ∧
      (∀ l, l ≠ victim → (u.lane l).phase = .voting ∧ (u.lane l).board = (s.lane l).board) ∧
      u.cyc = s.cyc ∧ u.net = s.net ∧ u.rail = s.rail ∧ u.pair = s.pair ∧ u.upd = s.upd)

/-! Lanes coming back -/

/-- The moves of R199 that bring a lane back, each from the state it starts in: reset, load, hashes, resynchronisation with its two
copies compared, the restart at the first boundary 100 ms after withdrawal, and BARRED after three restarts within 24 h (R34, R199,
R203, R204, R371, R469). Readings of the model: logs 59, 60. -/
def Obligations.LaneComesBack : Prop :=
  ∀ (s : State) (t : Time) (l : Lane),
    (s.alive = true → (s.begin t).suppliesGood = true → (s.lane l).phase = .down →
      exec (.laneReleasedFromReset t l) s = .next ((s.begin t).modLane l fun r => { r with phase := .loading })) ∧
    (s.v.power.phase = .joining → (s.begin t).suppliesGood = true → (s.lane l).phase = .down →
      Completes (.laneReleasedFromReset t l) s fun u => ∀ k, u.lane k =
        if (s.lane k).phase = .down then { s.lane k with phase := .loading } else s.lane k) ∧
    (s.loads = true → (s.lane l).phase = .loading →
      exec (.laneLoadComplete t l true) s =
        .next ((s.begin t).modLane l fun r => { r with phase := .joining, counters := List.replicate 32 {} })) ∧
    (s.loads = true → (s.lane l).phase = .loading →
      Completes (.laneLoadComplete t l false) s fun u =>
        u.lane l = { s.lane l with phase := .withdrawn, withdrawnAt := some u.now } ∧ ∀ k, k ≠ l → u.lane k = s.lane k) ∧
    (∀ k h, k ≠ l → s.joins l k = true → s.loads = true → (s.lane l).phase.live = true → (s.lane k).phase.live = true →
      exec (.hash t l k h) s = .next ((s.begin t).modLane k fun r => { r with fwHash := some h })) ∧
    (∀ (r : Resync) (j k : Lane) (first : Nat) (w : List W32), r = (s.lane l).resync → (s.lane l).phase = .resync →
      r.snapped = true → r.agreed = false → (r.copy k).length = first →
      (k ∈ s.voting → first + w.length < r.words.length → exec (.resyncBulk t l k ⟨first, w⟩) s =
        .next ((s.begin t).modLane l fun x => { x with resync := r.setCopy k (r.copy k ++ w) })) ∧
      (j ≠ k → s.voting = [j, k] → r.words.length ≤ (r.copy j).length → r.words.length ≤ first + w.length →
        (r.copy k ++ w = r.copy j → exec (.resyncBulk t l k ⟨first, w⟩) s =
          .next ((s.begin t).modLane l fun x => { x with resync := { r.setCopy k (r.copy k ++ w) with agreed := true } })) ∧
        (r.copy k ++ w ≠ r.copy j → r.askedOnce = false → Completes (.resyncBulk t l k ⟨first, w⟩) s fun u => ∃ a n,
          (u.lane l).resync.asked = some (a, n) ∧ (u.lane l).resync.askedOnce = true ∧ (u.lane l).resync.agreed = false ∧
          a + n = r.words.length ∧ u.outbox = [.askRange l a n] ∧ ∀ i, i ≠ l → u.lane i = s.lane i))) ∧
    (∀ k c w, (s.lane l).phase = .resync → (s.lane l).resync.snapped = true → k ∈ s.voting →
      (∀ x ∈ (s.lane l).resync.deltaFrom, x.2.1 = c → x.1 = k) →
      exec (.resyncDelta t l k ⟨c, w⟩) s = .next ((s.begin t).modLane l fun r => { r with
        resync.deltaFrom := (r.resync.deltaFrom.filter fun x => x.1 ≠ k) ++ [(k, c, w)] })) ∧
    (∀ j k c x y, (s.lane l).phase = .resync → (s.lane l).resync.snapped = true → j ≠ k → s.voting = [j, k] →
      (s.lane l).resync.deltaFrom = [(j, c, x)] → x ≠ y → (s.lane l).resync.deltaAsked = false →
      Completes (.resyncDelta t l k ⟨c, y⟩) s fun u => (u.lane l).resync.deltaFrom = [] ∧ (u.lane l).resync.deltaAsked = true ∧
        (u.lane l).phase = .resync ∧ u.outbox.length = 2) ∧
    ((s.lane l).phase = .resync → (s.lane l).resync.agreed = true → (∀ k ∈ s.voting, s.caughtUp l k = true) →
      exec (.resyncComplete t l) s = .next ((s.begin t).modLane l fun r =>
        { r with enter := true, leaseAt := s.pair.lease.renewed })) ∧
    (∀ w, s.alive = true → s.cyc.start = max s.now t → (s.lane l).phase = .withdrawn → (s.lane l).withdrawnAt = some w →
      w + 100000000 ≤ t → (s.lane l).restarts.length < 3 → s.restartable l = true →
      Completes (.laneRestartTimer t l) s fun u =>
        (u.lane l).phase = .loading ∧ (u.lane l).restarts = (s.lane l).restarts ++ [u.now] ∧
        (u.lane l).bath = (s.lane l).bath ∧ (u.lane l).counters = List.replicate 32 {} ∧ ∀ k, k ≠ l → u.lane k = s.lane k) ∧
    (∀ w, s.alive = true → s.cyc.start = max s.now t → (s.lane l).phase = .withdrawn → (s.lane l).withdrawnAt = some w →
      w + 100000000 ≤ t → 3 ≤ (s.lane l).restarts.length → (∀ x ∈ (s.lane l).restarts, max s.now t < x + 86400000000000) →
      exec (.laneRestartTimer t l) s = .next ((s.begin t).modLane l fun r => { r with phase := .barred }))

/-- The join checks before the first boundary: two lanes whose firmware and logic hashes agree with each other, and whose firmware hash is
K's, both join (R34, R478). A lane whose firmware hash is not K's does not join: it is withdrawn with source 0x044 (R34, R478). Without
two joined lanes 1,000 ms after K's load the module runs on in Safelight, in STOP, with no lane in VOTING (R478). Readings of the model:
logs 49, 62. -/
def Obligations.LanesJoin : Prop :=
  (∀ (s : State) (t : Time) (l k : Lane) (fw logic : Hash) (stores : BitVec 2), k ≠ l → s.v.power.phase = .joining → s.upd.onTrial = false →
    (s.lane l).phase = .joining → (s.lane l).joined = false → fw = s.laneImage →
    (s.lane k).phase = .joining → (s.lane k).joined = false → (s.lane k).refFirmware.isSome = true →
    (s.lane k).fwHash = some fw → (s.lane k).logicHash = some logic → (∀ j, j ≠ l → j ≠ k → (s.lane j).phase = .down) →
    (s.lane l).refFirmware = none →
    Completes (.laneJoinCheck t l fw logic true stores) s fun u =>
      (u.lane l).joined = true ∧ (u.lane k).joined = true ∧ (u.lane l).phase = .joining ∧
      (u.lane l).fwHash = some fw ∧ (u.lane l).logicHash = some logic) ∧
  (∀ (s : State) (t : Time) (l : Lane) (fw logic : Hash) (refs : Bool) (stores : BitVec 2), (s.lane l).phase = .joining →
    (s.lane l).joined = false → fw ≠ s.laneImage →
    s.baseline l 0x044 → s.calm → s.heldWithout (some l) →
    Completes (.laneJoinCheck t l fw logic refs stores) s fun u =>
      (u.lane l).phase = .withdrawn ∧ (u.lane l).cause = 0x044 ∧ (u.lane l).joined = false ∧
      ∀ k, k ≠ l → (s.lane k).phase ≠ .resync → u.lane k = s.lane k) ∧
  (∀ (s : State) (t w : Time), s.v.power.phase = .joining → s.v.power.loadedAt = some w → w + 1000000000 ≤ t →
    s.joinedLanes.length < 2 → s.voting = [] → s.flt.safelight.on = false →
    Completes (.joinTimeout t) s fun u =>
      u.v.power.phase = .running ∧ u.flt.safelight.on = true ∧ u.flt.safelight.source = 0x070 ∧ u.cyc.mode = .stop ∧
      u.voting = [] ∧ ∀ l, (u.lane l).board.cmdSwitches = 0 ∧ (u.lane l).board.cmdCutoffs = 0)

/-! The Stop Bath -/

/-- Occurrences in one lane by level: a NOTE leaves the lane's state alone, level 2 withdraws it; a source that still holds its bit
makes no new occurrence, but one of level 2 withdraws its lane all the same (R185; the model's reading, log 129); one that is seen in
no lane stops reporting (R369, R370, R372, R377). -/
def Obligations.OccurrenceInLane : Prop :=
  ∀ (s : State) (t : Time) (n : Fin 512) (l : Lane) (code : W16) (cls : Nat), ownLane n.val = true →
    n.val ≠ 0x022 → n.val ≠ 0x023 → (s.lane l).phase.live = true →
    (rankOf n.val = some (cls, 0) → s.baseline l n.val → s.calm → s.heldWithout none →
      Completes (.stopBathOccurrence t n (laneMask [l]) code) s fun u =>
        (u.lane l).phase = (s.lane l).phase ∧ (u.lane l).bath.sticky = (s.lane l).bath.sticky ||| srcBit n.val ∧
        ∀ k, k ≠ l → u.lane k =
          { s.lane k with bath.reporting := (s.lane k).bath.reporting &&& ~~~srcBit n.val }) ∧
    (rankOf n.val = some (cls, 2) → s.baseline l n.val → s.calm → s.heldWithout (some l) →
      Completes (.stopBathOccurrence t n (laneMask [l]) code) s fun u =>
        (u.lane l).phase = .withdrawn ∧ (u.lane l).cause = BitVec.ofNat 9 n.val ∧
        (u.lane l).bath.sticky = (s.lane l).bath.sticky ||| srcBit n.val ∧ (u.lane l).board.cmdSwitches = 0) ∧
    (∀ base, rankOf n.val = some (cls, base) → (s.lane l).bath.sticky.getLsbD n.val = true →
      (s.lane l).bath.shadowed.getLsbD n.val = false → (s.shadowMask l).getLsbD n.val = false →
      (base ≠ 2 → s.flt.injection = none → Completes (.stopBathOccurrence t n (laneMask [l]) code) s fun u =>
        u.lane l = s.lane l ∧ u.cyc = s.cyc ∧ u.net = s.net ∧ u.flt = s.flt ∧ u.dies = s.dies) ∧
      (base = 2 → s.calm → s.heldWithout (some l) → Completes (.stopBathOccurrence t n (laneMask [l]) code) s fun u =>
        (u.lane l).phase = .withdrawn ∧ (u.lane l).cause = BitVec.ofNat 9 n.val ∧ (u.lane l).board.cmdSwitches = 0 ∧
        (u.lane l).bath = (s.lane l).bath ∧ u.cyc = s.cyc ∧ u.flt = s.flt)) ∧
    Completes (.stopBathOccurrence t n 0 code) s fun u =>
      u = (s.begin t).modLanes fun _ r => { r with bath.reporting := r.bath.reporting &&& ~~~srcBit n.val }

/-- Escalation (R377): while another source of its class holds an unacknowledged bit, a level 2 source of a voting lane reacts at level 3: the
lane calls for level 3 and goes dark, and is not withdrawn. A VOTE source reported by the lanes takes the module to Safelight: STOP,
outputs and cut-offs off, entries ended INTERNAL_SAFELIGHT, routes and locks kept, a SAFELIGHT_ENTRY record due, the chain head to be
signed after it (R372, R373, R382). -/
def Obligations.Escalation : Prop :=
  (∀ (s : State) (t : Time) (n m : Fin 512) (l : Lane) (code : W16) (c : SrcClass), ownLane n.val = true →
    n.val ≠ 0x022 → n.val ≠ 0x023 → classOf n.val = some c → c.base = 2 → classOf m.val = some c → n ≠ m →
    (s.lane l).phase = .voting → (s.lane l).bath.sticky.getLsbD m.val = true →
    (s.lane l).bath.shadowed.getLsbD m.val = false → (s.lane l).bath.sticky.getLsbD n.val = false →
    (s.shadowMask l).getLsbD n.val = false → s.calm → s.heldWithout none →
    Completes (.stopBathOccurrence t n (laneMask [l]) code) s fun u =>
      (u.lane l).phase = .voting ∧ (u.lane l).calls = 3 ∧ (u.lane l).board.cmdSwitches = 0 ∧
      (u.lane l).board.cmdCutoffs = 0 ∧ (u.lane l).bath.sticky.getLsbD n.val = true ∧ u.flt.safelight = s.flt.safelight) ∧
  (∀ (s : State) (t : Time) (n : Fin 512) (code : W16), rankOf n.val = some (0x13, 3) → s.calm → 2 ≤ s.votes →
    (∀ l, (s.lane l).phase.live = true → s.baseline l n.val) → s.flt.safelight.on = false → s.neg.closed = false →
    Completes (.stopBathOccurrence t n 7 code) s fun u =>
      u.flt.safelight = { on := true, since := u.now, cycle := s.cyc.cycle, source := n.val, lockout := false } ∧
      u.cyc.mode = .stop ∧ u.cyc.outputs = 0 ∧ u.cyc.dev = none ∧ u.net.entries = [] ∧
      (∀ l, (u.lane l).board.cmdSwitches = 0 ∧ (u.lane l).board.cmdCutoffs = 0) ∧
      u.rail.objs.map (fun o => (o.oid, o.lock)) = s.rail.objs.map (fun o => (o.oid, o.lock)) ∧ (s.pair.role = .active → u.pair.role = .standby) ∧
      (∃ r ∈ u.neg.queue, r.kind = 4 ∧ r.level = 3 ∧ r.source = BitVec.ofNat 16 n.val) ∧
      (∀ e ∈ s.net.entries, ∃ a ∈ u.net.answers, a.adm = e.adm ∧ a.status = 0x7F))

/-- Two voting lanes that see a FINAL source (0x16C) take the module to LOCKOUT, which is stored with the boot count and the source, once
(R373, R383, R385). The record that would take the last number is source 0x1E3's: the module enters LOCKOUT, and nothing further is
written (R393). -/
def Obligations.LockoutSources : Prop :=
  (∀ (s : State) (t : Time) (l k : Lane) (ch : Fin 96), k ≠ l → (s.lane l).phase = .voting → (s.lane k).phase = .voting →
    4 ≤ (s.lane k).calls → s.flt.safelight.on = true → s.flt.safelight.lockout = false → s.flt.persistent.lockout = false →
    s.flt.safelight.since + 10000000 ≤ t → (s.image.channel ch.val).mode = .output →
    (s.lane l).board.raw.getLsbD ch.val = true → (∀ j ∈ s.voting, (s.lane j).board.cmdSwitches = 0) →
    s.baseline l 0x16C → s.flt.injection = none → s.bothDiesLost = false →
    Completes (.safeStateNotReached t l ch) s fun u =>
      u.flt.safelight.lockout = true ∧ u.flt.safelight.source = 0x16C ∧ u.flt.safelight.on = true ∧
      u.flt.persistent = { s.flt.persistent with
        lockout := true, lockoutBoot := s.upd.boot.bootCount, lockoutSource := 0x16C } ∧
      4 ≤ (u.lane l).calls ∧ (u.lane l).board.cmdSwitches = 0 ∧ u.cyc = s.cyc) ∧
  (∀ (s : State) (t : Time), s.neg.next = 0xFFFFFFFF → s.neg.closed = false → s.neg.queue ≠ [] → 2 ≤ s.votes →
    s.flt.injection = none → s.flt.safelight.lockout = false → s.bothDiesLost = false →
    (∀ l, (s.lane l).phase.live = true → s.baseline l 0x1E3) →
    Completes (.recordNumbersExhausted t) s fun u =>
      u.neg.closed = true ∧ u.neg.queue = [] ∧ u.neg.headNumber = 0xFFFFFFFF ∧ u.flt.safelight.on = true ∧
      u.flt.safelight.lockout = true ∧ u.flt.safelight.source = 0x1E3 ∧ u.flt.persistent.lockout = true ∧
      (s.flt.safelight.on = false → u.cyc.outputs = 0))

/-- The way out of Safelight: where every condition of R384 holds it ends, with a SAFELIGHT_EXIT record, and the module stays as it
was; where one fails the command does nothing (R80, R384). -/
def Obligations.SafelightEnds : Prop :=
  ∀ (s : State) (t : Time),
    (s.alive = true → s.flt.safelight.on = true → s.flt.safelight.lockout = false → s.flt.safelight.since + 1000000000 ≤ t →
      2 ≤ s.votes → (∀ l ∈ s.voting, ∀ x ∈ (s.lane l).bath.levels, 3 ≤ x.2 → (s.lane l).bath.sticky.getLsbD x.1 = false) →
      (s.begin t).boundaryCycle.isSome = true → s.neg.closed = false →
      Completes (.safelightExit t) s fun u =>
        u = { s.begin t with flt.safelight := {}, neg := u.neg } ∧
        ∃ r, u.neg.queue = s.neg.queue ++ [r] ∧ r.kind = 5) ∧
    (s.flt.safelight.lockout = true ∨ max s.now t < s.flt.safelight.since + 1000000000 ∨ s.votes < 2 ∨
      (∃ l ∈ s.voting, ∃ x ∈ (s.lane l).bath.levels, 3 ≤ x.2 ∧ (s.lane l).bath.sticky.getLsbD x.1 = true) →
      exec (.safelightExit t) s = .next (s.begin t))

/-- A block reset that completes: the block goes on, an engine with the job that was interrupted and those that wait (R460), and its
reaction shadow closes. Where no detector in it still reports, nothing else
happens; a field crossing counts its frames anew (R379, R381). A detector that still reports when the shadow of its block closes is a new
occurrence, at its baseline level: an engine that still fails its self-check is reset again (R381). Readings of the model: log 142. -/
def Obligations.BlockResets : Prop :=
  (∀ (s : State) (t w : Time) (l : Lane) (second : Bool),
    (s.dies.resets = [(.engine l second, w)] → (∀ k, (s.lane k).bath.reporting &&& rangeMask 0x030 2 = 0) →
      Completes (.blockResetComplete t (.engine l second)) s fun u =>
        u = { s.begin t with dies.resets := [], laneA := u.laneA, laneB := u.laneB, laneC := u.laneC } ∧
        u.lane l = { s.lane l with
          bath.shadowed := (s.lane l).bath.shadowed &&& ~~~rangeMask 0x030 2
          bath.reporting := (s.lane l).bath.reporting &&& ~~~rangeMask 0x030 2
          engine1 := if second = true then (s.lane l).engine1 else (s.lane l).engine1.resume
          engine2 := if second = true then (s.lane l).engine2.resume else (s.lane l).engine2 } ∧
        ∀ k, k ≠ l → u.lane k = s.lane k) ∧
    (s.dies.resets = [(.crossing l, w)] →
      (∀ k, (s.lane k).bath.reporting &&& (rangeMask 0x050 2 ||| rangeMask 0x100 96 ||| rangeMask 0x160 12) = 0) →
      Completes (.blockResetComplete t (.crossing l)) s fun u =>
        u.dies.resets = [] ∧ (u.lane l).board.inCtr = none ∧ (u.lane l).board.outCtr = 0 ∧ (u.lane l).board.boardCtr = none ∧
        (u.lane l).board.stale = 0 ∧ (u.lane l).phase = (s.lane l).phase ∧ ∀ k, k ≠ l → u.lane k = s.lane k)) ∧
  (∀ (s : State) (t w : Time) (l : Lane), s.dies.resets = [(.engine l false, w)] → s.dies.resetHistory = [(.engine l false, w)] →
    (s.lane l).phase.live = true → (s.lane l).bath.sticky.getLsbD 0x030 = true →
    (s.lane l).bath.reporting.getLsbD 0x030 = true → (s.lane l).bath.reporting.getLsbD 0x031 = false →
    (s.lane l).bath.sticky.getLsbD 0x031 = false → s.calm → s.heldWithout none →
    s.recording (max s.now t) →
    Completes (.blockResetComplete t (.engine l false)) s fun u =>
      u.dies.resets = [(.engine l false, u.now)] ∧ (u.lane l).bath.shadowed.getLsbD 0x030 = false ∧
      (∃ r, u.neg.queue = s.neg.queue ++ [r] ∧ r.isFault 0x030 1 (laneMask [l]) ∧ r.during = false) ∧
      ∀ k, k ≠ l → u.lane k = s.lane k)

/-- A block reset beyond its bound is taken at level 2: an engine or a field crossing withdraws its lane, a port is out of service; the record
is marked escalated (R375, R378). A network die comes back from its reset only with the firmware that K measured; with another it is out
of service until the next start, and the sessions on its ports close (R31, R32). Readings of the model: log 63. -/
def Obligations.ResetsThatFail : Prop :=
  (∀ (s : State) (t w : Time) (b : Block), s.dies.resets = [(b, w)] → w + b.bound ≤ t → s.calm →
    s.recording (max s.now t) → (∀ k, (s.lane k).bath.reporting = 0) →
    (∀ l, (∃ second, b = .engine l second) ∨ b = .crossing l → (s.lane l).phase.live = true → s.heldWithout (some l) →
      Completes (.blockResetBoundExpiry t b) s fun u =>
        (u.lane l).phase = .withdrawn ∧ u.dies.resets = [] ∧ (u.lane l).board.cmdSwitches = 0 ∧
        ∃ r rest, u.neg.queue = s.neg.queue ++ r :: rest ∧ r.kind = 1 ∧ r.level = 2 ∧ r.escalated = true) ∧
    (∀ p : Port, b = .port p → s.tabled → s.heldWithout none →
      Completes (.blockResetBoundExpiry t b) s fun u =>
        (u.port p).outOfService = true ∧ (u.port p).up = false ∧ u.dies.resets = [] ∧
        (∀ l, (u.lane l).phase = (s.lane l).phase) ∧
        ∃ r, u.neg.queue = s.neg.queue ++ [r] ∧ r.kind = 1 ∧ r.level = 2 ∧ r.escalated = true)) ∧
  (∀ (s : State) (t w : Time) (d : Die) (h : Hash), s.dies.resets = [(.die d, w)] → (∀ k, (s.lane k).bath.reporting = 0) →
    (h = s.netImage →
      Completes (.networkDieResetCheck t d h) s fun u =>
        u.dieUp d = true ∧ u.dies.resets = [] ∧ u.net = s.net ∧ ∀ l, (u.lane l).phase = (s.lane l).phase) ∧
    (h ≠ s.netImage → (∀ e, e ≠ d → s.dieOut e = false) → s.calm → s.heldWithout none →
      (∀ l, (s.lane l).phase.live = true → (s.lane l).bath.sticky &&& (srcBit 0x184 ||| srcBit 0x1A4) = 0) →
      Completes (.networkDieResetCheck t d h) s fun u =>
        u.dieOut d = true ∧ u.dies.resets = [] ∧
        u.net.sessions = s.net.sessions.map (fun x =>
          if portDie x.port = d then { x with closeDue := true, state := .closing } else x) ∧
        ∀ l, (u.lane l).phase = (s.lane l).phase))

/-- An injection is over 60 s after it was armed, with an INJECT record (R275, R387); a proposal lapses 600 s after its opening
without its last part, or 24 h after that part (R279). Readings of the model: log 111. -/
def Obligations.TimeLimitsOfTools : Prop :=
  ∀ (s : State) (t : Time),
    (∀ j, s.flt.injection = some j → j.at_ + 60000000000 ≤ t → s.neg.closed = false →
      Completes (.injectionDisarm t) s fun u =>
        u = { s.begin t with flt.injection := none, neg := u.neg } ∧
        ∃ r, u.neg.queue = s.neg.queue ++ [r] ∧ r.kind = 7) ∧
    (∀ p, s.trust.proposal = some p → p.complete = none → p.openedAt + 600000000000 ≤ t →
      exec (.proposalExpiry t) s = .next { s.begin t with trust.proposal := none }) ∧
    (∀ p w, s.trust.proposal = some p → p.complete = some w → w + 86400000000000 ≤ t →
      exec (.proposalExpiry t) s = .next { s.begin t with trust.proposal := none }) ∧
    (∀ p w, s.trust.proposal = some p → p.complete = some w → max s.now t < w + 86400000000000 →
      exec (.proposalExpiry t) s = .next (s.begin t))

/-! The Negative -/

/-- The scribe writes the oldest queued record under the next number, chained to its predecessor: both banks hold it, in the pinned area for a
FAULT record of level 3 or 4 while that has room, else as the newest of the ring (R388, R390, R394, R396). A record made while its bucket
is empty is not written and is counted; without a token no FAULT record of level 0 to 2, no REPEAT and no EVENT record joins the queue,
every other record does (R393). K signs the chain head for the first reason that is due: everything queued is written first, and the head
signed covers it; 18 CHAIN_SIGNATURE records follow, and the count of unsigned records starts anew (R395). Readings of the model: log 65. -/
def Obligations.NegativeWritten : Prop :=
  (∀ (s : State) (t : Time) (r : Record) (rest : List Record), s.neg.queue = r :: rest → s.scribe.isSome = true →
    s.neg.closed = false → s.neg.next ≠ 0xFFFFFFFF → s.writable 0 1 = true → s.writable 0 2 = true →
    ∀ torn : BitVec 2, Completes (.negativeRecordWrite ⟨t, torn⟩) s fun u => ∃ w : Record,
      w.number = s.neg.next ∧ w.prevHash = s.neg.head ∧ w.pinnedHash = s.neg.pinnedHead ∧ w.suppressed = s.neg.suppressed ∧
      w.kind = r.kind ∧ w.level = r.level ∧ w.source = r.source ∧ w.detail = r.detail ∧
      u.neg.queue = rest ∧ u.neg.next = s.neg.next + 1 ∧ u.neg.headNumber = w.number ∧
      u.neg.head = Config.sha3 (recordBytes w) ∧ u.neg.suppressed = 0 ∧
      (r.kind = 1 → 3 ≤ r.level → s.neg.bank1.pinned.length < 4096 → s.neg.bank2.pinned.length < 4096 →
        u.neg.bank1.pinned = s.neg.bank1.pinned ++ [w] ∧ u.neg.bank2.pinned = s.neg.bank2.pinned ++ [w] ∧
        u.neg.bank1.ring = s.neg.bank1.ring ∧ u.neg.pinnedHead = u.neg.head) ∧
      (r.kind ≠ 1 ∨ r.level < 3 → u.neg.bank1.ring.getLast? = some w ∧ u.neg.bank2.ring.getLast? = some w ∧
        u.neg.bank1.pinned = s.neg.bank1.pinned ∧ u.neg.pinnedHead = s.neg.pinnedHead) ∧
      (torn = 0 → u.neg.bank1.torn = s.neg.bank1.torn ∧ u.neg.bank2.torn = s.neg.bank2.torn) ∧
      u = { s.begin t with neg := u.neg }) ∧
  (∀ (s : State) (r : Record), s.neg.closed = false → (s.neg.refilled s.now).tokens = 0 → s.neg.suppressed ≠ 0xFFFF →
    ((r.kind = 1 ∧ r.level ≤ 2) ∨ r.kind = 2 ∨ r.kind = 3 →
      (s.record r).neg.queue = s.neg.queue ∧ (s.record r).neg.suppressed = s.neg.suppressed + 1) ∧
    (¬((r.kind = 1 ∧ r.level ≤ 2) ∨ r.kind = 2 ∨ r.kind = 3) →
      (s.record r).neg.queue = s.neg.queue ++ [s.fillRecord r] ∧ (s.record r).neg.suppressed = s.neg.suppressed)) ∧
  (∀ (s : State) (t : Time) (reason : Byte) (rest : List Byte), s.neg.reasons = reason :: rest → s.kWorks = true →
    s.trust.erased = false → s.neg.closed = false → s.neg.next.toNat + s.neg.queue.length + 19 < 0xFFFFFFFF →
    s.neg.next = s.neg.headNumber + 1 →
    Completes (.chainHeadSign t) s fun u =>
      u.neg.queue = [] ∧ u.neg.sinceSigned = 0 ∧ rest <+: u.neg.reasons ∧
      (∃ n h, u.neg.blocks = s.neg.blocks ++ [(n, h)] ∧ u.neg.headNumber = n + 18) ∧
      u = { s.begin t with neg := u.neg })

/-! The Densitometer -/

/-- A counter at its maximum that would pass it saturates: every counter of its chain holds the maximum, and OVF shows on the last one only
(R472, R473). At a sample tick every counter in threshold mode whose resource exceeds its threshold adds 1, and no other counter moves; a
lane that does not count has no tick (R469, R470, R472). -/
def Obligations.CountersCount : Prop :=
  (∀ (s : State) (t : Time) (l : Lane) (i j : Fin 32) (cs : List Counter), i ≤ j → (s.lane l).counters = cs →
    cs.length = 32 → (∀ k c, i.val ≤ k → k ≤ j.val → cs[k]? = some c → c.value = 0xFFFFFFFFFFFF) →
    (∀ k c, i.val ≤ k → k < j.val → cs[k]? = some c → c.chain = true) →
    (∀ c, cs[j.val]? = some c → c.chain = false) → (∀ c, cs[i.val]? = some c → c.mode ≠ 0) →
    Completes (.counterSaturation t l i) s fun u =>
      (∀ c, cs[j.val]? = some c → (u.lane l).counters[j.val]? = some { c with ovf := true }) ∧
      (∀ k, k ≠ j.val → (u.lane l).counters[k]? = cs[k]?) ∧ (∀ k, k ≠ l → u.lane k = s.lane k)) ∧
  (∀ (s : State) (t : Time) (l : Lane), (∀ c ∈ (s.lane l).counters, c.chain = false ∧ c.value ≠ 0xFFFFFFFFFFFF) →
    (s.lane l).counters.length = 32 → s.test = none →
    ((s.lane l).phase.live = true → exec (.densitometerSampleTick t l) s = .next ((s.begin t).modLane l fun r =>
      { r with counters := r.counters.map fun c =>
          if c.mode = 1 ∧ c.threshold.toNat < (s.begin t).resource l c.source.toNat then { c with value := c.value + 1 } else c })) ∧
    ((s.lane l).phase.live = false → exec (.densitometerSampleTick t l) s = .next (s.begin t)))

/-! Local field I/O -/

/-- A valid frame from a field board is taken: samples, status and counter of the lane's board are those of the frame, the feed measured is
kept, and the lane's next frame leaves with what it commands (R334, R337, R338, R339, R340). A stale or invalid frame changes no sample;
the third in a row reports 0x050 and resets the crossing, in whose shadow no frame leaves (R340, R375, R379). -/
def Obligations.FieldFrames : Prop :=
  (∀ (s : State) (t : Time) (l : Lane) (f : InFrame), s.crosses l = true → s.test = none → s.flt.injection = none → (s.paired = false ∨ s.holdsLamp = true) →
    f.kind = 0xA5 → f.status = 0 → f.reserved = 0 → f.supply.toNat < 12 → 1950 ≤ f.voltage.toNat → f.check = crc32c f.bytes →
    (∀ c, (s.lane l).board.inCtr = some c → 1 ≤ (f.counter - c).toNat ∧ (f.counter - c).toNat ≤ 3) →
    (s.lane l).board.groups.length = 12 →
    (∀ g, (s.lane l).board.groups[f.supply.toNat]? = some g → g.state = .normal ∧ g.busLow = false) →
    Completes (.inboundFieldFrame t l f) s fun u =>
      (u.lane l).board.raw = f.raw ∧ (u.lane l).board.debounced = f.debounced ∧ (u.lane l).board.stale = 0 ∧
      (u.lane l).board.inCtr = some f.counter ∧ (u.lane l).board.cmdSwitches = (s.lane l).board.cmdSwitches ∧
      (∃ g, (u.lane l).board.groups[f.supply.toNat]? = some g ∧ g.feed = f.voltage.toNat ∧ g.state = .normal) ∧
      (∃ o : OutFrame, u.outbox = [.frame l o] ∧ o.counter = (s.lane l).board.outCtr + 1 ∧
        o.switches = (s.lane l).board.cmdSwitches ∧ o.cutoffs = (s.lane l).board.cmdCutoffs.setWidth 16 ∧
        o.check = crc32c o.bytes) ∧
      (u.lane l).phase = (s.lane l).phase ∧ (∀ k, k ≠ l → u.lane k = s.lane k) ∧ u.cyc = s.cyc ∧ u.net = s.net) ∧
  (∀ (s : State) (t : Time) (l : Lane), s.crosses l = true → (s.lane l).board.stale < 250 →
    (∀ c, c = .staleFrame t l ∨ (∃ f : InFrame, c = .inboundFieldFrame t l f ∧ f.check ≠ crc32c f.bytes) →
      ((s.lane l).board.stale < 2 →
        Completes c s fun u =>
          (u.lane l).board.stale = (s.lane l).board.stale + 1 ∧ (u.lane l).board.raw = (s.lane l).board.raw ∧
          (u.lane l).board.debounced = (s.lane l).board.debounced ∧ u.outbox.length = 1 ∧
          (∀ k, k ≠ l → u.lane k = s.lane k) ∧ u.dies = s.dies) ∧
      (2 ≤ (s.lane l).board.stale → s.baseline l 0x050 → s.calm → s.heldWithout none →
        (s.begin t).fourthReset (.crossing l) = false →
        Completes c s fun u =>
          (u.lane l).bath.sticky = (s.lane l).bath.sticky ||| srcBit 0x050 ∧ (u.lane l).phase = (s.lane l).phase ∧
          u.dies.resets = s.dies.resets.filter (fun x => x.1 ≠ .crossing l) ++ [(.crossing l, u.now)] ∧ u.outbox = [] ∧
          (u.lane l).board.debounced = (s.lane l).board.debounced ∧ ∀ k, k ≠ l → u.lane k = s.lane k)))

/-- A field board with supply takes a valid frame's switches and cut-offs, keeps what it has on an invalid one, and turns all off
after 100 us without a valid one; a channel is energised where the switches of two lanes or more are closed (R44, R325, R340). -/
def Obligations.BoardFollowsItsLane : Prop :=
  ∀ (s : State) (t : Time) (l : Lane), s.v.power.phase ≠ .off →
    (∀ f : OutFrame, f.kind = 0x5A → f.reserved1 = 0 → f.reserved2 = 0 → f.cutoffs &&& 0xF000 = 0 → f.check = crc32c f.bytes →
      (∀ c, (s.lane l).board.boardCtr = some c → 1 ≤ (f.counter - c).toNat ∧ (f.counter - c).toNat ≤ 3) →
      exec (.outboundFieldFrame t l f) s = .next ((s.begin t).modLane l fun r => { r with board := { r.board with
        boardCtr := some f.counter, switches := f.switches, cutoffs := f.cutoffs.setWidth 12, lastRx := some (max s.now t) } })) ∧
    (∀ f : OutFrame, f.check ≠ crc32c f.bytes → exec (.outboundFieldFrame t l f) s = .next (s.begin t)) ∧
    ((∀ w, (s.lane l).board.lastRx = some w → w + 100000 ≤ t) →
      exec (.fieldBoardWatchdog t l) s =
        .next ((s.begin t).modLane l fun r => { r with board := { r.board with switches := 0, cutoffs := 0 } })) ∧
    (∀ w, (s.lane l).board.lastRx = some w → max s.now t < w + 100000 →
      exec (.fieldBoardWatchdog t l) s = .next (s.begin t)) ∧
    ∀ ch : Fin 96, s.terminals.getLsbD ch.val =
      decide (2 ≤ (Lane.all.filter fun k => (s.lane k).board.switches.getLsbD ch.val).length)

/-- The debounced value of a channel follows its raw sample once that has held throughout the channel's debounce time, and no
sooner; nothing follows while a Test Strip slice freezes the channel's group (R322, R323, R452). -/
def Obligations.DebounceFollowsRaw : Prop :=
  ∀ (s : State) (t since : Time) (l : Lane) (ch : Fin 96), s.crosses l = true →
    (s.lane l).board.changing.find? (fun x => x.1 = ch.val) = some (ch.val, since) →
    ((s.begin t).sliceMask.getLsbD ch.val = false → since + (s.image.channel ch.val).debounce * 1000 ≤ t →
      Completes (.debounceExpiry t l ch) s fun u =>
        (u.lane l).board.debounced.getLsbD ch.val = (s.lane l).board.raw.getLsbD ch.val ∧
        (∀ j, j ≠ ch.val → (u.lane l).board.debounced.getLsbD j = (s.lane l).board.debounced.getLsbD j) ∧
        (u.lane l).board.changing = (s.lane l).board.changing.filter (fun x => x.1 ≠ ch.val) ∧
        (u.lane l).board.raw = (s.lane l).board.raw ∧ (∀ k, k ≠ l → u.lane k = s.lane k)) ∧
    ((s.begin t).sliceMask.getLsbD ch.val = true ∨ max s.now t < since + (s.image.channel ch.val).debounce * 1000 →
      exec (.debounceExpiry t l ch) s = .next (s.begin t))

/-- The third feed sample below 17.0 V in a row makes a group SAGGED: its cut-off and its switches are commanded off, its source is noted, and
FIELD_FAULT is set; 100 ms at 19.5 V or more bring it back (R326, R327, R335, R341). A cut-off that has been commanded open for 10 ms
while its bus still stands at 5.0 V or more is noted as stuck (R327); a paired output that the holder keeps on and that shows no dark
sample in 4,000 ms is marked INVALID at the other module (R344). -/
def Obligations.GroupChecks : Prop :=
  (∀ (s : State) (t : Time) (l : Lane) (g : Fin 12) (x : Group), (s.lane l).board.groups[g.val]? = some x →
    (∀ f : InFrame, s.crosses l = true → s.test = none → (s.paired = false ∨ s.holdsLamp = true) →
      f.kind = 0xA5 → f.status = 0 → f.reserved = 0 → f.supply.toNat = g.val → f.voltage.toNat < 1700 →
      f.check = crc32c f.bytes → (s.lane l).board.inCtr = none → x.low170 = 2 → x.state ≠ .sagged →
      s.baseline l (0x160 + g.val) → s.calm → s.heldWithout none →
      Completes (.inboundFieldFrame t l f) s fun u =>
        (∃ y, (u.lane l).board.groups[g.val]? = some y ∧ y.state = .sagged ∧ y.saggedAt = some u.now) ∧
        (u.lane l).board.cmdCutoffs.getLsbD g.val = false ∧ (u.lane l).board.cmdSwitches &&& groupMask g.val = 0 ∧
        (u.lane l).bath.sticky = (s.lane l).bath.sticky ||| srcBit (0x160 + g.val) ∧ u.fio.fieldFault = true ∧
        (u.lane l).phase = (s.lane l).phase ∧ ∀ k, k ≠ l → u.lane k = s.lane k) ∧
    (∀ w, x.goodSince = some w → w + 100000000 ≤ t →
      Completes (.groupFeedRecovery t l g) s fun u =>
        (u.lane l).board.groups[g.val]? = some { x with state := .normal, saggedAt := none, low192 := 0, low170 := 0 } ∧
        (∀ j, j ≠ g.val → (u.lane l).board.groups[j]? = (s.lane l).board.groups[j]?) ∧ ∀ k, k ≠ l → u.lane k = s.lane k) ∧
    ((∀ w, x.goodSince = some w → max s.now t < w + 100000000) →
      Completes (.groupFeedRecovery t l g) s fun u => (u.lane l).board = (s.lane l).board ∧ ∀ k, k ≠ l → u.lane k = s.lane k)) ∧
  (∀ (s : State) (t : Time) (l : Lane), (s.lane l).phase.live = true → s.calm → s.heldWithout none →
    (∀ (g : Fin 12) (x : Group) (w : Time), (s.lane l).board.groups[g.val]? = some x → x.openedAt = some w →
      ((s.lane l).board.cmdCutoffs.getLsbD g.val = false → w + 10000000 ≤ t → 500 ≤ x.bus → s.baseline l (0x160 + g.val) →
        Completes (.cutoffStuck t l g) s fun u =>
          (∃ y, (u.lane l).board.groups[g.val]? = some y ∧ y.stuck = true ∧ y.state = x.state ∧ y.bus = x.bus) ∧
          u.fio.fieldFault = true ∧
          (u.lane l).bath.sticky = (s.lane l).bath.sticky ||| srcBit (0x160 + g.val) ∧ ∀ k, k ≠ l → u.lane k = s.lane k) ∧
      ((s.lane l).board.cmdCutoffs.getLsbD g.val = true ∨ max s.now t < w + 10000000 ∨ x.bus < 500 →
        exec (.cutoffStuck t l g) s = .next (s.begin t))) ∧
    (∀ (ch : Fin 96) (w : Time), (s.lane l).board.lastDark.find? (fun x => x.1 = ch.val) = some (ch.val, w) →
      (s.paired = true → s.holdsLamp = false → (s.image.channel ch.val).mode = .paired →
        s.pair.mirror.lastOut.getLsbD ch.val = true → (s.lane l).board.raw.getLsbD ch.val = true → w + 4000000000 ≤ t →
        s.baseline l (0x100 + ch.val) → Completes (.pairedNoDark t l ch) s fun u =>
          (u.lane l).board.marks = (s.lane l).board.marks ||| chBit ch.val ∧ u.fio.fieldFault = true ∧
          (u.lane l).bath.sticky = (s.lane l).bath.sticky ||| srcBit (0x100 + ch.val) ∧ ∀ k, k ≠ l → u.lane k = s.lane k) ∧
      (s.paired = false ∨ s.holdsLamp = true ∨ (s.image.channel ch.val).mode ≠ .paired ∨
        s.pair.mirror.lastOut.getLsbD ch.val = false ∨ max s.now t < w + 4000000000 →
        exec (.pairedNoDark t l ch) s = .next (s.begin t))))

/-- A Dark Pulse falls in its slot on the next eligible channel after the last one pulsed, and turns through the pairs, with three
lanes in VOTING as with two; where the samples are as they must be, nothing else follows but the count of the first 32 channels'
pulses. A channel that stays high in a lane's dark window is marked INVALID there and noted. Before its time, past the slots of a
cycle, with no eligible channel or with fewer than two lanes in VOTING there is no pulse (R330, R331, R333). Readings of the model: log 68. -/
def Obligations.DarkPulseTests : Prop :=
  ∀ (s : State) (t from_ : Time) (slot : Nat) (a b c : PulseSamples), s.fio.pulseFrom = some from_ →
    (max s.now t < from_ + 100000 + 400000 * slot ∨ s.pulseSlots ≤ slot ∨ s.pulsable = 0 ∨ s.votes < 2 →
      exec (.darkPulse t slot a b c) s = .next (s.begin t)) ∧
    (∀ ch : Nat, from_ + 100000 + 400000 * slot ≤ t → slot < s.pulseSlots → 2 ≤ s.votes → s.pulseNext = some ch →
      ch < 96 ∧ s.pulsable.getLsbD ch = true ∧
      ((∀ l ∈ s.voting, (samplesOf a b c l).darkHigh = false ∧ (samplesOf a b c l).fell = 0 ∧
          (s.votes = 3 → (samplesOf a b c l).pathLow = false)) → Completes (.darkPulse t slot a b c) s fun u =>
        u = { s.begin t with fio := u.fio, laneA := u.laneA, laneB := u.laneB, laneC := u.laneC } ∧
        u.fio = { s.fio with pulseLast := ch, pulsePair := setKey s.fio.pulsePair ch ((lookupOr s.fio.pulsePair ch 0 + 1) % 6) } ∧
        ∀ l, u.lane l = { s.lane l with counters := (u.lane l).counters } ∧ (32 ≤ ch → u.lane l = s.lane l)) ∧
      (∀ l ∈ s.voting, (samplesOf a b c l).darkHigh = true → (∀ k ∈ s.voting, k ≠ l → (samplesOf a b c k).darkHigh = false) →
        (∀ k ∈ s.voting, (samplesOf a b c k).fell = 0 ∧ (s.votes = 3 → (samplesOf a b c k).pathLow = false)) →
        s.calm → s.heldWithout none → s.baseline l (0x100 + ch) → Completes (.darkPulse t slot a b c) s fun u =>
          (u.lane l).board.marks = (s.lane l).board.marks ||| chBit ch ∧ (u.lane l).board.cmdSwitches.getLsbD ch = false ∧
          (u.lane l).bath.sticky = (s.lane l).bath.sticky ||| srcBit (0x100 + ch) ∧ (u.lane l).phase = (s.lane l).phase ∧
          (∀ k, k ≠ l → u.lane k = { s.lane k with counters := (u.lane k).counters }) ∧
          u.fio.fieldFault = true ∧ u.fio.pulseLast = ch))

/-! Nernel packets -/

/-- A command that passes the checks of R231 is admitted: its entry stands in its tray with the next admission number and the charges of
R234, ACCEPTED leaves in the session with its header check, its safety code and, in class S and TS, its tag, and the session's own
counters advance; nothing else changes (R208, R212, R213, R226, R230, R231, R232, R234). Readings of the model: logs 18, 98. -/
def Obligations.CommandAdmitted : Prop :=
  ∀ (c : Instr) (s : State) (op : Nat) (p : Pkt) (x : Session) (row : OpRow) (h : W32)
    (charges : List (Nat × Nat × Nat × Nat)) (cycle : Nat) (limit : Option Time), c.nernel = some (op, p) →
    (s.begin c.time).passes op p x row h → (s.begin c.time).roomFor op p x row charges cycle limit → x.lastSaid = false →
    Completes c s fun u =>
      (∃ e : Entry, u.net.entries = s.net.entries ++ [e] ∧ e.adm = s.net.nextAdm ∧ e.op = BitVec.ofNat 16 op ∧
        e.payload = p.payload ∧ e.sid = x.sid ∧ e.tray = p.tray ∧ e.prio = p.prio ∧ e.cmdSeq = p.seq ∧ e.arrived = u.now ∧
        e.limit = limit ∧ e.cycle = cycle ∧ e.done = false) ∧
      u.net.nextAdm = s.net.nextAdm + 1 ∧ u.net.charges = s.net.charges ++ charges ∧
      (∃ r : Reply, u.outbox = [.reply r] ∧ r.op = BitVec.ofNat 16 op ∧ r.sid = x.sid ∧ r.seq = x.tx + 1 ∧ r.port = x.port ∧
        r.payload = replyPrefix 0x01 p.seq s.net.nextAdm ∧ r.sc1.isSome = true ∧ r.sc2 = none ∧
        (x.legacy = false → r.check = crc32c r.head ∧ (r.tag.isSome = true ↔ 2 ≤ x.gclass.toNat))) ∧
      (∃ y, u.session? x.sid = some y ∧ y.h = h ∧ y.tx = x.tx + 1 ∧ y.aliveSeen = p.alive ∧ y.state = .opened) ∧
      u.net.sessions.filter (fun y => y.sid ≠ x.sid) = s.net.sessions.filter (fun y => y.sid ≠ x.sid) ∧
      u.net = { s.net with entries := u.net.entries, nextAdm := u.net.nextAdm, charges := u.net.charges,
                           sessions := u.net.sessions } ∧
      u = { s with now := max s.now c.time, outbox := u.outbox, net := u.net, neg := u.neg,
                   v.ptp.unchecked := u.v.ptp.unchecked }

/-- The first check of R231 that fails decides the outcome: nothing is admitted, and the reply carries the status of that check; a
broken header and a duplicate leave no reply (R223, R231, R232). -/
def Obligations.FirstFailedCheckDecides : Prop :=
  ∀ (c : Instr) (s : State) (op : Nat) (p : Pkt), c.nernel = some (op, p) → (s.begin c.time).portUsable p.port = true →
    (p.headerOk op = false →
      Completes c s fun u => u = { (s.begin c.time) with net := u.net } ∧ u.net.entries = s.net.entries ∧
        u.net.sessions = s.net.sessions) ∧
    (p.versionOk = true → p.headerOk op = true →
      (s.session? p.sid = none → Completes c s fun u => s.refusedWith u op 0x33) ∧
      (∀ x row, s.session? p.sid = some x → opRow op s.ps.lease = some row → x.lastSaid = false → s.sessionOk x p op row = false →
        Completes c s fun u => s.refusedWith u op 0x33) ∧
      (∀ x row, s.session? p.sid = some x → opRow op s.ps.lease = some row → x.lastSaid = false → s.sessionOk x p op row = true →
        (2 ≤ x.gclass.toNat → p.flag 4 = false ∨ p.tagOk x op = false → Completes c s fun u => s.refusedWith u op 0x34) ∧
        ((2 ≤ x.gclass.toNat → p.flag 4 = true ∧ p.tagOk x op = true) →
          (p.flagsOk op x.gclass = false → Completes c s fun u => s.refusedWith u op 0x30) ∧
          (p.flagsOk op x.gclass = true → p.flag 2 = true → p.scOk op = false →
            Completes c s fun u => s.refusedWith u op 0x31) ∧
          (p.flagsOk op x.gclass = true → p.scOk op = true →
            (seqCheck x.legacy x.h p.seq = .duplicate → exec c s = .next (s.begin c.time)) ∧
            (seqCheck x.legacy x.h p.seq = .refused → Completes c s fun u => s.refusedWith u op 0x32) ∧
            (seqCheck x.legacy x.h p.seq = .wrap → Completes c s fun u => s.refusedWith u op 0x32 ∧
              ∃ y, u.session? p.sid = some y ∧ y.closeDue = true ∧ y.state = .closing) ∧
            (∀ h, seqCheck x.legacy x.h p.seq = .accepted h →
              counterIn 0 15 x.aliveSeen p.alive = false ∨ (s.begin c.time).stampOk x p.stamp = false →
              Completes c s fun u => s.refusedWith u op 0x32) ∧
            (∀ h, seqCheck x.legacy x.h p.seq = .accepted h → counterIn 0 15 x.aliveSeen p.alive = true →
              (s.begin c.time).stampOk x p.stamp = true →
              p.length.toNat ≠ p.payload.length ∨ p.reserved ≠ 0 ∨ 64 ≤ p.session.toNat →
              Completes c s fun u => s.refusedWith u op 0x30) ∧
            (∀ h, seqCheck x.legacy x.h p.seq = .accepted h → counterIn 0 15 x.aliveSeen p.alive = true →
              (s.begin c.time).stampOk x p.stamp = true → p.length.toNat = p.payload.length → p.reserved = 0 →
              p.session.toNat < 64 →
              ((offence op p.payload).isSome = true → Completes c s fun u => s.refusedWith u op 0x30) ∧
              (offence op p.payload = none → (op / 256 = 1 ∨ op / 256 = 2) → s.cyc.mode = .stop →
                Completes c s fun u => s.refusedWith u op 0x12) ∧
              (offence op p.payload = none → (op / 256 = 1 ∨ op / 256 = 2) → s.cyc.mode = .run → s.paired = true →
                s.pair.role ≠ .active → Completes c s fun u => s.refusedWith u op 0x13))))))

/-! Sessions, field links and partners -/

/-- Opening a session (R217 to R219, R222, R265): the first part of an OPEN_1 that the partner entry permits begins an opening under the
lowest free ID, and in class 0 or 1 is accepted at once; one that no entry permits is refused with BAD_AUTH. The parts of class 2 or 3 are
put together; the last, where the key is the entry's, is answered by OPEN_2 in five parts. OPEN_3 is put together, and with its last
part the opening is accepted where the signature over the transcript hash verifies, else refused with BAD_AUTH and abandoned. Readings of
the model: logs 135, 136. -/
def Obligations.SessionOpens : Prop :=
  ∀ (s : State) (t : Time) (p : Pkt) (q : W32), (s.begin t).opensWith p →
    (∀ node pclass gclass, p.sid = 0 → p.part = 0 → s.openingOf p = none → seqCheck (p.version = 2) 0 p.seq = .accepted q →
      (∀ n, s.openerFresh p = some n → (s.begin t).stampFresh (p.version = 2) n p.stamp = true) →
      (2 ≤ p.flags.toNat % 4 → openOffence p 1 3 2536 = none) → (p.flags.toNat % 4 < 2 → openOffence p 1 1 40 = none) →
      fieldAt p.payload 36 3 = BitVec.toNat (w := 20) node →
      fieldAt p.payload 39 1 = BitVec.toNat (w := 2) pclass + 4 * BitVec.toNat (w := 2) gclass → fieldAt p.payload 42 2 = 0 →
      gclass.toNat = p.flags.toNat % 4 → (p.version = 2 → pclass = 0 ∧ gclass = 1) →
      max s.cs.p 10 ≤ fieldAt p.payload 40 2 → fieldAt p.payload 40 2 ≤ 10000 → s.openCount < 4 →
      (∀ g sid, s.grant p.port node pclass gclass = some g → s.freeId = some sid →
        Completes (.open1 t p) s fun u => ∃ o : Opening, u = { s.begin t with net.openings := s.net.openings ++ [o] } ∧
          o.sid = sid ∧ o.accepted = decide (gclass.toNat < 2) ∧ o.step = 1 ∧ o.parts = 1 ∧ o.node = node ∧ o.pclass = pclass ∧
          o.gclass = gclass ∧ o.port = p.port ∧ o.endpoint = p.endpoint ∧ o.periodMs = fieldAt p.payload 40 2 ∧ o.since = u.now ∧
          o.h = q ∧ o.content = p.payload.drop 4) ∧
      (s.grant p.port node pclass gclass = none →
        Completes (.open1 t p) s fun u => u.net = s.net ∧
          ∃ r : Reply, u.outbox = [.reply r] ∧ r.op = 0x0401 ∧ r.payload.head? = some 0x34)) ∧
    (∀ o ∈ s.net.openings, (∀ x ∈ s.net.openings, x.sid = o.sid → x = o) → p.part = o.parts → o.accepted = false →
      seqCheck (p.version = 2) o.h p.seq = .accepted q → counterIn 0 15 o.alive p.alive = true →
      (s.begin t).stampFresh (p.version = 2) o.freshMs p.stamp = true → ∀ content, content = o.content ++ p.payload.drop 4 →
      (s.openingOf p = some o → p.sid = 0 → 1 ≤ p.part → 2 ≤ p.flags.toNat % 4 → 2 ≤ o.gclass.toNat → openOffence p 1 3 2536 = none →
        (p.part = 1 → Completes (.open1 t p) s fun u => u = { s.begin t with net.openings := u.net.openings } ∧ ∀ x,
          x ∈ u.net.openings ↔ x = { o with parts := 2, h := q, alive := p.alive, content := content } ∨ (x ∈ s.net.openings ∧ x ≠ o)) ∧
        (∀ g, p.part = 2 → s.grant o.port o.node o.pclass o.gclass = some g →
          (g.key = none ∨ g.key = some (Config.sha3 (slice content 40 1312)) → Completes (.open1 t p) s fun u =>
            (∃ y ∈ u.net.openings, y.sid = o.sid ∧ y.step = 2 ∧ y.parts = 0 ∧ y.h = q ∧ y.accepted = false ∧ y.tray = g.tray ∧
              y.partnerKey = slice content 40 1312) ∧ (∀ x, x.sid ≠ o.sid → (x ∈ u.net.openings ↔ x ∈ s.net.openings)) ∧
            u.outbox.length = 5 ∧ (∀ x ∈ u.outbox, ∃ r : Reply, x = .reply r ∧ r.op = 0x0401 ∧ r.payload.length ≤ 1024) ∧
            u.freeCtr = s.freeCtr + 1) ∧
          (∀ k, g.key = some k → k ≠ Config.sha3 (slice content 40 1312) → Completes (.open1 t p) s fun u =>
            (∀ x, x ∈ u.net.openings ↔ x ∈ s.net.openings ∧ x ≠ o) ∧
            ∃ r : Reply, u.outbox = [.reply r] ∧ r.op = 0x0401 ∧ r.payload.head? = some 0x34))) ∧
      (p.sid = o.sid → o.step = 2 → o.port = p.port → o.endpoint = p.endpoint → o.pclass ≠ 2 → o.gclass.toNat = p.flags.toNat % 4 →
        openOffence p 3 3 2420 = none →
        (p.part < 2 → Completes (.open3 t p) s fun u => u = { s.begin t with net.openings := u.net.openings } ∧ ∀ x,
          x ∈ u.net.openings ↔
            x = { o with parts := p.part + 1, h := q, alive := p.alive, content := content } ∨ (x ∈ s.net.openings ∧ x ≠ o)) ∧
        (p.part = 2 →
          Completes (.open3 t p) s fun u =>
            if Config.verifies o.partnerKey o.transcript content = true then
              u = { s.begin t with net.openings := u.net.openings } ∧ ∀ x, x ∈ u.net.openings ↔
                x = { o with parts := 3, h := q, alive := p.alive, content := content, accepted := true } ∨
                  (x ∈ s.net.openings ∧ x ≠ o)
            else (∀ x, x ∈ u.net.openings ↔ x ∈ s.net.openings ∧ x ≠ o) ∧
              ∃ r : Reply, u.outbox = [.reply r] ∧ r.op = 0x0401 ∧ r.payload.head? = some 0x34)))

/-- A field link that comes up carries a CHALLENGE with a fresh nonce, and its quarantine is over; one that goes down carries nothing; the
CHALLENGE is repeated 200 ms after the last, no sooner; a quarantine ends after 60 s, no sooner (R297, R301, R308). Discovery (R297, R298,
R300, R301): the first part of a HELLO that answers the CHALLENGE begins an opening, the next are put together; with the last part a HELLO
that matches the expected partners brings a session under the lowest free ID and a WELCOME in parts, any other quarantines the link for
the first reason that holds. Readings of the model: log 110. -/
def Obligations.FieldLinkMoves : Prop :=
  (∀ (s : State) (t : Time) (i : Fin 48) (said : FieldSent), s.tabled → s.linkHasSession i.val = false → s.test = none →
    said = (s.begin t).linkMessage i.val 3 0 0 0 (beBytes 32 (Config.entropy s.freeCtr).toNat ++ beBytes 3 Config.ownNode.toNat ++ [0]) →
    (s.dieUp (portDie (.f i)) = true → (s.link i.val).port.outOfService = false → s.trust.cfg.lifecycle ≠ .blank →
      Completes (.fieldLinkUp t i) s fun u =>
        (u.link i.val).port.up = true ∧ (u.link i.val).downSince = none ∧ (u.link i.val).quarantine = none ∧
        (u.link i.val).challenge = some (Config.entropy s.freeCtr, u.now) ∧ (∀ j, j ≠ i.val → u.link j = s.link j) ∧
        u = { s.begin t with net.links := u.net.links, freeCtr := s.freeCtr + 1, outbox := [.field said] }) ∧
    (Completes (.fieldLinkDown t i) s fun u =>
      (u.link i.val).port.up = false ∧ (u.link i.val).downSince = some ((s.link i.val).downSince.getD u.now) ∧
      (u.link i.val).challenge = none ∧ (∀ j, j ≠ i.val → u.link j = s.link j) ∧
      u = { s.begin t with net.links := u.net.links }) ∧
    (∀ n w, (s.link i.val).challenge = some (n, w) → (s.link i.val).helloSince = none → (s.link i.val).quarantine = none →
      (w + 200000000 ≤ t → (s.begin t).portUsable (.f i) = true → Completes (.challengeRepeat t i) s fun u =>
        (u.link i.val).challenge = some (Config.entropy s.freeCtr, u.now) ∧ (∀ j, j ≠ i.val → u.link j = s.link j) ∧
        u = { s.begin t with net.links := u.net.links, freeCtr := s.freeCtr + 1, outbox := [.field said] }) ∧
      (max s.now t < w + 200000000 → exec (.challengeRepeat t i) s = .next (s.begin t))) ∧
    (∀ w r, (s.link i.val).quarantine = some (w, r) →
      (w + 60000000000 ≤ t → Completes (.quarantineEnd t i) s fun u =>
        (u.link i.val).quarantine = none ∧ (∀ j, j ≠ i.val → u.link j = s.link j) ∧ u.net.sessions = s.net.sessions) ∧
      (max s.now t < w + 60000000000 → exec (.quarantineEnd t i) s = .next (s.begin t)))) ∧
  (∀ (s : State) (t : Time) (i : Fin 48) (m : FieldMsg) (c : Hash) (w : Time) (q : W32) (k : LinkRec) (n : Nat), k = s.link i.val →
    n = fieldAt m.content 1 1 → s.tabled → (s.begin t).portUsable (.f i) = true → k.quarantine = none → k.challenge = some (c, w) →
    m.helloPart (helloClass k m) = true →
    (n = 0 → s.openCount < 4 → seqCheck false 0 m.seq = .accepted q → Completes (.hello t i m) s fun u =>
      u.link i.val = { k with helloSince := some u.now, helloParts := 1, helloBytes := m.content.drop 4, helloSeq := q } ∧
      (∀ j, j ≠ i.val → u.link j = s.link j) ∧ u = { s.begin t with net.links := u.net.links }) ∧
    (n ≠ 0 → n = k.helloParts → k.helloSince.isSome = true → seqCheck false k.helloSeq m.seq = .accepted q →
      ∀ l, l = k.helloBytes ++ m.content.drop 4 →
      (n + 1 < helloCount (helloClass k m) → Completes (.hello t i m) s fun u =>
        u.link i.val = { k with helloParts := n + 1, helloBytes := l, helloSeq := q } ∧
        (∀ j, j ≠ i.val → u.link j = s.link j) ∧ u = { s.begin t with net.links := u.net.links }) ∧
      (n + 1 = helloCount (helloClass k m) → helloReservedOk l = true →
        (∀ sid, s.helloReason i c (hello l) = 0 ∨ s.helloReason i c (hello l) = 4 → s.freeId = some sid → Completes (.hello t i m) s fun u =>
          s.helloReason i c (hello l) = 0 →
          (∃ o : Opening, u.net.openings = s.net.openings ++ [o] ∧ o.accepted = true ∧ o.sid = sid ∧ o.node = (hello l).node ∧
            o.pclass = 2 ∧ o.gclass = (hello l).cls ∧ o.port = .f i ∧ o.since = u.now ∧ o.tray = 12 + sid % 3 ∧ o.h = q) ∧
          (u.link i.val).challenge = none ∧ (u.link i.val).helloSince = none ∧ (∀ j, j ≠ i.val → u.link j = s.link j) ∧
          u.outbox.length = helloCount (hello l).cls.toNat ∧
          (∀ x ∈ u.outbox, ∃ r : FieldSent, x = .field r ∧ r.port = .f i ∧ r.kind = 5 ∧ r.content.length ≤ 1020) ∧
          u = { s.begin t with
            net.links := u.net.links, net.openings := u.net.openings, freeCtr := s.freeCtr + 1, outbox := u.outbox }) ∧
        (s.helloReason i c (hello l) ≠ 0 → Completes (.hello t i m) s fun u =>
          (u.link i.val).quarantine = some (u.now, s.helloReason i c (hello l)) ∧ (u.link i.val).challenge = none ∧
          (∀ j, j ≠ i.val → u.link j = s.link j) ∧ u.net.openings = s.net.openings ∧ u.net.sessions = s.net.sessions ∧
          u.outbox = []))))

/-- Supervision of sessions: an opening is abandoned after 2,000 ms (R222); K_s supervision periods without a new alive value close a
HOST, NEIGHBOUR or SERVICE session (R224); K cycles without a qualified telegram declare a FIELD partner lost (R307), K periods a
neighbour (R313); a lost FIELD partner's session closes after 60 s, or 1 s after its link went down (R308). Before its time each command
does nothing to the session. Readings of the model: log 100. -/
def Obligations.SessionSupervision : Prop :=
  (∀ (s : State) (t : Time) (sid : Nat), Completes (.openingAbandoned t sid) s fun u =>
    (∀ o, o ∈ u.net.openings ↔ o ∈ s.net.openings ∧ (o.sid ≠ sid ∨ u.now < o.since + 2000000000)) ∧
    (∀ i w, (s.link i).helloSince = some w → w + 2000000000 ≤ u.now → (u.link i).helloSince = none ∧ (u.link i).port = (s.link i).port) ∧
    (∀ i, (∀ w, (s.link i).helloSince = some w → u.now < w + 2000000000) → u.link i = s.link i) ∧
    u = { s.begin t with net.links := u.net.links, net.openings := u.net.openings }) ∧
  (∀ (s : State) (t : Time) (sid : Nat) (x : Session), s.session? sid = some x →
    (x.pclass ≠ 2 → 0 < x.periodMs → 0 < x.ks → Completes (.sessionAliveExpiry t sid) s fun u =>
      (x.aliveIn + x.ks * (x.periodMs * 1000000) ≤ u.now → ∃ n, u.session? sid = some { x.close with missed := n }) ∧
      (u.now < x.aliveIn + x.ks * (x.periodMs * 1000000) → ∃ n, u.session? sid = some { x with missed := n } ∧ n < x.ks) ∧
      u.net.sessions.filter (fun y => y.sid ≠ sid) = s.net.sessions.filter (fun y => y.sid ≠ sid) ∧
      u = { s.begin t with net.sessions := u.net.sessions }) ∧
    (x.pclass = 2 → Completes (.sessionAliveExpiry t sid) s fun u => u.session? sid = some x ∧
      u = { s.begin t with net.sessions := u.net.sessions })) ∧
  (∀ (s : State) (t : Time) (sid : Nat) (x : Session), s.session? sid = some x → x.lost = false → (x.pclass = 1 ∨ x.pclass = 2) →
    s.dieOut (portDie x.port) = false →
    ((x.pclass = 2 ∧ x.ks ≤ x.missed) ∨ (x.pclass = 1 ∧ x.lastQualifiedAt + x.ks * x.periodMs * 1000000 ≤ t) →
      Completes (.partnerLost t sid) s fun u =>
        u.session? sid = some { x with lost := true, lostSince := u.now } ∧
        (∀ e, e ∈ u.net.entries ↔ e ∈ s.net.entries ∧ ¬ (e.isElem = true ∧ (boundObjects s.image x.node).contains e.oid = true)) ∧
        (∀ e ∈ s.net.entries, e ∉ u.net.entries → ∃ a ∈ u.net.answers, a.adm = e.adm ∧ a.status = 0x41) ∧
        u.rail = s.rail ∧ u.cyc = s.cyc ∧ u.pair = s.pair ∧ u.outbox = []) ∧
    ((x.pclass = 2 ∧ x.missed < x.ks) ∨ (x.pclass = 1 ∧ max s.now t < x.lastQualifiedAt + x.ks * x.periodMs * 1000000) →
      exec (.partnerLost t sid) s = .next (s.begin t))) ∧
  (∀ (s : State) (t : Time) (sid : Nat) (x : Session) (i : Fin 48), s.session? sid = some x → x.pclass = 2 → x.port = .f i →
    (x.lost = true → x.lostSince + 60000000000 ≤ t ∨ (∃ w, (s.link i.val).downSince = some w ∧ w + 1000000000 ≤ t) →
      Completes (.fieldSessionCloseTimeout t sid) s fun u => u.session? sid = some x.close ∧
        u = { s.begin t with net.sessions := u.net.sessions }) ∧
    (x.lost = false ∨ (max s.now t < x.lostSince + 60000000000 ∧ (∀ w, (s.link i.val).downSince = some w → max s.now t < w + 1000000000)) →
      exec (.fieldSessionCloseTimeout t sid) s = .next (s.begin t)))

/-- Field messages: an EVENT that passes its checks is admitted as a cut command and answered at once (R309); a TELEGRAM of a partner or a
neighbour that passes checks 1 to 4 of R304 is held for the freeze, and moves nothing else of the railway; one with a wrong safety code is
counted and held nowhere; of datagrams that are no command, one with an unknown opcode passes checks 1 to 5 like any other and is then
refused in its session, and any other is counted (R231, R243). Readings of the model: logs 108, 109. -/
def Obligations.FieldMessagesTaken : Prop :=
  ∀ (s : State) (t : Time) (m : FieldMsg) (x : Session), (s.begin t).portUsable m.port = true → s.quarantined m.port = false →
    s.session? m.sid = some x → x.state = .opened → x.port = m.port → x.node.toNat = m.node.toNat →
    (∀ h charges cycle limit, x.pclass = 2 → m.headerOk 0x06 = true → m.scOk 0x06 = true → m.tagOk x 0x06 = true →
      seqCheck false x.h m.seq = .accepted h → m.reservedOk = true → m.content.length = 8 → m.length = 8 → fieldAt m.content 0 2 ≤ 252 →
      fieldAt m.content 2 2 = 0 → (s.begin t).admission (eventAsk x) m.content = .inr (charges, cycle, limit) →
      Completes (.event t m) s fun u =>
        (∃ e : Entry, u.net.entries = s.net.entries ++ [e] ∧ e.adm = s.net.nextAdm ∧ e.op = 0 ∧ e.payload = m.content ∧
          e.node = x.node ∧ e.tray = x.tray ∧ e.prio = 8 ∧ e.arrived = u.now ∧ e.limit = limit) ∧
        u.net.nextAdm = s.net.nextAdm + 1 ∧ (∃ r : FieldSent, u.outbox = [.field r] ∧ r.port = m.port ∧ r.kind = 7 ∧ r.sid = x.sid ∧
          r.seq = x.tx + 1 ∧ r.content = replyPrefix 0x01 m.seq s.net.nextAdm) ∧ u.rail = s.rail) ∧
    (∀ h epoch slots, (x.pclass = 2 ∨ (x.pclass = 1 ∧ x.carries m.port m.endpoint = true)) → m.headerOk 0x02 = true →
      m.reservedOk = true → m.length.toNat = m.content.length → m.tagOk x 0x02 = true → seqCheck false x.h m.seq = .accepted h →
      (∀ a, x.lastTelAlive = some a → counterIn 1 15 a m.alive = true) → telegramContent m.content = some (epoch, slots) →
      (m.scOk 0x02 = true → Completes (.partnerTelegram t m) s fun u =>
        (∃ (g : HeldTelegram) (y : Session), u.session? m.sid = some y ∧ y.h = h ∧ y.telegrams = g :: x.telegrams ∧
          y.refused = x.refused ∧ (x.pclass = 2 → y = { x with h := h, telegrams := g :: x.telegrams }) ∧ g.seq = m.seq ∧
          g.alive = m.alive ∧ g.echo = m.echo ∧ g.echoEpoch = epoch ∧ g.ownEpoch = m.ownEpoch ∧ g.slots = slots) ∧
        u = { s.begin t with net.sessions := u.net.sessions, pair.epochKnown := u.pair.epochKnown } ∧
        (s.holdsLamp = true → u.pair = s.pair) ∧ (s.holdsLamp = false → u.pair.epochKnown.toNat =
          max s.pair.epochKnown.toNat (max epoch.toNat m.ownEpoch.toNat))) ∧
      (m.scOk 0x02 = false → x.refused ≠ 0xFFFF → Completes (.partnerTelegram t m) s fun u =>
        u.session? m.sid = some { x with refused := x.refused + 1 } ∧ u.rail = s.rail ∧ u.cyc = s.cyc ∧ u.net.entries = s.net.entries)) ∧
    (∀ op p, opRow op.toNat s.ps.lease = none → op ≠ 0x0401 → p.versionOk = true → p.headerOk op.toNat = true → p.port = m.port →
      p.sid = m.sid → x.lastSaid = false →
      (∀ h, x.takes p = true → (2 ≤ x.gclass.toNat → p.flag 4 = true ∧ p.tagOk x op.toNat = true) → p.flagsOk op.toNat x.gclass = true →
        (p.flag 2 = true → p.scOk op.toNat = true) → seqCheck x.legacy x.h p.seq = .accepted h →
        counterIn 0 15 x.aliveSeen p.alive = true → (s.begin t).stampOk x p.stamp = true →
        Completes (.unrecognisedDatagram t m.port (.opcode op p)) s fun u => s.refusedWith u op.toNat 0x30 ∧
          ∃ y, u.session? m.sid = some y ∧ y.h = h ∧ y.tx = x.tx + 1 ∧ y.aliveSeen = p.alive ∧
            y.refused = if x.refused = 0xFFFF then 0xFFFF else x.refused + 1) ∧
      (x.takes p = false → Completes (.unrecognisedDatagram t m.port (.opcode op p)) s fun u => s.refusedWith u op.toNat 0x33)) ∧
    (∀ why, (∀ op p, why ≠ .opcode op p) → s.tabled → Completes (.unrecognisedDatagram t m.port why) s fun u =>
      (u.port m.port).discards = (s.port m.port).discards + 1 ∧ u.net.sessions = s.net.sessions ∧ u.net.entries = s.net.entries ∧
      u.outbox = [] ∧ u.rail = s.rail ∧ u.cyc = s.cyc)

/-! Timers of objects, routes and equations -/

/-- A timer of an object, a route or an equation that has run out at the time of the consensus image brings about, in the Develop of the
cycle in hand, what that Develop computes; outside a Develop, or before its time, its command does nothing (R59, R85, R95, R99,
R101, R105, R109, R130, R138, R142, R158; the model's own reading of such a row, log 21). -/
def Obligations.TimersActInDevelop : Prop :=
  ∀ (c : Instr) (s : State) (due : Ticks → Bool), (s.begin c.time).timerOf c = some due →
    (s.cyc.phase = .develop → s.cyc.dev = none → s.holdsLamp = true → due s.cyc.cons.time = true →
      exec c s = .next { s.begin c.time with cyc.dev := some (s.begin c.time).developResult }) ∧
    (s.cyc.phase ≠ .develop ∨ due s.cyc.cons.time = false → exec c s = .next (s.begin c.time))

/-- What the expiries do to their objects in the object step: a point that does not reach its position within its move time limit is
without position, with FAULT, and commanded nowhere (R95); a proceed aspect that differs for longer than its proving time falls to stop
with LAMP_FAULT, and a stop aspect without proof for longer gets STOP_UNPROVEN (R99); a section is CLEAR only when it has reported clear
for the clear delay (R101); a crossing not closed at the end of its closing time has FAILED, one that ends its warning time with its
lights proven closes, and with lights unproven has FAILED (R109). Readings of the model: log 39. -/
def Obligations.ObjectTimersExpire : Prop :=
  ∀ (e : Env) (r : Rail) (d : ObjDecl) (o : Obj), r.obj? d.oid = some o → o.lost = false → o.stale = false →
    (∀ limit facing z p, d.params = .point limit facing z → o.body = .point p → p.moving = true →
      limit ≤ (e.now - p.start) / 10000 → ∃ q y, (objectStep e d [] r).obj? d.oid = some y ∧ y.body = .point q ∧
        y.fault = true ∧ q.pos = 0 ∧ q.cmd = 0 ∧ q.moving = false ∧ y.lock = o.lock) ∧
    (∀ proving as x w, d.params = .signal proving as → o.body = .signal x → tk proving < e.now - w →
      (0 < proving → x.shownValid = true → x.shown ≠ x.cmd → x.cmd ≠ 0 → x.differSince = some w →
        ∃ q y, (objectStep e d [] r).obj? d.oid = some y ∧ y.body = .signal q ∧ y.fault = true ∧ q.cmd = 0 ∧ q.lampFault = true) ∧
      (x.cmd = 0 → x.unprovenSince = some w → (track e.now x).proven proving e.now = false →
        ∃ q y, (objectStep e d [] r).obj? d.oid = some y ∧ y.body = .signal q ∧ y.fault = true ∧ q.stopUnproven = true)) ∧
    (∀ delay direct x w (v : W64), d.params = .stretch delay false direct → o.body = .stretch x → x.occ = .occupied →
      x.clearSince = some w → v.toNat % 4 = 0 → ∃ q y, (objectStep e d [v] r).obj? d.oid = some y ∧ y.body = .stretch q ∧
        (tk delay ≤ e.now - w → q.occ = .clear) ∧ (e.now - w < tk delay → q.occ = .occupied)) ∧
    (∀ warning closing z x w, d.params = .crossing warning closing z → o.body = .crossing x → x.timerEnd = some w → w ≤ e.now →
      ∃ q y, (objectStep e d [] r).obj? d.oid = some y ∧ y.body = .crossing q ∧
        (x.state = .closing → ¬(x.down = true ∧ x.obstacleFree = true ∧ x.lightsOk = true) → q.state = .failed ∧ y.fault = true) ∧
        (x.state = .warning → x.lightsOk = true → q.state = .closing ∧ q.raise = false ∧ q.timerEnd = some (e.now + tk closing)) ∧
        (x.state = .warning → x.lightsOk = false → q.state = .failed ∧ y.fault = true))

/-! The cycle -/

/-- A lane's boundary (R47, R51, R55, R72, R188, R506): a lane not yet at this cycle's boundary freezes its debounced inputs, its tray
cut and its timebase, the reading also into its Latent Buffer, and sends them as its INPUT_IMAGE; the second lane's report brings the
pulse on SYNC-OUT where V drives it. A lane that has had this cycle's boundary begins the next cycle: where nothing is owed and nothing
takes effect, the cycle number advances, Expose begins, and errors of the channels count into their runs. -/
def Obligations.LanesFreeze : Prop :=
  ∀ (s v : State) (t : Time) (l : Lane) (reading : Ticks), s.alive = true → s.punctual t → (s.lane l).phase.exchanges = true →
    (laneIn s.cyc.visit l = false → s.cyc.phase = .expose → v = (s.begin t).visit l → (v.readbackAll l).pairedCheck l = v →
      Completes (.cycleBoundary t l reading) s fun u =>
        ∃ x : InputImage, x.cycle = s.cyc.cycle ∧ x.time = reading ∧ x.cut = s.net.nextAdm - 1 ∧
          x.values = (s.lane l).board.debounced ∧ (u.lane l).frozen = x ∧ (l, x) ∈ (u.lane l).heldIn ∧
          (u.lane l).boundary = u.now ∧ (u.lane l).reading = reading ∧ (u.lane l).retired = (s.lane l).retired + 1 ∧
          (∃ e ∈ (u.lane l).latent, e.value = BitVec.ofNat 64 reading ∧ e.index = (u.lane l).retired) ∧
          u.outbox = (if s.reported < 2 ∧ 2 ≤ u.reported ∧ (s.begin t).drivesSync = true then [.syncPulse] else []) ++
            [.laneWords l (laneMessage 1 l x.words)] ∧
          (∀ k, k ≠ l → u.lane k = s.lane k) ∧ u.cyc = { s.cyc with visit := s.cyc.visit ||| laneMask [l] } ∧
          u.net = s.net ∧ u.rail = s.rail ∧ u.neg = s.neg) ∧
    (laneIn s.cyc.visit l = true → 2 ≤ s.votes → (s.begin t).closeCycle = s.begin t → (s.begin t).boundaryEffects = s.begin t →
      s.cyc.mode ≠ .hold → v = ((s.begin t).turnCycle.selfRenew).visit l → (v.readbackAll l).pairedCheck l = v →
      Completes (.cycleBoundary t l reading) s fun u =>
        u.cyc = { s.cyc with
          cycle := s.nextCycle, start := u.now, visit := laneMask [l], voted := none, unmirrored := false, devJudged := false,
          armed := s.flt.injection.isSome, ready := s.cyc.settingsOk, dev := none, phase := .expose } ∧
        (s.v.strap = 0 → u.cyc.cycle = s.cyc.cycle + 1) ∧
        (u.lane l).frozen.cycle = u.cyc.cycle ∧ (u.lane l).frozen.values = (s.lane l).board.debounced ∧
        (∀ ch, (u.chan ch).run = (if (s.chan ch).error = true then (s.chan ch).run + 1 else 0) ∧ (u.chan ch).error = false))

/-- Messages between the lanes (R187, R188, R191): what a lane packs is what its receiver reads, for every kind, sender and body, and for
every INPUT_IMAGE whose fields have the widths of R188. -/
def Obligations.LaneMessagesRoundTrip : Prop :=
  (∀ (kind : Nat) (l : Lane) (body : List W32), kind < 16 → body.length + 2 < 2 ^ 20 →
    openMessage (laneMessage kind l body) = some (kind, l, body)) ∧
  (∀ x : InputImage, x.time < 2 ^ 64 → x.partners.length < 64 → (∀ p ∈ x.partners, p.sid < 64) → inputOf x.words = some x) ∧
  (∀ (m : SetMsg) (cycle : W48), cycleAt (m.words cycle) 0 = cycle ∧ bitOf (wordAt (m.words cycle) 2) 31 = m.rendezvous ∧
    BitVec.ofNat 3 (wordAt (m.words cycle) 2) = m.held)

/-- The exchange of Expose (R49, R187, R188, R191, R192): an INPUT_IMAGE from another lane is held in place of that sender's last; one
that comes after the lane's own Expose is not counted, and one that does not verify, or comes over the wrong channel, is an error of the
channel. E after its own boundary each lane closes its Expose and sends a SET naming what it holds. It keeps the SETs of the others that
come in time, and passes each that comes directly on once. -/
def Obligations.ExposeExchanges : Prop :=
  (∀ (s : State) (t : Time) (l k : Lane) (ch : Chan) (words : List W32), (s.begin t).injected (0x060 + Chan.idx ch) [] = false →
    (∀ x : InputImage, words = laneMessage 1 k x.words → x.words.length + 2 < 2 ^ 20 → inputOf x.words = some x → k ≠ l →
      (Chan.between l k = ch → (s.lane l).phase.exchanges = true → (s.chan ch).absent = false → (s.lane l).exposed l = false →
        max s.now t ≤ (s.lane l).boundary + s.exposeNs → exec (.inputImage t l ⟨ch, words⟩) s = .next ((s.begin t).modLane l fun r =>
          { r with heldIn := (k, x) :: r.heldIn.filter fun y => y.1 ≠ k })) ∧
      (Chan.between l k = ch → (s.lane l).phase.exchanges = false ∨ (s.chan ch).absent = true ∨ (s.lane l).exposed l = true ∨
        (s.lane l).boundary + s.exposeNs < max s.now t → exec (.inputImage t l ⟨ch, words⟩) s = .next (s.begin t)) ∧
      (Chan.between l k ≠ ch → (s.chan ch).error = true →
        exec (.inputImage t l ⟨ch, words⟩) s = .next ((s.begin t).modChan ch fun c => { c with absent := true }))) ∧
    ((∀ j body, openMessage words ≠ some (1, j, body)) → (s.chan ch).error = true →
      exec (.inputImage t l ⟨ch, words⟩) s = .next ((s.begin t).modChan ch fun c => { c with absent := true }))) ∧
  (∀ (s : State) (t : Time), s.punctual t → s.alive = true → s.cyc.phase = .expose ∨ s.cyc.phase = .setWait →
    Completes (.exposeClose t) s fun u => ∀ lanes, lanes = (s.begin t).closesExpose false →
      u.cyc = { s.cyc with phase := if lanes = [] then s.cyc.phase else .setWait } ∧ u.outbox.length = lanes.length ∧
      (∀ j, j ∈ lanes ↔ (s.lane j).phase.exchanges = true ∧ (s.lane j).exposed j = false ∧ (s.lane j).boundary + s.exposeNs ≤ u.now) ∧
      (∀ j ∈ lanes, u.lane j = { s.lane j with sets := { sender := j, rendezvous := false, held := s.heldMask j } :: (s.lane j).sets }) ∧
      ∀ j, j ∉ lanes → u.lane j = s.lane j) ∧
  (∀ (s : State) (t : Time) (l k : Lane) (ch : Chan) (m : SetMsg) (words : List W32), s.punctual t →
    words = laneMessage 3 k (m.words s.cyc.cycle) → m.sender = k →
    (∀ late : Bool, s.newSet l k ch m words → (late = true ↔ (m.rendezvous = true ∧ s.cyc.phase ≠ .voteWait) ∨
        s.exchangeClose m.rendezvous l + 10000 < max s.now t) →
      ((s.begin t).keepSet l k ch m late).holdsSets (s.cyc.phase = .voteWait) l = false →
      exec (.set t l ⟨ch, words⟩) s = .next ((s.begin t).keepSet l k ch m late)) ∧
    ((Lane.chans l).contains ch = true → (s.lane l).passed.contains (k, m.rendezvous) = true →
      s.holdsSets (s.cyc.phase = .voteWait) l = false → exec (.set t l ⟨ch, words⟩) s = .next (s.begin t)))

/-- The consensus image (R56, R57, R192). The first lane to decide, by the SETs that it holds or 10 us after the close of its Expose, takes
the used set of images: each channel is what two of them say of it, cut and time are their medians, a telegram is the newest that two
hold, the boundary is realigned on the median of theirs, and Develop begins, in STOP the wait for the release. Where no lane finds two
images in its used set the cycle has its release in STOP and is skipped else. Before the 10 us nothing is decided for want of a SET.
Readings of the model: logs 25, 27. -/
def Obligations.ConsensusFormed : Prop :=
  ∀ (s v : State) (t : Time) (l : Lane), s.punctual t → s.cyc.phase = .setWait → s.isVoting l = true →
    (∀ c used imgs, s.decides v false t l c → used = v.usedAt false l → 2 ≤ (lanesOf used).length → laneIn used l = true →
      imgs = ((s.lane l).heldIn.filter fun x => x.2.cycle = s.cyc.cycle ∧ laneIn used x.1 = true).map (fun x => x.2) →
      s.fencedOut imgs = false → (∀ e ∈ s.net.entries, s.faultyEntry e = false) → Completes c s fun u =>
        u.cyc.cons.values = twoOf (imgs.map InputImage.on) ∧
        u.cyc.cons.invalid = ~~~(twoOf (imgs.map InputImage.on) ||| twoOf (imgs.map InputImage.off)) &&& s.image.usedMask ∧
        u.cyc.cons.cut = serialMedian (imgs.map fun x => x.cut) ∧ u.cyc.cons.time = medianOrLower (imgs.map fun x => x.time) ∧
        (∀ x ∈ s.partnerSessions, ∀ a, s.agreed x imgs = some a → s.telegramFences x a = false →
          (x.sid, some a) ∈ u.cyc.cons.telegrams) ∧
        u.cyc.start = medianOrLower ((lanesOf used).map fun k => (s.lane k).boundary) ∧
        u.cyc.phase = (if s.cyc.mode = .stop then .release else .develop) ∧ u.cyc.cycle = s.cyc.cycle ∧ u.rail = s.rail ∧
        (∀ ch, (u.chan ch).absent = false) ∧ ∀ k, (u.lane k).phase = (s.lane k).phase) ∧
    (∀ c, s.decides v false t l c → v.noneUsed false = true →
      (s.cyc.mode = .stop → Completes c s fun u =>
        u.cyc = { s.cyc with phase := .release } ∧ (∀ j, (u.lane j).board = (s.lane j).board) ∧ u.rail = s.rail ∧ u.net = s.net) ∧
      (s.cyc.mode ≠ .stop → s.calm → s.heldWithout none → (∀ k, s.baseline k 0x074) → s.cyc.skips < s.cs.skipLimit →
        (∀ k, (s.lane k).torn = []) → Completes c s fun u =>
          u.cyc.skips = s.cyc.skips + 1 ∧ u.cyc.phase = .done ∧ u.cyc.dev = none ∧ u.cyc.outputs = s.cyc.outputs ∧ u.rail = s.rail ∧
          u.net.entries = s.net.entries)) ∧
    (max s.now t < s.exchangeClose false l + 10000 → exec (.setWaitExpiry t l) s = .next (s.begin t))

/-- From Develop to rendezvous (R59, R61, R62, R77, R78, R361). The first lane that completes Develop leaves its result; with the second a
MODE_SET HOLD of the cut halts the module, a step in HOLD halts it again, and else a module that does not hold the Lamp of a pair goes to
rendezvous; at the holder the DELTA leaves, if the two lanes' deltas match, and the Mirror phase begins. The Mirror deadline finds no ACK:
the cycle is unmirrored, and a RENEW leaves where no DELTA has. -/
def Obligations.DevelopEnds : Prop :=
  (∀ (s v : State) (t : Time) (l : Lane) (delta : W64) (d : DevResult), s.punctual t → s.cyc.phase = .develop →
    (s.lane l).phase.exchanges = true → (s.lane l).devDone = false → d = s.cyc.dev.getD (s.begin t).developResult →
    v = { s.begin t with cyc.dev := some d }.modLane l (fun r => { r with devDone := true, delta := delta }) →
    (v.developed.length < 2 → exec (.developComplete t ⟨l, delta⟩) s = .next v) ∧
    (2 ≤ v.developed.length → s.cyc.mode = .run →
      (∀ e, v.holdRequest = some e → s.test = none → Completes (.developComplete t ⟨l, delta⟩) s fun u =>
        u.cyc.mode = .hold ∧ u.cyc.phase = .halted ∧ u.cyc.dev = some d ∧
        (∃ h, u.cyc.hold = some h ∧ h.since = u.now ∧ h.owed = some (e.answer 0x00 []) ∧ h.stepping = false ∧ h.resume = [] ∧
          (h.forceSafe = true ↔ e.byte 1 = 1)) ∧
        (e.byte 1 = 1 → u.cyc.outputs = 0 ∧ ∀ k, (u.lane k).board.cmdSwitches = 0 ∧ (u.lane k).board.cmdCutoffs = 0) ∧
        (e.byte 1 ≠ 1 → u.cyc.outputs = s.cyc.outputs ∧ u.rail = s.rail)) ∧
      (v.holdRequest = none →
        (s.pair.role ≠ .active → exec (.developComplete t ⟨l, delta⟩) s = .next { v with cyc.phase := .rendezvous }) ∧
        (s.pair.role = .active → ∀ w, w = v.beginHandover s.cyc.cons.cut →
          (w.deltasMatch = true → (s.begin t).mirrorUp = true → Completes (.developComplete t ⟨l, delta⟩) s fun u =>
            ∃ x : MirrorSent, x.body = .delta (w.deltaBody d) ∧ x.seq = s.nextMirrorSeq ∧
              u = { w with cyc.phase := .mirror, pair.lease.sent := true, pair.txMirror := x.seq, outbox := [.mirror x] }) ∧
          (w.deltasMatch = false → exec (.developComplete t ⟨l, delta⟩) s = .next { w with cyc.phase := .mirror })))) ∧
    (2 ≤ v.developed.length → s.cyc.mode = .hold → ∀ h, s.cyc.hold = some h → exec (.developComplete t ⟨l, delta⟩) s =
      .next { v with
        net.answers := s.net.answers ++ h.stepOwed, cyc.phase := .halted,
        cyc.hold := some { h with stepping := false, stepOwed := [] } })) ∧
  (∀ (s : State) (t : Time), s.alive = true → 2 ≤ s.votes → s.cyc.phase = .mirror → s.cyc.start + deadlineNs s.cs s.cs.mirror ≤ t →
    s.pair.lease.handover = none → ∀ v, v = { s.begin t with
        cyc.unmirrored := true, cyc.phase := .rendezvous,
        cyc.unmirroredTotal := if s.cyc.unmirroredTotal = 0xFFFF then 0xFFFF else s.cyc.unmirroredTotal + 1 } →
      (s.pair.lease.sent = true ∨ s.pair.role ≠ .active → exec (.mirrorDeadline t) s = .next v) ∧
      (s.pair.lease.sent = false → s.pair.role = .active → (s.begin t).mirrorUp = true → Completes (.mirrorDeadline t) s fun u =>
        ∃ x : MirrorSent, x.body = .renew s.cyc.lastFix false ∧ x.seq = s.nextMirrorSeq ∧
          u = { v with pair.lease.sent := true, pair.txMirror := x.seq, outbox := [.mirror x] }))

/-- The vote (R50, R62, R63, R64, R66, R115, R192, R193, R195). The image that completes those of the lanes in VOTING, or W after the second
of three, brings the vote instant: each lane present sends a SET, and nothing is committed yet. The first lane to decide takes the vote of
its used set. Three that agree bring the Fix, which commits the cycle's result, and the lanes drive its outputs, but for both drives of a
point that it would energise together; a lane whose image differs is withdrawn at once, and the Fix goes on with the two others; where no
two agree the module enters Safelight with source 0x072 and commits nothing. Two that agree fix without the third, and that lane is tardy
and dark; two that differ wait for the third. Readings of the model: logs 25, 29. -/
def Obligations.VoteCommits : Prop :=
  (∀ (s : State) (t : Time) (c : Instr) (present : List Lane) (x : Lane → OutputImage), s.cyc.dev.isSome = true →
    (s.begin t).leaseLapsed = false →
    (∃ l e d, c = .outputImage t l e ∧ s.punctual t ∧ s.isVoting l = true ∧ (s.lane l).devDone = true ∧ (s.lane l).image = none ∧
      (s.cyc.phase = .rendezvous ∨ s.cyc.phase = .waitThird) ∧ s.cyc.dev = some d ∧ present = s.voting ∧
      x l = (s.begin t).imageOf d l e ∧ ∀ k, k ≠ l → s.isVoting k = true → (s.lane k).image = some (x k)) ∨
    (c = .rendezvousWindowExpiry t ∧ s.alive = true ∧ s.cyc.phase = .rendezvous ∧ s.votes = 3 ∧ present = s.present ∧
      present.length = 2 ∧ ∀ k ∈ present, (s.lane k).image = some (x k) ∧ ∃ a, (s.lane k).arrived = some a ∧ a + s.windowNs ≤ t) →
    Completes c s fun u =>
      u.cyc = { s.cyc with voteAt := u.now, counted := decide (s.cyc.phase = .waitThird), phase := .voteWait } ∧
      (∀ k ∈ present, (u.lane k).image = some (x k) ∧ ∃ m ∈ (u.lane k).sets, m.sender = k ∧ m.rendezvous = true ∧
        ∀ j, laneIn m.held j = true ↔ j ∈ present ∧ s.joins k j = true) ∧
      u.rail = s.rail ∧ u.net = s.net ∧ ∀ k, (u.lane k).board = (s.lane k).board) ∧
  (∀ (s v : State) (t : Time) (l : Lane) (c : Instr) (d : DevResult) (h : OutputImage), s.decides v true t l c → s.punctual t →
    s.idling → s.calm → s.net.sessions = [] → s.alive = true → s.cyc.phase = .voteWait → s.cyc.mode = .run → s.holdsLamp = true →
    s.cyc.dev = some d → s.flt.safelight.on = false → (∀ k, (s.lane k).phase = .voting) → h = s.healthyImage d →
    (v.usedAt true l = 7 →
      ((∀ k, (s.lane k).image = some h) → Completes c s fun u =>
        u.rail = s.settled d d.outputs ∧ u.cyc.outputs = singleDrives s.image d.outputs ∧ u.cyc.lastFix = s.cyc.cycle ∧
        u.cyc.skips = 0 ∧ u.cyc.phase = .done ∧ u.cyc.dev = none ∧ u.cyc.fenceCycle = s.cyc.cycle.setWidth 32 ∧
        ∀ x, (u.lane x).phase = .voting ∧ (u.lane x).board.cmdSwitches = singleDrives s.image d.outputs &&& s.closable x) ∧
      (∀ k x, (s.lane k).image = some x → x.agrees h = false → (∀ j, j ≠ k → (s.lane j).image = some h) → s.baseline k 0x042 →
        Completes c s fun u =>
          (u.lane k).phase = .withdrawn ∧ (u.lane k).cause = 0x042 ∧ (u.lane k).board.cmdSwitches = 0 ∧
          (∀ j, j ≠ k → (u.lane j).phase = .voting ∧
            (u.lane j).board.cmdSwitches = singleDrives s.image d.outputs &&& s.closable j) ∧
          u.rail = s.settled d d.outputs ∧ u.cyc.outputs = singleDrives s.image d.outputs ∧ u.cyc.lastFix = s.cyc.cycle ∧
          u.cyc.phase = .done) ∧
      (∀ x y z : OutputImage, s.laneA.image = some x → s.laneB.image = some y → s.laneC.image = some z → x.digest ≠ y.digest →
        y.digest ≠ z.digest → z.digest ≠ x.digest → Completes c s fun u =>
          u.flt.safelight.on = true ∧ u.flt.safelight.source = 0x072 ∧ u.cyc.mode = .stop ∧ u.cyc.outputs = 0 ∧
          u.cyc.lastFix = s.cyc.lastFix ∧ u.cyc.dev = none ∧ ∀ x, (u.lane x).board.cmdSwitches = 0)) ∧
    (∀ j k o : Lane, j ≠ k → o ≠ j → o ≠ k → l ≠ o → v.usedAt true l = laneMask [j, k] →
      ((s.lane j).image = some h → (s.lane k).image = some h → (s.lane o).image = none → Completes c s fun u =>
        u.rail = s.settled d d.outputs ∧ u.cyc.outputs = singleDrives s.image d.outputs ∧ u.cyc.lastFix = s.cyc.cycle ∧
        u.cyc.phase = .done ∧ (u.lane o).phase = .voting ∧ (u.lane o).lateDue = true ∧
        (u.lane o).tardyRun = min 3 ((s.lane o).tardyRun + 1) ∧ (u.lane o).board.cmdSwitches = 0 ∧
        (u.lane j).board.cmdSwitches = singleDrives s.image d.outputs &&& s.closable j ∧
        (u.lane k).board.cmdSwitches = singleDrives s.image d.outputs &&& s.closable k) ∧
      (∀ x y, (s.lane j).image = some x → (s.lane k).image = some y → x.agrees y = false → y.agrees x = false →
        (s.begin t).past s.cs.fixLatest false = false → Completes c s fun u =>
          u.cyc = { s.cyc with phase := .waitThird } ∧ u.rail = s.rail ∧ u.net = s.net ∧
          (∀ k, (u.lane k).phase = .voting ∧ (u.lane k).board = (s.lane k).board) ∧
          (s.cyc.counted = false → (s.lane o).tardyTotal ≠ 0xFFFFFF → (u.lane o).tardyTotal = (s.lane o).tardyTotal + 1))))

/-- A cycle that reaches no Fix is skipped (R68, R69): at the Develop deadline with fewer than two lanes done, at Fix latest with fewer than
two images, and where the vote still waits for the third. Nothing is committed, the outputs stand, the skip is counted and noted
(0x074). -/
def Obligations.CycleSkipped : Prop :=
  ∀ (s : State) (t : Time), s.punctual t → s.whole → s.alive = true → s.cyc.mode = .run → s.calm → s.heldWithout none →
    (∀ l, s.baseline l 0x074) → s.cyc.skips < s.cs.skipLimit → (∀ l, (s.lane l).torn = []) →
    ∀ c : Instr,
      (c = .developDeadline t ∧ (s.cyc.phase = .expose ∨ s.cyc.phase = .setWait ∨ s.cyc.phase = .develop) ∧
        s.cyc.start + deadlineNs s.cs s.cs.develop ≤ t ∧ (Lane.all.filter fun l => (s.lane l).devDone).length < 2) ∨
      (c = .fixLatestDeadline t ∧ s.cyc.start + deadlineNs s.cs s.cs.fixLatest ≤ t ∧
        ((s.cyc.phase = .rendezvous ∧ (Lane.all.filter fun l => (s.lane l).image.isSome).length < 2) ∨ s.cyc.phase = .waitThird)) →
      Completes c s fun u =>
        u.cyc = { s.cyc with
          skips := s.cyc.skips + 1, skipTotal := s.cyc.skipTotal + 1, dev := none, phase := .done,
          devJudged := u.cyc.devJudged, telFix := u.cyc.telFix } ∧
        u.rail = s.rail ∧ u.net.entries = s.net.entries ∧
        ∀ l, (u.lane l).phase = .voting ∧ (u.lane l).board = (s.lane l).board ∧
          (u.lane l).bath.sticky = (s.lane l).bath.sticky ||| srcBit 0x074

/-- Lanes out of step are withdrawn at level 2: one whose late image is not there at its next boundary (0x043, R196; in PROBATION 0x042,
R205), one tardy in three cycles in a row (0x041, R63), one in the minority for an input in three cycles in a row (0x040, R58), and a
late image, or one of a lane in PROBATION, that differs from the vote (0x043, 0x042; R196, R205). Where the lanes that differ cannot be
told apart, or skips exceed their limit, the module enters Safelight: two lanes in a channel's minority as long (0x071, R58), skips in a
row above the limit (0x073, R70). A late image leaves its lane; one that agrees clears it, and the third in a row ends PROBATION (R196,
R205, R206). Readings of the model: log 29. -/
def Obligations.LanesOutOfStep : Prop :=
  (∀ (s : State) (t : Time) (l : Lane) (n : Nat) (c : Instr), s.punctual t → s.alive = true → s.calm → s.baseline l n →
    s.heldWithout (some l) →
    (c = .tardyLaneBoundary t l ∧ (s.lane l).lateDue = true ∧ s.nextBoundary ≤ t ∧
      ((s.lane l).phase = .voting ∧ n = 0x043 ∨ (s.lane l).phase = .probation ∧ n = 0x042)) ∨
    (c = .tardyWithdrawal t l ∧ n = 0x041 ∧ (s.lane l).phase = .voting ∧ 3 ≤ (s.lane l).tardyRun) ∨
    (c = .inputMinorityFault t l ∧ n = 0x040 ∧ (s.lane l).phase.live = true ∧ (∃ x ∈ (s.lane l).minority, 3 ≤ x.2) ∧
      (s.votes = 2 → s.isVoting l = true → ∀ i k, (InKey.channel i, k) ∈ (s.lane l).minority → k < 3)) ∨
    (∃ v e, c = .lateOutputImage t l e ∧ (v.disturb e).agrees v = false ∧ s.cyc.voted = some v ∧ v.cycle = s.cyc.cycle ∧
      s.cyc.phase = .done ∧ (s.lane l).lateDue = true ∧ (s.lane l).devDone = true ∧
      ((s.lane l).phase = .voting ∧ n = 0x043 ∨ (s.lane l).phase = .probation ∧ n = 0x042)) →
    Completes c s fun u =>
      (u.lane l).phase = .withdrawn ∧ (u.lane l).cause = BitVec.ofNat 9 n ∧ (u.lane l).board.cmdSwitches = 0 ∧
      (u.lane l).bath.sticky = (s.lane l).bath.sticky ||| srcBit n ∧
      (∀ k, k ≠ l → (s.lane k).phase ≠ .resync → u.lane k = s.lane k) ∧ u.cyc = s.cyc ∧ u.rail = s.rail ∧ u.net = s.net) ∧
  (∀ (s : State) (t : Time) (l : Lane),
    (s.flt.safelight.on = false → s.cs.skipLimit < s.cyc.skips → Completes (.skipLimitExceeded t) s fun u =>
      u.flt.safelight.on = true ∧ u.flt.safelight.source = 0x073 ∧ u.cyc.mode = .stop ∧ u.cyc.outputs = 0) ∧
    (s.cyc.skips ≤ s.cs.skipLimit ∨ s.flt.safelight.on = true → exec (.skipLimitExceeded t) s = .next (s.begin t)) ∧
    (s.flt.safelight.on = false → (s.lane l).phase = .voting → s.votes = 2 → (∃ i n, (InKey.channel i, n) ∈ (s.lane l).minority ∧ 3 ≤ n) →
      Completes (.inputMinorityFault t l) s fun u =>
        u.flt.safelight.on = true ∧ u.flt.safelight.source = 0x071 ∧ u.cyc.mode = .stop ∧ u.cyc.outputs = 0) ∧
    (∀ v e w, s.punctual t → s.cyc.voted = some v → v.cycle = s.cyc.cycle → s.cyc.phase = .done → (s.lane l).lateDue = true →
      (s.lane l).devDone = true → (s.lane l).calls = 0 → (v.disturb e).agrees v = true →
      w = (s.begin t).emit (.laneWords l (laneMessage 2 l ((v.disturb e).words (!(s.begin t).leaseLapsed)))) →
      ((s.lane l).phase ≠ .probation →
        exec (.lateOutputImage t l e) s = .next (w.modLane l fun r => { r with lateDue := false })) ∧
      ((s.lane l).phase = .probation → exec (.lateOutputImage t l e) s = .next (w.modLane l fun r =>
        { r with lateDue := false, matched := r.matched + 1, enter := r.enter || decide (3 ≤ r.matched + 1) }))))

/-- Entries, holds and releases: an entry whose promised time had passed when its cycle began is done with (R71); a hold of 600 s ends in
STOP, and what it owes ends BAD_STATE (R77); a cycle in STOP has its release when Expose has ended, with telegrams in their safe form
only (R244), and one in HOLD its release in each cycle that it halts, with those of the last Fix again (R78, R303); where fewer than two
lanes vote, V's boundary answers every command and counts the cycle (R29, R531). Readings of the model: logs 23, 133. -/
def Obligations.ReleasesWithoutFix : Prop :=
  ∀ (s : State) (t : Time),
    (∀ e front rest w, s.net.entries = front ++ e :: rest → (∀ x ∈ front ++ rest, x.adm ≠ e.adm) → e.limit = some w →
      (w < s.cyc.start → exec (.timedPromiseExpired t e.adm) s =
        .next { s.begin t with net.entries := front ++ { e with done := true } :: rest }) ∧
      (s.cyc.start ≤ w → exec (.timedPromiseExpired t e.adm) s = .next (s.begin t))) ∧
    (∀ h, s.cyc.hold = some h → (h.since + 600000000000 ≤ t → Completes (.holdTimeout t) s fun u =>
        u.cyc.mode = .stop ∧ u.cyc.hold = none ∧ u.cyc.outputs = 0 ∧ u.cyc.dev = none ∧
        (∀ l, (u.lane l).board.cmdSwitches = 0 ∧ (u.lane l).board.cmdCutoffs = 0) ∧
        (∀ a, a ∈ h.owed.toList ++ h.stepOwed ++ h.resume → ∃ b ∈ u.net.answers, b.adm = a.adm ∧ b.status = 0x12) ∧
        (∀ e ∈ u.net.entries, e ∈ s.net.entries ∧ e.vital = false)) ∧
      (max s.now t < h.since + 600000000000 → exec (.holdTimeout t) s = .next (s.begin t))) ∧
    (s.punctual t → s.idling → (∀ l, (s.lane l).torn = []) → 2 ≤ s.votes → s.cyc.start + s.exposeNs ≤ t →
      (∀ l, (s.lane l).phase ≠ .resync) →
      (s.cyc.mode = .stop → s.cyc.phase = .release → Completes (.safeStateRelease t) s fun u =>
        u.cyc = { s.cyc with
          phase := .done, skips := 0, fenceCycle := s.cyc.cycle.setWidth 32, fenceEpoch := s.ownEpoch,
          telFix := s.cyc.cycle.setWidth 32 } ∧
        u.rail = s.rail ∧ (∀ l, (u.lane l).board = (s.lane l).board) ∧
        (∀ r, .field r ∈ u.outbox → r.kind = 1 → ∃ x ∈ s.net.sessions, r.sid = x.sid ∧
          ∃ epoch, r.content = telegramBody (s.cyc.cycle.setWidth 32) epoch (commandSlots s.image s.rail x.node (slotCount s.image x) true))) ∧
      (∀ h, s.cyc.mode = .hold → s.cyc.phase = .halted → s.cyc.hold = some h → h.stepping = false → h.resume = [] →
        s.cyc.modeDue = none → s.cyc.fenceCycle ≠ s.cyc.cycle.setWidth 32 → Completes (.safeStateRelease t) s fun u =>
          u.cyc = { s.cyc with
            hold := some { h with owed := none }, fenceCycle := s.cyc.cycle.setWidth 32, fenceEpoch := s.ownEpoch,
            telFix := u.cyc.telFix } ∧
          (s.holdsLamp = true → u.cyc.telFix = s.cyc.telFix) ∧ u.rail = s.rail ∧ ∀ l, (u.lane l).board = (s.lane l).board)) ∧
    (s.alive = true → s.flt.safelight.on = true → s.votes < 2 → Completes (.supervisorBoundary t) s fun u =>
      u.net.entries = [] ∧ u.net.answers = [] ∧ u.cyc = { s.cyc with cycle := s.cyc.cycle + 1, start := u.now } ∧
      ∀ l, (u.lane l).phase = (s.lane l).phase ∧ (u.lane l).board = (s.lane l).board) ∧
    (2 ≤ s.votes → exec (.supervisorBoundary t) s = .next (s.begin t))

/-! References, the pair, supplies, images -/

/-- Following a reference (R72 to R75, R507). Each lane in VOTING measures its offset; inside the window each moves its next boundary toward
the reference, not for 10 us or less, by half the offset, at least 50 us and at most 2 % of P, and the module by the middle of their
moves; outside it the edge is flagged, counted and noted (0x075), as is one too soon after the last; a module in STOP that is not aligned
puts its next boundary a multiple of P after the reference. An edge too narrow, or too soon after a glitch, is none; eight cycles without
a reference lose sync. PTP time (R317, R318): the master of lowest rank is selected; sixteen good Sync intervals of it in a row make PTP
time valid, an offset of more than 100 us, or a rate beyond 100 ppm, ends it, a master of another domain is not heard, and with the last
master PTP time is lost. Readings of the model: log 121. -/
def Obligations.ReferenceTime : Prop :=
  (∀ (p : Time) (e : Int), moveFor p e = if e.natAbs ≤ 10000 then 0 else
    e.sign * (min (min (max (e.natAbs / 2) 50000) (p * 2 / 100)) e.natAbs : Nat)) ∧
  (∀ (s : State) (t : Time), s.now ≤ t → s.alive = true → 2 ≤ s.votes → ∀ within, within =
      (s.begin t).offsets.filter (fun e => 4 * e.natAbs ≤ s.periodNs) →
    (∀ c : Instr, (c = .ptpReferenceBoundary t ∧ s.cs.sync = 2 ∧ (s.begin t).ptpMultiple = true) ∨
        (∃ width gap, c = .syncInEdge t width gap ∧ s.cs.sync = 1 ∧ 2000 ≤ width ∧ 10000 ≤ gap ∧
          ∀ w, s.v.sync.lastEdge = some w → s.periodNs ≤ 2 * (t - w)) →
      (s.cyc.mode = .stop → s.v.sync.aligned = false → Completes c s fun u =>
        (∀ e, e = middleMove (s.begin t).offsets →
          u.v.sync.adjust = s.v.sync.adjust + e + (if (s.nextBoundary : Int) + e ≤ t then (s.periodNs : Int) else 0)) ∧
        ((∀ l, s.isVoting l = true → (s.lane l).boundary = s.cyc.start) → s.cyc.start ≤ t → s.v.sync.adjust = 0 →
          u.nextBoundary = t + s.periodNs) ∧
        u.v.sync.aligned = true ∧ u.v.sync.lost = false ∧ u.v.sync.missed = 0 ∧ u = { s.begin t with v.sync := u.v.sync }) ∧
      (s.cyc.mode ≠ .stop ∨ s.v.sync.aligned = true →
        (2 ≤ within.length → Completes c s fun u =>
          u.v.sync.adjust = s.v.sync.adjust + middleMove (within.map (moveFor s.periodNs)) ∧
          u.v.sync.seen = true ∧ u.v.sync.missed = 0 ∧ u.v.sync.lost = false ∧ u = { s.begin t with v.sync := u.v.sync }) ∧
        (within.length < 2 → s.calm → s.heldWithout none →
          (∀ l, (s.lane l).phase.live = true ∧ s.baseline l 0x075) → s.v.sync.outOfWindow ≠ 0xFFFFFFFF → Completes c s fun u =>
            u.v.sync.outOfWindow = s.v.sync.outOfWindow + 1 ∧ u.v.sync.adjust = s.v.sync.adjust ∧ u.cyc = s.cyc ∧
            ∀ l, u.lane l = { s.lane l with bath := (u.lane l).bath } ∧
              (u.lane l).bath.sticky = (s.lane l).bath.sticky ||| srcBit 0x075))) ∧
    (∀ width gap w, s.cs.sync = 1 → 2000 ≤ width → 10000 ≤ gap → s.v.sync.lastEdge = some w → 2 * (t - w) < s.periodNs →
      s.v.sync.outOfWindow ≠ 0xFFFFFFFF → Completes (.syncInEdge t width gap) s fun u =>
        u.v.sync.outOfWindow = s.v.sync.outOfWindow + 1 ∧ u.v.sync.adjust = s.v.sync.adjust ∧ u.v.sync.lastEdge = some t)) ∧
  (∀ (s : State) (t : Time),
    (∀ width gap, s.cs.sync ≠ 1 ∨ width < 2000 ∨ gap < 10000 → exec (.syncInEdge t width gap) s = .next (s.begin t)) ∧
    (s.cs.sync ≠ 2 ∨ (s.begin t).ptpMultiple = false → exec (.ptpReferenceBoundary t) s = .next (s.begin t)) ∧
    (s.v.sync.missed < 8 ∨ s.v.sync.lost = true ∨ s.cs.sync = 0 → exec (.syncLoss t) s = .next (s.begin t)) ∧
    (8 ≤ s.v.sync.missed → s.v.sync.lost = false → s.cs.sync ≠ 0 → s.calm → s.heldWithout none →
      (∀ l, (s.lane l).phase.live = true ∧ s.baseline l 0x075) → Completes (.syncLoss t) s fun u =>
        u.v.sync.lost = true ∧ u.v.sync.aligned = false ∧ u.cyc = s.cyc ∧
        ∀ l, (u.lane l).phase = (s.lane l).phase ∧ (u.lane l).bath.sticky = (s.lane l).bath.sticky ||| srcBit 0x075)) ∧
  (∀ (s : State) (t : Time) (m : PtpMsg), s.alive = true →
    ((s.begin t).portUsable (.h m.port) = true → m.domain = s.trust.cfg.ptpDomain →
      (m.announce = true → Completes (.ptpMessage t m) s fun u =>
        (∀ k r, (k, r) ∈ u.v.ptp.masters ↔ (k = m.master ∧ r = m.rank) ∨ (k ≠ m.master ∧ (k, r) ∈ s.v.ptp.masters)) ∧
        (∃ k r, u.v.ptp.selected = some k ∧ (k, r) ∈ u.v.ptp.masters ∧ ∀ x ∈ u.v.ptp.masters, r ≤ x.2) ∧
        u.v.ptp.valid = s.v.ptp.valid ∧ u = { s.begin t with v.ptp := u.v.ptp }) ∧
      (m.announce = false → s.v.ptp.selected = some m.master →
        (m.ratePpm ≤ 100 → m.offset.natAbs < 1000 →
          (s.v.ptp.valid = false → s.v.ptp.good < 15 → exec (.ptpMessage t m) s =
            .next { s.begin t with v.ptp.base := m.time, v.ptp.baseAt := max s.now t, v.ptp.good := s.v.ptp.good + 1 }) ∧
          (s.v.ptp.valid = true ∨ 15 ≤ s.v.ptp.good → Completes (.ptpMessage t m) s fun u =>
            u.v.ptp.valid = true ∧ u.ptpTime = some m.time ∧ u.cyc = s.cyc)) ∧
        (m.ratePpm ≤ 100 → 1000 ≤ m.offset.natAbs → m.offset.natAbs ≤ 100000 → exec (.ptpMessage t m) s =
          .next { s.begin t with
            v.ptp.base := m.time, v.ptp.baseAt := max s.now t, v.ptp.good := if s.v.ptp.valid = true then s.v.ptp.good else 0 }) ∧
        (100 < m.ratePpm ∨ 100000 < m.offset.natAbs → Completes (.ptpMessage t m) s fun u =>
          u.v.ptp.valid = false ∧ u.v.ptp.good = 0 ∧ u.ptpTime = none ∧ u.cyc = s.cyc)) ∧
      (m.announce = false → s.v.ptp.selected ≠ some m.master → exec (.ptpMessage t m) s = .next (s.begin t))) ∧
    ((s.begin t).portUsable (.h m.port) = false ∨ m.domain ≠ s.trust.cfg.ptpDomain →
      exec (.ptpMessage t m) s = .next (s.begin t)) ∧
    (∀ k, Completes (.ptpAnnounceTimeout t k) s fun u =>
      (∀ x, x ∈ u.v.ptp.masters ↔ x ∈ s.v.ptp.masters ∧ x.1 ≠ k) ∧ u.cyc = s.cyc ∧
      (u.v.ptp.masters = [] → u.v.ptp.selected = none ∧ u.v.ptp.valid = false ∧ u.v.ptp.good = 0) ∧
      (u.v.ptp.masters ≠ [] → u.v.ptp.valid = s.v.ptp.valid ∧
        ∃ j r, u.v.ptp.selected = some j ∧ (j, r) ∈ u.v.ptp.masters ∧ ∀ x ∈ u.v.ptp.masters, r ≤ x.2)))

/-- Mirror messages (R350 to R356, R361, R364 to R366, R530). At the holder an ACK of its epoch in time renews the lease and ends the Mirror
phase, one of another epoch does nothing to either, an ANNOUNCE may ask for a bulk, and any message that claims the Lamp under an epoch
not below its own brings Safelight. At the other module a DELTA on the committed state is acknowledged and computed as the pending cycle, a
message on the pending cycle commits it, one on neither asks for a bulk; a BULK brings the committed state, a RELEASE is kept. Readings
of the model: log 84. -/
def Obligations.MirrorMessages : Prop :=
  ∀ (s : State) (t : Time) (h : MirrorHdr),
    (s.pair.role = .active → h.holds = false →
      (∀ b : AckBody, (s.begin t).hears h (.ack b) →
        (b.epoch = s.pair.epochOwn → b.cycle = s.cyc.cycle → (s.begin t).past s.cs.mirror true = false →
          Completes (.ack t h b) s fun u =>
            u.pair.lease.renewed = some s.cyc.start ∧ u.pair.lease.acked = true ∧ u.pair.mirror.partnerReady = b.ready ∧
            (∀ l, (u.lane l).leaseAt = some s.cyc.start) ∧
            u.cyc = { s.cyc with phase := if s.cyc.phase = .mirror then .rendezvous else s.cyc.phase } ∧ u.rail = s.rail) ∧
        (b.epoch ≠ s.pair.epochOwn → Completes (.ack t h b) s fun u =>
          u.pair.lease = s.pair.lease ∧ u.cyc = s.cyc ∧ u.rail = s.rail)) ∧
      (∀ b : AnnounceBody, (s.begin t).hears h (.announce b) → Completes (.announce t h b) s fun u =>
        u.pair.mirror.bulkAsked = (s.pair.mirror.bulkAsked || b.wantsBulk) ∧ u.pair.lease = s.pair.lease ∧
        u.pair.epochKnown.toNat = max (max s.pair.epochKnown.toNat h.epoch.toNat) b.epoch.toNat ∧ u.cyc = s.cyc ∧ u.rail = s.rail)) ∧
    (s.pair.role = .active → h.holds = true → ∀ m : MirrorBody, (s.begin t).hears h m →
      (s.pair.epochOwn.toNat ≤ h.epoch.toNat → s.flt.safelight.on = false → Completes (mirrorCommand t h m) s fun u =>
        u.flt.safelight.on = true ∧ u.flt.safelight.source = 0x076 ∧ u.pair.role = .standby ∧ u.cyc.outputs = 0) ∧
      (h.epoch.toNat < s.pair.epochOwn.toNat → Completes (mirrorCommand t h m) s fun u =>
        u.pair.role = .active ∧ u.pair.lease = s.pair.lease ∧ u.cyc = s.cyc ∧ u.rail = s.rail)) ∧
    (s.pair.role ≠ .active → s.pair.lease.handover = none → s.pair.mirror.stopped = false →
      (s.pair.mirror.wantBulk = false → s.pair.mirror.differs = false → (s.begin t).mirrorUp = true →
        (∀ (b : DeltaBody) (r : Rail), (s.begin t).hears h (.delta b) → s.pair.mirror.committed = some b.base →
          s.pair.mirror.pendingCycle ≠ some b.base → r = mirrorDevelop s.image s.rail (nextMissed s.pair.mirror.missed b.partners) b →
          stateDigest s.image r h.cycle = b.digest → holderOutputs s.image r = b.outputs → Completes (.delta t h b) s fun u =>
            u.pair.mirror.pendingCycle = some h.cycle ∧ u.pair.mirror.pendingRail = some r ∧ u.rail = s.rail ∧
            u.pair.mirror.committed = some b.base ∧
            u.pair.mirror.run = (if s.cyc.mode = .run then min 3 (s.pair.mirror.run + 1) else 0) ∧
            ∃ (x : MirrorSent) (a : AckBody), u.outbox = [.mirror x] ∧ x.body = .ack a ∧ a.cycle = h.cycle ∧
              a.epoch = u.pair.epochKnown ∧ (a.accepted = true → b.handover = true) ∧ a.refused = (b.handover && !a.accepted)) ∧
        (∀ base handover, (s.begin t).hears h (.renew base handover) →
          (∀ r, s.pair.mirror.pendingCycle = some base → s.pair.mirror.pendingRail = some r →
            Completes (.renew t h base handover) s fun u => u.rail = r ∧ u.pair.mirror.committed = some base ∧
              u.pair.mirror.pendingCycle = none ∧ u.cyc.lastFix = base ∧ u.outbox.length = 1) ∧
          (s.pair.mirror.pendingCycle ≠ some base → s.pair.mirror.committed = some base →
            Completes (.renew t h base handover) s fun u => u.rail = s.rail ∧ u.pair.mirror.committed = some base ∧
              u.pair.mirror.pendingCycle = none ∧ u.cyc = s.cyc ∧ u.outbox.length = 1) ∧
          (s.pair.mirror.pendingCycle ≠ some base → s.pair.mirror.committed ≠ some base →
            Completes (.renew t h base handover) s fun u => u.rail = s.rail ∧ u.pair.mirror.wantBulk = true ∧ u.pair.mirror.run = 0 ∧
              u.pair.role ≠ .ready))) ∧
      (∀ (b : BulkBody), (s.begin t).hears h (.bulk b) → s.pair.mirror.wantBulk = true →
        (∀ x ∈ s.pair.mirror.held, x.1.cycle.toNat ≤ b.base.toNat) → b.logicHash = s.image.hdr.hash →
        Completes (.bulk t h b) s fun u => u.rail = b.rail ∧ u.cyc.lastFix = b.base ∧ u.pair.mirror.committed = some b.base ∧
          u.pair.mirror.wantBulk = false ∧ u.pair.mirror.pendingCycle = none) ∧
      (∀ last reason, (s.begin t).hears h (.release last reason) → Completes (.release t h last reason) s fun u =>
        u.pair.lease.releaseSeen = true ∧ u.pair.lease.released = some last ∧ u.rail = s.rail ∧ u.cyc = s.cyc ∧
        u.pair.role = s.pair.role ∧ u.pair.epochKnown.toNat = max s.pair.epochKnown.toNat h.epoch.toNat))

/-- The Lamp changes hands (R39, R354 to R360, R366, R367, R403, R438, R480, R483). A vote instant or a release that finds the lease lapsed
gives up the Lamp and commits nothing; a guard cycle raises the epoch, in the archive too, before anything is sent under it, and none
begins where V alone counts expiry; the module holds the Lamp from the boundary after it, with its outputs off, from the cycle that the
RELEASE named, and in a settle period where the takeover is not clean. Readings of the model: log 106. -/
def Obligations.LampMoves : Prop :=
  ∀ (s : State) (t : Time),
    (s.punctual t → s.pair.role = .active → (∀ l, (s.lane l).torn = []) →
      ((∀ w, s.pair.lease.renewed = some w → w + s.ps.lease * s.periodNs ≤ t) →
        (s.cyc.phase = .rendezvous ∨ s.cyc.phase = .waitThird ∨ s.cyc.phase = .release ∨ s.cyc.phase = .halted →
          Completes (.leaseLapse t) s fun u =>
            u.pair.role = .standby ∧ u.cyc.outputs = 0 ∧ u.rail = s.rail ∧ u.cyc.lastFix = s.cyc.lastFix ∧
            (s.cyc.phase = .rendezvous ∨ s.cyc.phase = .waitThird → u.cyc.dev = none ∧ u.cyc.phase = .done) ∧
            (∀ l, (u.lane l).board.cmdSwitches = 0 ∧ (u.lane l).board.cmdCutoffs = 0) ∧ ∀ e ∈ u.net.entries, e.vital = false)) ∧
      (∀ w, s.pair.lease.renewed = some w → max s.now t < w + s.ps.lease * s.periodNs → exec (.leaseLapse t) s = .next (s.begin t))) ∧
    (∀ c, (s.begin t).guardReady = true → (s.begin t).leaseDispute = false → (s.begin t).boundaryCycle = some c →
      s.pair.epochKnown ≠ 0xFFFFFFFF → s.test = none → Completes (.guardCycleStart t) s fun u =>
        u.pair = { s.pair with epochKnown := s.pair.epochKnown + 1, epochOwn := s.pair.epochKnown + 1,
                               lease := { s.pair.lease with guard := true, guardCycle := c, guardDue := false } } ∧
        u.flt = { s.flt with persistent.epoch := s.pair.epochKnown + 1 } ∧ u.rail = s.rail ∧ u.cyc = s.cyc ∧ u.outbox = []) ∧
    ((s.begin t).guardReady = false → (s.begin t).leaseDispute = false → exec (.guardCycleStart t) s = .next (s.begin t)) ∧
    ((s.begin t).leaseDispute = true → s.alive = true → (s.begin t).boundaryCycle.isSome = true → s.flt.safelight.on = false →
      Completes (.guardCycleStart t) s fun u => u.pair.epochKnown = s.pair.epochKnown ∧ u.pair.lease.guard = s.pair.lease.guard) ∧
    ((s.begin t).takeDue = true →
      (s.retiring = false → s.pair.mirror.ownPosition = false → s.pair.mirror.differs = false →
        s.pair.lease.atStart = true ∨ (s.pair.role = .ready ∧ (s.begin t).readyNow = true) →
        (Completes (.takeLamp t) s fun u =>
          u.pair.role = .active ∧ u.holdsLamp = true ∧ u.pair.lease.renewed = some u.now ∧ u.pair.lease.guard = false ∧
          u.pair.epochOwn = s.pair.epochOwn ∧ (∀ l, (u.lane l).leaseAt = some u.now) ∧ u.cyc.outputs = 0 ∧
          (s.pair.mirror.pendingCycle = none → s.pair.lease.atStart = true → u.rail = s.rail.forgetSeqs ∧
            u.cyc = { s.cyc with outputs := 0, skips := 0 }) ∧
          (∀ f r, s.pair.lease.releaseSeen = true → s.pair.lease.released = some f → s.pair.mirror.pendingCycle = some f →
            s.pair.mirror.pendingRail = some r → u.rail = r.forgetSeqs ∧
            u.cyc = { s.cyc with outputs := 0, skips := 0, lastFix := f }) ∧
          (s.pair.lease.atStart = false → s.pair.lease.releaseSeen = false → u.rail.settleEnd.isSome = true))) ∧
      (s.retiring = true ∨ s.pair.mirror.ownPosition = true ∨
        (s.pair.lease.atStart = false ∧ (s.pair.role ≠ .ready ∨ (s.begin t).readyNow = false)) → exec (.takeLamp t) s =
        .next { s.begin t with pair.lease.guard := false, pair.role := .standby })) ∧
    (∀ c : Instr, c = .settlePeriodEnd t ∨ c = .startSettlePeriodEnd t → ∀ w, s.rail.settleEnd = some w →
      (w ≤ max s.rail.time s.cyc.cons.time → exec c s = .next { s.begin t with rail.settleEnd := none }) ∧
      (max s.rail.time s.cyc.cons.time < w → exec c s = .next (s.begin t))) ∧
    (∀ g : Fin 12, s.ps.essential.getLsbD g.val = true → (s.begin t).supplyLost g.val = true →
      (s.pair.role = .active → s.pair.mirror.partnerReady = true →
        exec (.essentialSupplyLost t g) s = .next { s.begin t with pair.lease.giveUp := true }) ∧
      (s.pair.role = .ready → exec (.essentialSupplyLost t g) s = .next { s.begin t with pair.role := .standby }) ∧
      (s.pair.role ≠ .ready → s.pair.role = .active → s.pair.mirror.partnerReady = false →
        exec (.essentialSupplyLost t g) s = .next (s.begin t))) ∧
    (∀ g : Fin 12, s.ps.essential.getLsbD g.val = false ∨ (s.begin t).supplyLost g.val = false →
      exec (.essentialSupplyLost t g) s = .next (s.begin t)) ∧
    (∀ on, (s.v.power.phase ≠ .off → exec (.pairPresenceChange t on) s = .next { s.begin t with v.ppIn := on }) ∧
      (s.v.power.phase = .off → exec (.pairPresenceChange t on) s = .next (s.begin t))) ∧
    (∀ w, s.alive = true → s.pair.listenSince = some w →
      (w + (s.ps.lease + 2) * s.periodNs ≤ t →
        (s.pair.mirror.heardHolder = true ∨ s.pair.mirror.heardWins = some false → Completes (.pairListenEnd t) s fun u =>
          u.pair.listenSince = none ∧ u.pair.roleSettled = true ∧ u.pair.mirror.wantBulk = true ∧ u.pair.role = s.pair.role ∧
          u.pair.lease = s.pair.lease) ∧
        (s.pair.mirror.heardHolder = false →
          s.pair.mirror.heardWins = some true ∨ (s.pair.mirror.heardWins = none ∧ s.v.ppIn = false) →
          exec (.pairListenEnd t) s = .next { s.begin t with
            pair.listenSince := none, pair.lease.guardDue := true, pair.lease.atStart := true }) ∧
        (s.pair.mirror.heardHolder = false → s.pair.mirror.heardWins = none → s.v.ppIn = true → Completes (.pairListenEnd t) s fun u =>
          u.pair.listenSince = none ∧ u.pair.roleSettled = true ∧ u.pair.mirror.silent = true ∧ u.pair.lease = s.pair.lease)) ∧
      (max s.now t < w + (s.ps.lease + 2) * s.periodNs → exec (.pairListenEnd t) s = .next (s.begin t))) ∧
    (s.alive = true → s.pair.roleSettled = true → s.cyc.autoTried = false → s.cyc.start = max s.now t → s.cyc.cycle ≠ 0 →
      (s.cyc.mode = .stop → s.trust.cfg.autoRun = true → s.runAllowed = true →
        exec (.runPoint t) s = .next { s.begin t with cyc.autoTried := true, cyc.modeDue := some .run }) ∧
      (s.cyc.mode ≠ .stop ∨ s.trust.cfg.autoRun = false ∨ s.runAllowed = false →
        exec (.runPoint t) s = .next { s.begin t with cyc.autoTried := true })) ∧
    (∀ c, s.pair.mirror.bulkSince = some c → s.pair.role ≠ .active → s.paired = true → s.pair.mirror.wantBulk = true →
      (c.toNat + 64 ≤ s.cyc.cycle.toNat → Completes (.bulkTimeout t) s fun u =>
        u.pair.mirror = { s.pair.mirror with bulkSince := some s.cyc.cycle, held := [] } ∧ u.rail = s.rail) ∧
      (s.cyc.cycle.toNat < c.toNat + 64 → exec (.bulkTimeout t) s = .next (s.begin t)))

/-- The start (R33, R37, R345, R366, R368, R424, R427, R439, R476 to R480, R488, R506). The first feed starts the charge, and PP-OUT; at 60 %,
with the supplies within limits for 1 ms, M and K are released; K takes the copies that verify, counts the start and brings the network
dies up, and without a copy of the boot record, or an image that it may load, nothing starts; at the first boundary the joined lanes vote,
in STOP, in cycle 0, with the railway cold; an unpaired module has raised its epoch and holds the Lamp, a paired one listens. A stop for
want of supplies ends in the same start. Readings of the model: logs 78, 113. -/
def Obligations.StartSequence : Prop :=
  ∀ (s : State) (t : Time) (f : Feed) (straps : BitVec 2) (fault : Bool) (charge : Nat),
    (∀ c : Instr, (c = .powerOn t f straps fault charge ∧ s.v.power.phase = .off) ∨
        (c = .restartAfterPowerFail t f straps fault charge ∧ s.v.power.phase = .stopped) → Completes c s fun u =>
      u.v.power.phase = .charging ∧ u.v.strap = (if fault = true then 3 else straps) ∧ u.v.ppOut = true ∧ u.outbox = [.ppOut true] ∧
      u.v.power.charge = min 100 charge ∧ u.v.power.feed f = true ∧ u.v.power.within = some u.now ∧
      u = { s.begin t with v := u.v, outbox := u.outbox }) ∧
    (s.v.power.phase ≠ .off → exec (.powerOn t f straps fault charge) s =
      .next { s.begin t with v.power := s.v.power.setFeed f true }) ∧
    (s.v.power.phase ≠ .stopped → exec (.restartAfterPowerFail t f straps fault charge) s = .next (s.begin t)) ∧
    (s.v.power.phase = .charging →
      (60 ≤ charge → (s.begin t).suppliesGood = true → Completes (.holdUpReady t charge) s fun u =>
        u.v.power.phase = .booting ∧ u.dies = { s.dies with mUp := true, kUp := true } ∧ u.cyc = s.cyc) ∧
      (charge < 60 ∨ (s.begin t).suppliesGood = false → Completes (.holdUpReady t charge) s fun u =>
        u.v.power.phase = .charging ∧ u.dies = s.dies)) ∧
    (∀ boot sealCopies : BitVec 2, s.v.power.phase = .booting →
      (∀ r v, (s.begin t).readBoot boot = some r → v = r.bootFrom sealCopies →
        (v.loadable v.upd.running = true → Completes (.kBootComplete t ⟨boot, sealCopies⟩) s fun u =>
          u.v.power.phase = .joining ∧ u.v.power.loadedAt = some u.now ∧
          u.upd.boot.bootCount = (if boot.getLsbD 1 = true ∧ (boot.getLsbD 0 = true →
            s.m.boot1.generation.toNat < s.m.boot2.generation.toNat) then s.m.boot2 else s.m.boot1).bootCount + 1 ∧
          u.dieUp .n1 = true ∧ u.dieUp .n2 = true ∧
          (r.upd.boot.trial = none → u.upd.running = r.upd.boot.committed ∧ u.upd.onTrial = false) ∧ ∀ l, u.lane l = s.lane l) ∧
        (v.loadable v.upd.running = false → Completes (.kBootComplete t ⟨boot, sealCopies⟩) s fun u =>
          u.v.power.phase = .dead ∧ ∀ l, u.lane l = s.lane l)) ∧
      (boot = 0 → exec (.kBootComplete t ⟨boot, sealCopies⟩) s = .next { s.begin t with v.power.phase := .dead })) ∧
    (s.v.power.phase = .joining → 2 ≤ s.joinedLanes.length → s.cyc.mode = .stop → (s.dieOut .n1 && s.dieOut .n2) = false →
      s.flt.safelight.on = false → s.m.lamp1.lockout = false → s.m.lamp2.lockout = false → s.dies.archiveBad = [] →
      s.dies.bootUnread = false → s.dies.kFaulted = false → (∀ l, (s.lane l).calls = 0) → s.flt.injection = none →
      (∀ l ∈ s.joinedLanes, (s.lane l).board.debounced &&& (s.image.modeMask fun m => m = .output || m = .paired) = 0) →
      ∀ known, known = ((s.begin t).readLamp).pair.epochKnown →
      (s.v.strap = 0 → s.pair.role = .unpaired → known ≠ 0xFFFFFFFF → Completes (.firstBoundary t) s fun u =>
        u.v.power.phase = .running ∧ u.cyc.cycle = 0 ∧ u.cyc.start = u.now ∧ u.cyc.phase = .expose ∧ u.cyc.mode = s.cyc.mode ∧
        u.rail = (s.begin t).startRail ∧ u.rail.settleEnd.isSome = true ∧ u.pair.epochOwn = known + 1 ∧
        u.flt.persistent.epoch = known + 1 ∧ u.holdsLamp = true ∧ .syncPulse ∈ u.outbox ∧
        (∀ l ∈ s.joinedLanes, (u.lane l).phase = .voting) ∧ ∀ l, l ∉ s.joinedLanes → u.lane l = s.lane l) ∧
      (s.v.strap = 1 ∨ s.v.strap = 2 → Completes (.firstBoundary t) s fun u =>
        u.v.power.phase = .running ∧ u.cyc.cycle = 0 ∧ u.pair.role = .standby ∧ u.pair.listenSince = some u.now ∧
        u.holdsLamp = false ∧ .ppOut true ∈ u.outbox))

/-- Supplies and ports (R262, R290, R400, R485 to R489, R503, R504): one feed lost is a NOTE and nothing more; with both lost the module rides
through with 60 % or more in its hold-up store, and else stops: every die in reset, what the archive holds kept. A feed that returns in
time ends the ride-through, a stop that has begun goes on. A refused module in a cage carries nothing. Readings of the model: log 91. -/
def Obligations.SuppliesAndPorts : Prop :=
  ∀ (s : State) (t : Time) (f : Feed) (charge : Nat),
    (s.v.power.feed f = false → exec (.feedLoss t f) s = .next (s.begin t)) ∧
    (s.v.power.feed f = true → s.calm → s.heldWithout none → (∀ l, (s.lane l).phase.live = true ∧ s.baseline l (feedSource f)) →
      Completes (.feedLoss t f) s fun u =>
        u.v = { s.v with power := { s.v.power.setFeed f false with lastLost := f } } ∧ u.cyc = s.cyc ∧ u.rail = s.rail ∧
        ∀ l, u.lane l = { s.lane l with bath := (u.lane l).bath } ∧
          (u.lane l).bath.sticky = (s.lane l).bath.sticky ||| srcBit (feedSource f)) ∧
    (s.v.power.phase = .running →
      (60 ≤ charge → Completes (.bothFeedsLost t charge) s fun u =>
        u.v.power.phase = .rideThrough ∧ u.v.power.lossAt = some u.now ∧ (∀ g, u.v.power.feed g = false) ∧
        (s.v.power.feedA = false → s.v.power.feedB = false → u = { s.begin t with v := u.v })) ∧
      (charge < 60 → Completes (.bothFeedsLost t charge) s fun u =>
        u.v.power.phase = .stopped ∧ u.net.sessions = [] ∧ u.neg.queue = [] ∧ u.dies.kUp = false ∧ u.cyc.mode = .stop ∧
        (∀ l, u.lane l = {}) ∧ u.trust.cfg = s.trust.cfg ∧ u.upd.boot = s.upd.boot ∧
        (s.v.power.feedA = false → s.v.power.feedB = false → u.flt.persistent = s.flt.persistent))) ∧
    (s.v.power.phase = .charging ∨ s.v.power.phase = .booting ∨ s.v.power.phase = .joining → Completes (.bothFeedsLost t charge) s fun u =>
      u.v.power.phase = .stopped ∧ u.dies.kUp = false ∧ ∀ l, u.lane l = {}) ∧
    (s.v.power.phase = .rideThrough → Completes (.feedReturn t f) s fun u =>
      u.v.power.phase = .running ∧ u.v.power.feed f = true ∧ u.v.power.lossAt = none ∧ u = { s.begin t with v := u.v }) ∧
    (s.v.power.phase ≠ .rideThrough → exec (.feedReturn t f) s = .next { s.begin t with v.power := s.v.power.setFeed f true }) ∧
    (∀ w, s.v.power.phase = .rideThrough → s.v.power.lossAt = some w →
      (w + 10000000 ≤ t ∨ charge ≤ 60 → Completes (.rideThroughEnd t charge) s fun u =>
        u.v.power.phase = .stopped ∧ (∀ l, u.lane l = {}) ∧ u.flt.persistent = s.flt.persistent) ∧
      (max s.now t < w + 10000000 → 60 < charge → Completes (.rideThroughEnd t charge) s fun u =>
        u.v.power.phase = .rideThrough ∧ u = { s.begin t with v := u.v })) ∧
    (s.v.power.phase ≠ .rideThrough → exec (.rideThroughEnd t charge) s = .next (s.begin t)) ∧
    (s.v.power.phase ≠ .off → 90 ≤ charge → Completes (.lowSupplyChange t charge false) s fun u =>
      u.v.power.lowSupply = false ∧ u = { s.begin t with v := u.v }) ∧
    (∀ low, s.v.power.phase ≠ .off → charge < 90 ∨ low = true → s.calm → s.heldWithout none →
      (∀ l, (s.lane l).phase.live = true ∧ s.baseline l 0x1D2) → Completes (.lowSupplyChange t charge low) s fun u =>
        u.v.power.lowSupply = true ∧ u.cyc = s.cyc ∧
        ∀ l, (u.lane l).bath.sticky = (s.lane l).bath.sticky ||| srcBit 0x1D2 ∧ (u.lane l).phase = (s.lane l).phase) ∧
    (∀ low, s.v.power.phase = .off → exec (.lowSupplyChange t charge low) s = .next (s.begin t)) ∧
    (∀ (p : Port), s.tabled →
      ((cageOf p).isSome = true → (Completes (.sfpInserted t p false) s fun u =>
          (u.port p).refusedSfp = true ∧ (u.port p).up = false ∧ (∀ q, q ≠ p → u.port q = s.port q) ∧ u.net.sessions = s.net.sessions) ∧
        (Completes (.sfpInserted t p true) s fun u =>
          (u.port p).refusedSfp = false ∧ (u.port p).up = (s.port p).up ∧ (∀ q, q ≠ p → u.port q = s.port q) ∧
          u = { s.begin t with net := u.net })) ∧
      (∀ accepted, cageOf p = none → exec (.sfpInserted t p accepted) s = .next (s.begin t)) ∧
      (∀ up, (∀ i, p ≠ .f i) → Completes (.hostLinkChange t p up) s fun u =>
        (u.port p).up = (up && s.dieUp (portDie p) && s.portLive p && !(s.port p).outOfService && !(s.port p).refusedSfp) ∧
        (∀ q, q ≠ p → u.port q = s.port q) ∧ u = { s.begin t with net := u.net }))

/-- Images (R166, R428, R429, R430, R434 to R437, R443): a complete firmware image that passes every check of R428 stands VERIFIED, and is
printed onward, one that fails any is REJECTED, as is a logic image under R166, each with the answer its offer waits for; where no complete image waits in the slot, nothing changes; a partial image is
discarded after 600 s. At its boundary an activation whose checks hold starts every die anew, on trial, or back on the committed image;
one that fails a check is cleared; deferred, it lapses 24 h after its time. A failed conversion restarts the module after 2 s. -/
def Obligations.ImagesAndActivation : Prop :=
  ∀ (s : State) (t : Time),
    (∀ i : FwImage, i = fwImage s.offerSlot.bytes → s.offerSlot.state = .loading → s.offerSlot.held = s.offerSlot.transfer →
      s.offerSlot.transfer ≠ 0 → Completes (.firmwareImageVerified t (!s.upd.running)) s fun u =>
        u.offerSlot = { s.offerSlot with
          state := if s.imageCheck i = 0 then .verified else .rejected, image := some i, verifying := none } ∧
        (∀ e, s.offerSlot.verifying = some e → e.done = false → ∃ a, u.net.answers = s.net.answers ++ [a] ∧ a.adm = e.adm ∧
          a.status = if s.imageCheck i = 0 then 0x00 else 0x34) ∧
        (s.offerSlot.verifying = none → u.net.answers = s.net.answers) ∧
        (s.imageCheck i = 0 → ∀ k, k < s.trust.cfg.downstream.length → k < 2 →
          u.upd.boot.print k = 1 ∧ (u.printing k).begun = u.now) ∧
        (s.imageCheck i ≠ 0 ∨ s.trust.cfg.downstream = [] → u.upd.boot = s.upd.boot) ∧ u.cyc = s.cyc) ∧
    (∀ slot : Bool, slot = s.upd.running ∨ s.offerSlot.state ≠ .loading ∨ s.offerSlot.held ≠ s.offerSlot.transfer ∨
        s.offerSlot.transfer = 0 → exec (.firmwareImageVerified t slot) s = .next (s.begin t)) ∧
    (∀ (i j : Image) (sig : Bool) (signer : Nat) (hl hh : BitVec 3), j = { i with hdr := imageHeader s.loadBank.bytes } →
      (s.loadBank.state = .loading → s.loadBank.held = s.loadBank.length → s.loadBank.length ≠ 0 →
        Completes (.logicImageVerified t i sig signer hl hh) s fun u =>
          u.loadBank = { s.loadBank with
            state := if s.logicCheck j sig signer hl hh = 0 then .verified else .rejected, image := j, signer := signer, verifying := none } ∧
          (∀ e, s.loadBank.verifying = some e → e.done = false → ∃ a, u.net.answers = s.net.answers ++ [a] ∧ a.adm = e.adm ∧
            (a.status = 0x00 ↔ s.logicCheck j sig signer hl hh = 0)) ∧
          (s.loadBank.verifying = none → u.net.answers = s.net.answers) ∧
          u.bank s.logic.activeBank = s.bank s.logic.activeBank ∧ u.rail = s.rail ∧ u.cyc = s.cyc) ∧
      (s.loadBank.state ≠ .loading ∨ s.loadBank.held ≠ s.loadBank.length ∨ s.loadBank.length = 0 →
        exec (.logicImageVerified t i sig signer hl hh) s = .next (s.begin t))) ∧
    (s.offerSlot.state = .loading → s.offerSlot.verifying = none →
      (s.offerSlot.lastAt + 600000000000 ≤ t → Completes (.partialImageDiscard t) s fun u =>
        u.offerSlot = {} ∧ u = { s.begin t with upd := u.upd } ∧ u.upd.boot = s.upd.boot) ∧
      (max s.now t < s.offerSlot.lastAt + 600000000000 → exec (.partialImageDiscard t) s = .next (s.begin t))) ∧
    (s.offerSlot.state ≠ .loading ∨ s.offerSlot.verifying.isSome = true → exec (.partialImageDiscard t) s = .next (s.begin t)) ∧
    (∀ (a : W64) (h : Hash) (now : W64), s.upd.boot.activation = some (a, h) → (s.begin t).ptpTime = some now →
      (s.alive = true → (s.begin t).boundaryCycle.isSome = true →
        (now.toNat < a.toNat → exec (.activationBoundary t) s = .next (s.begin t)) ∧
        (s.upd.deferred = true → s.pair.role = .active ∨ s.releaseOwed = true → exec (.activationBoundary t) s = .next (s.begin t)) ∧
        (a.toNat ≤ now.toNat → s.upd.deferred = false ∨ (s.pair.role ≠ .active ∧ s.releaseOwed = false) →
          ((s.begin t).activationCheck h = 0 → Completes (.activationBoundary t) s fun u =>
            u.v.power.phase = .charging ∧ u.upd.boot.activation = none ∧ u.net.sessions = [] ∧ (∀ l, u.lane l = {}) ∧
            (s.upd.onTrial = false → u.upd.boot.trial = some (!s.upd.running) ∧ u.upd.boot.trialHash = h ∧ u.upd.boot.starts = 0) ∧
            (s.upd.onTrial = true → u.upd.boot.fallback = true ∧ u.upd.boot.trial = s.upd.boot.trial)) ∧
          ((s.begin t).activationCheck h = 7 → Completes (.activationBoundary t) s fun u =>
            u.upd.deferred = true ∧ u.upd.boot = s.upd.boot ∧ u.cyc = s.cyc) ∧
          (∀ k, (s.begin t).activationCheck h = k → 1 ≤ k → k ≤ 6 → Completes (.activationBoundary t) s fun u =>
            u.upd.boot.activation = none ∧ u.upd.boot.trial = s.upd.boot.trial ∧ u.cyc = s.cyc))) ∧
      (s.upd.deferred = true → a.toNat + 86400000000000 ≤ now.toNat → Completes (.deferredActivationTimeout t) s fun u =>
        u.upd.boot.activation = none ∧ u.upd.deferred = false ∧ u.cyc = s.cyc) ∧
      (s.upd.deferred = false ∨ now.toNat < a.toNat + 86400000000000 →
        exec (.deferredActivationTimeout t) s = .next (s.begin t))) ∧
    (∀ w, s.upd.conversionFailedAt = some w →
      (w + 2000000000 ≤ t → Completes (.conversionFailedRestart t) s fun u =>
        u.v.power.phase = .charging ∧ u.upd.boot = s.upd.boot ∧ u.net.sessions = [] ∧ ∀ l, u.lane l = {}) ∧
      (max s.now t < w + 2000000000 → exec (.conversionFailedRestart t) s = .next (s.begin t)))

/-- Printing to a downstream neighbour (R222, R430 to R432): a due entry is tried again after 60 s, if K carries fewer than four openings; the
neighbour's OPEN_2 brings OPEN_3, its OPEN_4 the parts, at most 64 of them unanswered; its reply DONE to the last part ends printing with
the mark 2, a refusal, or 24 h, with the mark 3; a busy part goes out again, a BAD_SEQUENCE resumes from what the neighbour holds; a
session that cannot be opened, or closes before the end, leaves the entry due. -/
def Obligations.PrintingMoves : Prop :=
  ∀ (s : State) (t : Time) (e : Fin 2) (x : Printing), x = s.printing e.val →
    (x.phase = 0 → x.lastTry + 60000000000 ≤ t → s.printDue e.val = true →
      (s.openCount < 4 → Completes (.printRetry t e) s fun u =>
        (u.printing e.val).phase = 1 ∧ (u.printing e.val).lastTry = u.now ∧ u.outbox = [.printOpen1 e.val] ∧ u.upd.boot = s.upd.boot) ∧
      (4 ≤ s.openCount → Completes (.printRetry t e) s fun u =>
        u.printing e.val = { x with lastTry := u.now } ∧ u.outbox = [] ∧ u.upd.boot = s.upd.boot)) ∧
    (max s.now t < x.lastTry + 60000000000 ∨ x.phase ≠ 0 ∨ s.printDue e.val = false →
      exec (.printRetry t e) s = .next (s.begin t)) ∧
    (s.printDue e.val = true → x.begun + 86400000000000 ≤ t → Completes (.printTimeout t e) s fun u =>
      u.upd.boot.print e.val = 3 ∧ u.printing e.val = {} ∧ u.offerSlot = s.offerSlot) ∧
    (max s.now t < x.begun + 86400000000000 ∨ s.printDue e.val = false → exec (.printTimeout t e) s = .next (s.begin t)) ∧
    (∀ r : PartReply, x.phase ≠ 3 → exec (.printPartReply t e r) s = .next (s.begin t)) ∧
    (x.phase = 3 → ∀ r : PartReply,
      (r.status = 0x00 → r.last = true → Completes (.printPartReply t e r) s fun u =>
        u.upd.boot.print e.val = 2 ∧ u.printing e.val = {} ∧ u.outbox = [.printClose e.val (x.seq + 1)]) ∧
      (r.status = 0x34 ∨ r.status = 0x13 → Completes (.printPartReply t e r) s fun u =>
        u.upd.boot.print e.val = 3 ∧ u.printing e.val = {} ∧ u.outbox = [.printClose e.val (x.seq + 1)]) ∧
      (r.status = 0x10 ∨ r.status = 0x11 → Completes (.printPartReply t e r) s fun u =>
        u.printing e.val = { x with again := x.again ++ [r.offset], unanswered := x.unanswered - 1 } ∧ u.upd.boot = s.upd.boot ∧
        u.outbox = []) ∧
      (r.status = 0x32 → Completes (.printPartReply t e r) s fun u =>
        (u.printing e.val).unanswered ≤ 64 ∧ (u.printing e.val).phase = 3 ∧ (u.printing e.val).again = [] ∧ u.upd.boot = s.upd.boot ∧
        (r.held < s.offerSlot.transfer → u.outbox.head? = some (.printPart e.val (x.seq + 1) 4 x.tray
          (beBytes 4 r.held ++ beBytes 4 s.offerSlot.transfer ++ slice s.offerSlot.bytes r.held 1016)))) ∧
      (r.status = 0x00 → r.last = false → x.unanswered ≤ 64 → Completes (.printPartReply t e r) s fun u =>
        (u.printing e.val).unanswered ≤ 64 ∧ (u.printing e.val).phase = 3 ∧ u.upd.boot = s.upd.boot ∧
        ∀ o ∈ u.outbox, ∃ seq off, o = .printPart e.val seq 4 x.tray
          (beBytes 4 off ++ beBytes 4 s.offerSlot.transfer ++ slice s.offerSlot.bytes off 1016))) ∧
    (∀ sid tray trusted, x.phase = 1 →
      (trusted = true → Completes (.printSessionReply t e (.open2 sid tray trusted)) s fun u =>
        u.printing e.val = { x with phase := 2, sid := sid, tray := tray } ∧ u.outbox = [.printOpen3 e.val]) ∧
      (trusted = false → Completes (.printSessionReply t e (.open2 sid tray trusted)) s fun u =>
        (u.printing e.val).phase = 0 ∧ u.upd.boot = s.upd.boot ∧ u.outbox = [])) ∧
    (∀ granted, x.phase = 2 →
      (granted = true → Completes (.printSessionReply t e (.open4 granted)) s fun u =>
        (u.printing e.val).phase = 3 ∧ (u.printing e.val).unanswered ≤ 64 ∧
        (0 < s.offerSlot.transfer → u.outbox.head? = some (.printPart e.val 7 4 x.tray
          (beBytes 4 0 ++ beBytes 4 s.offerSlot.transfer ++ slice s.offerSlot.bytes 0 1016)))) ∧
      (granted = false → Completes (.printSessionReply t e (.open4 granted)) s fun u =>
        (u.printing e.val).phase = 0 ∧ u.upd.boot = s.upd.boot ∧ u.outbox = [])) ∧
    (x.phase ≠ 0 → Completes (.printSessionReply t e .close) s fun u =>
      (u.printing e.val).phase = 0 ∧ u.upd.boot = s.upd.boot ∧ u.outbox = [])

/-! What the spec refuses in so many words -/

/-- Element commands on an object that is LOST or STALE (R92), and SECTION_RESET on a section with fresh data outside a settle period
(R102). -/
def Obligations.ElementCommandsRefused : Prop :=
  (∀ (e : Env) (r : Rail) (d : ObjDecl) (c : Elem) (o : Obj), o.lost = true ∨ o.stale = true →
    (c.op ∈ [0x0201, 0x0221, 0x0231, 0x0241] ∨ (c.op ∈ [0x0202, 0x0211] ∧ c.arg ≠ 1) →
      (elementCmd e r d c o).1 = 0x21 ∧ (elementCmd e r d c o).2.2 = o) ∧
    (∀ limit facing z p, c.op = 0x0202 → c.arg = 1 → d.params = .point limit facing z → o.body = .point p →
      elementCmd e r d c o = (0x00, [], { o with blocked := true })) ∧
    (∀ proving as x, c.op = 0x0211 → c.arg = 1 → d.params = .signal proving as → o.body = .signal x →
      (elementCmd e r d c o).1 = 0x00 ∧ (elementCmd e r d c o).2.2.blocked = true)) ∧
  (∀ (e : Env) (r : Rail) (d : ObjDecl) (c : Elem) (o : Obj) (delay : Nat) (axle direct : Bool) (x : SectionSt),
    o.lost = false → o.stale = false → c.op = 0x0221 → d.params = .stretch delay axle direct → o.body = .stretch x →
    (axle = false ∨ x.occ ≠ .disturbed → (elementCmd e r d c o).1 = 0x13 ∧ (elementCmd e r d c o).2.2 = o) ∧
    (axle = true → x.occ = .disturbed → direct = true → e.settle = false →
      (o.lock.mode ≠ .none → (elementCmd e r d c o).1 = 0x22 ∧ (elementCmd e r d c o).2.2 = o) ∧
      (o.lock.mode = .none → x.axles ≠ 0 → (elementCmd e r d c o).1 = 0x21 ∧ (elementCmd e r d c o).2.2 = o)))

/-- One Test Strip run at a time, and none without its part of the Slack (R448). -/
def Obligations.OneRunAtATime : Prop :=
  ∀ (s : State) (e : Entry), s.test.isSome = true ∨ s.testPart < 100000 →
    ∃ a : Answer, s.testStripRun e = { s with net.answers := s.net.answers ++ [a] } ∧ a.adm = e.adm ∧ a.status = 0x10

/-- Cycle settings (R53, R54): in STOP a CYCLE_SET whose deadlines are not at least 0.05 P apart, or under which the loaded image does not
fit, is refused with REFUSED_CONDITION; in RUN and in HOLD every CYCLE_SET is refused with MODE_REFUSED. -/
def Obligations.CycleSettingsRefused : Prop :=
  ∀ (s : State) (e : Entry),
    (s.cyc.mode = .stop → s.upd.onTrial = false →
      (¬ (e.byte 2 + 5 ≤ e.byte 3 ∧ e.byte 3 + 5 ≤ e.byte 4) ∨ (∃ i, s.image? = some i ∧ fits i.hdr e.cycleSettings s.paired = false)) →
      ∃ a : Answer, s.cycleSet e none = { s with net.answers := s.net.answers ++ [a] } ∧ a.adm = e.adm ∧ a.status = 0x21) ∧
    (s.cyc.mode ≠ .stop → ∀ conflict, ∃ a : Answer,
      s.cycleSet e conflict = { s with net.answers := s.net.answers ++ [a] } ∧ a.adm = e.adm ∧ a.status = 0x12)

/-! What the commands in the trays do -/

/-- Route commands in the locking pass (R128 to R130, R137, R141, R142): SET_ROUTE of an IDLE route whose row holds and whose claims are free
locks it; one whose row fails waits or is refused; a settle period refuses it. CANCEL_ROUTE releases a route before its proven stop signal,
and locks any other in approach; OCCUPIED refuses it. The emergency release arms at step 1, and releases at step 2 once its time has
passed. Readings of the model: log 37. -/
def Obligations.RouteCommandsAct : Prop :=
  ∀ (e : Env) (base : Rail) (d : RouteDecl) (q : Req) (p : Pass) (x : RouteSt) (o : Obj), e.img.route? q.rid = some d → q.waiting = false →
    p.rail.obj? d.oid = some o → o.body = .route x →
    (∀ mayWait limit, q.what = .set mayWait limit →
      (x.state ≠ .idle → (x.state = .locked ∨ x.state = .proven → x.fellBack = false) → passOne e base p q = p.out (q.outcome 0x13 noDetail)) ∧
      (x.state = .idle → e.settle = true → passOne e base p q = p.out (q.outcome 0x21 noDetail)) ∧
      (x.state = .idle → e.settle = false → (rowsOf e.img base d).setOk = true → d.alts = 0 →
        clash e d.rid 0 (claimsOf d none) p.rail = none →
        (passOne e base p q).outs = p.outs ++ [q.outcome 0x00 []] ∧ ((passOne e base p q).rail.routeSt d.oid).state = .locked ∧
          ((passOne e base p q).rail.routeSt d.oid).permit = true ∧ (passOne e base p q).rail = lockRoute e d none (p.rail.unwait d.rid)) ∧
      (x.state = .idle → e.settle = false → (rowsOf e.img base d).setOk = false → mayWait = false →
        ∃ det, passOne e base p q = p.out (q.outcome (if (rowsOf e.img base d).conflict = true then 0x20 else 0x21) det)) ∧
      (x.state = .idle → e.settle = false → (rowsOf e.img base d).setOk = false → mayWait = true → p.rail.waiting.length < 256 →
        (passOne e base p q).outs = p.outs ++ [q.outcome 0x02 []] ∧ ((passOne e base p q).rail.routeSt d.oid).state = .requested ∧
          ∃ w : Wait, (passOne e base p q).rail.waiting = p.rail.waiting ++ [w] ∧ w.rid = d.rid ∧ w.adm = q.adm ∧ w.since = e.now ∧
            w.limitMs = (if limit = 0 then d.waitMs else limit))) ∧
    (q.what = .cancel →
      (x.state = .idle ∨ x.state = .approachLocked → passOne e base p q = p.out (q.outcome 0x13 noDetail)) ∧
      (x.state = .occupied ∨ x.state = .releasing → passOne e base p q = p.out (q.outcome 0x22 noDetail)) ∧
      (x.state = .locked ∨ x.state = .proven → stopProven e.img base d.entry = true →
        (passOne e base p q).outs = p.outs ++ [q.outcome 0x00 []] ∧ ((passOne e base p q).rail.routeSt d.oid).state = .idle) ∧
      (x.state = .cleared ∨ ((x.state = .locked ∨ x.state = .proven) ∧ stopProven e.img base d.entry = false ∧ x.armed = false) →
        (passOne e base p q).outs = p.outs ++ [q.outcome 0x00 []] ∧ (passOne e base p q).rail.routeSt d.oid = { x with
          state := .approachLocked, timerStart := e.now,
          timerEnd := some (e.now + tk (if x.state = .cleared ∧ (rowsOf e.img base d).holdOn = false then 0 else d.approachMs)) })) ∧
    (q.what = .step1 →
      (x.armed = true → passOne e base p q = p.out (q.outcome 0x13 noDetail)) ∧
      (x.armed = false → x.state = .locked ∨ x.state = .proven ∨ x.state = .occupied ∨ x.state = .releasing →
        (passOne e base p q).outs = p.outs ++ [q.outcome 0x00 []] ∧ (passOne e base p q).rail.routeSt d.oid =
          { x with armed := true, timerStart := e.now, timerEnd := some (e.now + tk d.emergencyMs) })) ∧
    (q.what = .step2 →
      (x.armed = false → passOne e base p q = p.out (q.outcome 0x13 noDetail)) ∧
      (∀ w, x.armed = true → x.timerEnd = some w →
        (e.settle = true ∨ e.now < w ∨ stopProven e.img base d.entry = false → passOne e base p q = p.out (q.outcome 0x21 noDetail)) ∧
        (e.settle = false → w ≤ e.now → stopProven e.img base d.entry = true →
          (passOne e base p q).outs = p.outs ++ [q.outcome 0x00 []] ∧ ((passOne e base p q).rail.routeSt d.oid).state = .idle)))

/-- Element commands on an object with fresh data, outside a settle period (R95, R101, R111, R113, R254 to R258): what each commands, and what
refuses it. Readings of the model: log 43. -/
def Obligations.ElementCommandsAct : Prop :=
  ∀ (e : Env) (r : Rail) (d : ObjDecl) (c : Elem) (o : Obj), o.lost = false → o.stale = false → e.settle = false →
    (∀ limit facing z p pos, c.op = 0x0201 → d.params = .point limit facing z → o.body = .point p →
      pos = (if c.arg = 1 then Pos.normal else .reverse) →
      (atOrMoving p pos = true → elementCmd e r d c o = (0x00, [], o)) ∧
      (atOrMoving p pos = false → o.lock.mode ≠ .none → elementCmd e r d c o = (0x22, noDetail, o)) ∧
      (atOrMoving p pos = false → o.lock.mode = .none → o.blocked = true → (elementCmd e r d c o).1 = 0x21 ∧ (elementCmd e r d c o).2.2 = o) ∧
      (atOrMoving p pos = false → o.lock.mode = .none → o.blocked = false → unclear r (protectingOf e.img o.oid) = none →
        ∃ y : PointSt, elementCmd e r d c o = (0x00, [], { o with body := .point y }) ∧
          y = { p with cmd := BitVec.ofNat 2 pos.code, moving := true, start := e.now, elapsed := 0, moves := p.moves + 1 })) ∧
    (∀ limit facing z p, c.op = 0x0202 → d.params = .point limit facing z → o.body = .point p →
      elementCmd e r d c o = (0x00, [], { o with blocked := decide (c.arg = 1) })) ∧
    (∀ proving as x, c.op = 0x0211 → d.params = .signal proving as → o.body = .signal x →
      (c.arg ≠ 1 → elementCmd e r d c o = (0x00, [], { o with blocked := false })) ∧
      (c.arg = 1 → ∃ y : SignalSt, elementCmd e r d c o = (0x00, [], { o with blocked := true, body := .signal y }) ∧ y.cmd = 0)) ∧
    (∀ delay direct x, c.op = 0x0221 → d.params = .stretch delay true direct → o.body = .stretch x → x.occ = .disturbed →
      (direct = false → ∃ y : SectionSt, elementCmd e r d c o = (0x00, [], { o with body := .stretch y }) ∧ y.occ = .resetPending) ∧
      (direct = true → o.lock.mode = .none → x.axles = 0 →
        ∃ y : SectionSt, elementCmd e r d c o = (0x00, [], { o with fault := false, body := .stretch y }) ∧ y.occ = .clear)) ∧
    (∀ dep arr proving b x, c.op = 0x0231 → d.params = .block dep arr proving b → o.body = .block x →
      (x.state ≠ .failed → elementCmd e r d c o = (0x13, noDetail, o)) ∧
      (x.state = .failed → ind x.received b.inNormal = true → (x.trainOnLine = true → ind x.received b.inArrival = true) →
        ∃ y : BlockSt, elementCmd e r d c o = (0x00, [], { o with body := .block y }) ∧ y.state = .normal ∧ y.trainOnLine = false)) ∧
    (∀ points timeout routes z, c.op = 0x0241 → d.params = .zone points timeout routes → o.body = .zone z →
      (z.state ≠ .requested → elementCmd e r d c o = (0x13, noDetail, o)) ∧
      (z.state = .requested → (∀ k ∈ routes, ∀ y, r.route? e.img k = some y → y.state = .idle) →
        (∀ k ∈ points, ∀ y p, r.obj? k = some y → y.body = .point p → p.moving = false) →
        elementCmd e r d c o = (0x00, [], { o with body := .zone { z with state := .granted, barred := true, permit := true } })))

/-- The other cut commands at their Fix or release (R245, R247, R266 to R269, R273 to R275, R284, R287): what each changes beside its outcome,
and the refusals. A cut of one such command does just that. Readings of the model: logs 42, 47. -/
def Obligations.CommandsOfACut : Prop :=
  ∀ (s : State) (e : Entry) (cut : List Entry) (u : State), u = s.cutCommand cut e →
    (s.lifecyclePermits e.op = false → s.onlySays u e 0x13) ∧
    (∀ n, (∀ x ∈ s.net.entries, x.done = false) → ((s.cutUpTo n).filter fun x => !x.vital && !x.isEvent) = [e] →
      s.otherCommands n = (s.take e.adm).cutCommand [e] e) ∧
    (s.lifecyclePermits e.op = true →
      (e.op = 0x0402 → s.says u e 0x00 ∧ ∀ x, s.session? e.sid = some x → u.session? e.sid = some x.close) ∧
      (e.op = 0x0403 → s.onlySays u e 0x00) ∧
      (e.op = 0x0501 →
        (s.cyc.mode = .stop → e.byte 0 = 1 → (s.runAllowed = false → s.onlySays u e 0x13) ∧
          (s.runAllowed = true → s.says u e 0x00 ∧ u.cyc = { s.cyc with modeDue := some .run })) ∧
        (s.cyc.mode = .stop → e.byte 0 = 2 → s.onlySays u e 0x12) ∧ (s.cyc.mode = .stop → e.byte 0 = 0 → s.onlySays u e 0x00) ∧
        (s.cyc.mode ≠ .stop → e.byte 0 = 0 → s.says u e 0x00 ∧ u.cyc = { s.cyc with modeDue := some .stop }) ∧
        (s.cyc.mode = .run → e.byte 0 = 1 → s.onlySays u e 0x00) ∧ (s.cyc.mode = .run → e.byte 0 = 2 → s.onlySays u e 0x13) ∧
        (s.cyc.mode = .hold → e.byte 0 = 2 → s.onlySays u e 0x00) ∧
        (∀ h, s.cyc.mode = .hold → s.cyc.hold = some h → e.byte 0 = 1 → u = { s with
          cyc.modeDue := some .run, cyc.hold := some { h with resume := h.resume ++ [e.answer 0x00 []] } })) ∧
      (e.op = 0x0502 → s.cyc.mode = .stop → ¬ (s.upd.onTrial = true ∧ s.upd.converted = true) →
        (∀ a, earlier cut e 0x0A02 = some a → s.onlySays u e 0x20) ∧
        (earlier cut e 0x0A02 = none → e.cycleSettings.ordered = true →
          (∀ i, s.image? = some i → fits i.hdr e.cycleSettings s.paired = true) →
          s.says u e 0x00 ∧ u.cyc.cycleDue = some e.cycleSettings ∧ u.cs = s.cs)) ∧
      (e.op = 0x0503 → (s.cyc.mode ≠ .hold → s.onlySays u e 0x12) ∧
        (∀ h, s.cyc.mode = .hold → s.cyc.hold = some h → (h.since + 600000000000 ≤ s.now → s.onlySays u e 0x13) ∧
          (s.now < h.since + 600000000000 → u = { s with cyc.hold := some { h with
            stepping := true, stepOwed := h.stepOwed ++ [e.answer 0x00 []] } }))) ∧
      (e.op = 0x0621 → e.byte 1 < 32 →
        (e.byte 1 = 31 ∧ bitOf (e.byte 3) 0 = true ∨ e.byte 2 = 1 ∧ 0x17 < fieldAt e.payload 4 2 → s.onlySays u e 0x21) ∧
        ((e.byte 1 ≠ 31 ∨ bitOf (e.byte 3) 0 = false) → (e.byte 2 = 1 → fieldAt e.payload 4 2 ≤ 0x17) → s.says u e 0x00 ∧ ∀ l,
          (bitOf (e.byte 0) l.idx = false → u.lane l = s.lane l) ∧
          (bitOf (e.byte 0) l.idx = true → ∀ c, (s.lane l).counters[e.byte 1]? = some c →
            (∃ x, (u.lane l).counters[e.byte 1]? = some x ∧ x.mode = e.byte 2 ∧ x.chain = bitOf (e.byte 3) 0 ∧
              x.source = BitVec.ofNat 16 (fieldAt e.payload 4 2) ∧ x.threshold = BitVec.ofNat 32 (fieldAt e.payload 8 4) ∧
              x.value = (if bitOf (e.byte 3) 1 = true then 0 else c.value) ∧
              x.ovf = (if bitOf (e.byte 3) 1 = true then false else c.ovf)) ∧
            ∀ k, k ≠ e.byte 1 → (u.lane l).counters[k]? = (s.lane l).counters[k]?))) ∧
      (e.op = 0x0630 → bitOf (e.byte 2) 0 = false → s.says u e 0x00 ∧ u.flt = s.flt ∧ ∀ l, (u.lane l).bath.sticky =
        (s.lane l).bath.sticky &&& ~~~(namedSources (fieldAt e.payload 0 2) &&& ~~~(s.causes l))) ∧
      (e.op = 0x0630 → bitOf (e.byte 2) 0 = true → (s.mayRelease e = false → s.onlySays u e 0x13) ∧
        (s.mayRelease e = true → s.says u e 0x00 ∧ u.flt.safelight = { s.flt.safelight with lockout := false } ∧
          u.flt.persistent = { s.flt.persistent with lockout := false })) ∧
      (e.op = 0x0640 → (s.cyc.armed = true → s.onlySays u e 0x10) ∧ (s.cyc.armed = false →
        (injectable.getLsbD (fieldAt e.payload 0 2) = false → s.onlySays u e 0x21) ∧
        (injectable.getLsbD (fieldAt e.payload 0 2) = true →
          (∀ a, s.injector cut = some a → serialLt a e.adm = true → s.onlySays u e 0x20) ∧
          ((∀ a, s.injector cut = some a → serialLt a e.adm = false) → s.says u e 0x00 ∧ u.flt.injection =
            some { source := fieldAt e.payload 0 2, lane := BitVec.ofNat 8 (e.byte 2), left := e.byte 3, at_ := s.now })))) ∧
      (e.op = 0x0902 →
        (s.pair.lease.handover = none → s.onlySays u e (if s.cyc.mode = .hold then 0x12 else 0x13)) ∧
        (∀ x, s.pair.lease.handover = some x → (x.adm = e.adm → u = s) ∧ (x.adm ≠ e.adm → s.onlySays u e 0x13))) ∧
      (e.op = 0x0902 → e.done = false → ∀ n,
        (s.mayHandOver = false → s.beginHandover n = s) ∧
        (s.mayHandOver = true → e ∈ s.cutUpTo n → ∃ x ∈ s.cutUpTo n, x.op = 0x0902 ∧ x.done = false ∧
          (s.beginHandover n).pair.lease.handover = some x)) ∧
      (e.op = 0x0A02 → (s.cyc.mode = .hold → s.onlySays u e 0x12) ∧ (s.cyc.mode ≠ .hold →
        (s.loadBank.state ≠ .verified ∨ s.loadBank.image.hdr.hash ≠ BitVec.ofNat 256 (fieldAt e.payload 0 32) → s.onlySays u e 0x13) ∧
        (s.loadBank.state = .verified → s.loadBank.image.hdr.hash = BitVec.ofNat 256 (fieldAt e.payload 0 32) →
          ¬ (s.upd.onTrial = true ∧ s.upd.converted = true) →
          (∀ a, earlier cut e 0x0502 = some a → s.onlySays u e 0x20) ∧
          (earlier cut e 0x0502 = none →
            exchangeRefusal s.image? s.loadBank.image s.loadBank.state s.cs s.paired s.test.isSome s.rail = none →
            s.says u e 0x00 ∧ u.logic = { s.logic with exchangeDue := true } ∧ u.rail = s.rail)))))

/-- Service commands in the Slack (R259, R263, R264, R270 to R272, R276 to R280, R283, R285, R286): what each changes beside its
outcome, and the refusals. Readings of the model: logs 17, 76, 99, 118, 137. -/
def Obligations.ServiceCommandsAct : Prop :=
  ∀ (s : State) (e : Entry) (u : State), u = s.serviceCommand e →
    (s.lifecyclePermits e.op = false → s.onlySays u e 0x13) ∧
    (s.lifecyclePermits e.op = true →
      (e.op = 0x0301 ∨ e.op = 0x0610 ∨ e.op = 0x0901 → s.onlySays u e 0x00) ∧
      (e.op = 0x0302 →
        (4 ≤ (s.net.subs.filter fun x => x.sid = e.sid).length ∨ 128 ≤ s.net.subs.length ∨ s.slackQ < 2 * (s.standing + 20000) →
          s.onlySays u e 0x10) ∧
        ((s.net.subs.filter fun x => x.sid = e.sid).length < 4 → s.net.subs.length < 128 → 2 * (s.standing + 20000) ≤ s.slackQ →
          s.says u e 0x00 ∧ ∃ x : Subscription, u.net.subs = s.net.subs ++ [x] ∧ x.sid = e.sid ∧ 1 ≤ x.id ∧ x.id ≤ 255 ∧
            ∀ y ∈ s.net.subs, y.id ≠ x.id)) ∧
      (e.op = 0x0303 →
        ((∀ x ∈ s.net.subs, ¬ (x.id = e.byte 0 ∧ x.sid = e.sid)) → s.onlySays u e 0x13) ∧
        (∀ x ∈ s.net.subs, x.id = e.byte 0 → x.sid = e.sid → s.says u e 0x00 ∧ ∀ y, y ∈ u.net.subs ↔
          (y ∈ s.net.subs ∧ ¬ (y.id = e.byte 0 ∧ y.sid = e.sid)))) ∧
      (e.op = 0x0601 → s.test = none → 100000 ≤ s.testPart → s.testRefusal (e.byte 0) (e.byte 1) = none → ∃ r : TestRun,
        u = { s with test := some r } ∧ r.target = e.byte 0 ∧ r.index = e.byte 1 ∧ r.sid = e.sid ∧ r.adm = e.adm) ∧
      (e.op = 0x0620 → Lane.ofIdx (e.byte 0) = none → s.onlySays u e 0x30) ∧
      (e.op = 0x0620 → ∀ l, Lane.ofIdx (e.byte 0) = some l →
        ((s.lane l).phase = .down ∨ (s.lane l).phase = .loading ∨ (s.lane l).phase = .barred → s.onlySays u e 0x13) ∧
        ((s.lane l).phase ≠ .down → (s.lane l).phase ≠ .loading → (s.lane l).phase ≠ .barred → s.onlySays u e 0x00)) ∧
      (e.op = 0x0701 → ∀ off len data, off = fieldAt e.payload 0 4 → len = fieldAt e.payload 4 4 → data = e.payload.drop 8 →
        (s.upd.boot.activation.isSome = true ∨ s.upd.onTrial = true → s.onlySays u e 0x13) ∧
        (s.upd.boot.activation = none → s.upd.onTrial = false →
          (off = 0 → s.offerSlot.verifying.isSome = true → s.onlySays u e 0x10) ∧
          (off = 0 → s.offerSlot.verifying = none → u.offerSlot.state = .loading ∧ u.offerSlot.held = data.length ∧
            u.offerSlot.bytes = data ∧ u.offerSlot.transfer = len ∧ u.offerSlot.lastAt = s.now) ∧
          (off ≠ 0 → s.offerSlot.state = .loading → s.offerSlot.verifying = none →
            (off ≠ s.offerSlot.held → s.onlySays u e 0x32) ∧ (off = s.offerSlot.held → len ≠ s.offerSlot.transfer → s.onlySays u e 0x30) ∧
            (off = s.offerSlot.held → len = s.offerSlot.transfer → u.offerSlot.held = off + data.length ∧ u.offerSlot.state = .loading ∧
              u.offerSlot.bytes = s.offerSlot.bytes ++ data ∧ (off + data.length = len → u.net = s.net ∧ u.offerSlot.verifying = some e))))) ∧
      (e.op = 0x0704 → bitOf (e.byte 40) 0 = true → (s.upd.boot.activation = none → s.onlySays u e 0x13) ∧
        (s.upd.boot.activation.isSome = true → s.says u e 0x00 ∧ u.upd.boot.activation = none)) ∧
      (e.op = 0x0704 → bitOf (e.byte 40) 0 = false → ∀ h now, h = BitVec.ofNat 256 (fieldAt e.payload 8 32) →
        (s.scheduled h = false → s.onlySays u e 0x13) ∧ (s.scheduled h = true → s.trust.cfg.ownerLock = true → s.onlySays u e 0x22) ∧
        (s.scheduled h = true → s.trust.cfg.ownerLock = false → s.v.power.lowSupply = false → s.ptpTime = some now →
          now.toNat + (s.nextBoundary + deadlineNs s.cs s.cs.fixLatest - s.now) < fieldAt e.payload 0 8 →
          (s.paired = false → s.routesIdle = true) →
          s.says u e 0x00 ∧ u.upd.boot.activation = some (BitVec.ofNat 64 (fieldAt e.payload 0 8), h))) ∧
      (e.op = 0x0708 → (s.upd.onTrial = false → s.onlySays u e 0x13) ∧
        (s.upd.onTrial = true → s.upd.boot.trialHash = BitVec.ofNat 256 (fieldAt e.payload 0 32) →
          (s.upd.boot.conversionFailed = true ∨ s.upd.healthy < 16 → s.onlySays u e 0x21) ∧
          (s.upd.boot.conversionFailed = false → 16 ≤ s.upd.healthy → s.says u e 0x00 ∧ u.upd.onTrial = false ∧
            u.upd.boot.committed = s.upd.running ∧ u.upd.boot.trial = none ∧
            ∀ i, (s.slot s.upd.running).image = some i → u.upd.boot.secFloor = max s.upd.boot.secFloor i.security ∧
              u.upd.boot.keyFloor = max s.upd.boot.keyFloor i.keyFloor))) ∧
      (e.op = 0x0801 ∨ e.op = 0x0810 → e.byte 0 = 1 → (s.trust.proposal.isSome = true → s.onlySays u e 0x10) ∧
        (s.trust.proposal = none → s.says u e 0x00 ∧ u.freeCtr = s.freeCtr + 1 ∧ ∃ q : Proposal, u.trust.proposal = some q ∧
          q.nonce = Config.entropy s.freeCtr ∧ q.sid = e.sid ∧ q.openedAt = s.now ∧ (q.lifecycleChange = true ↔ e.op = 0x0810) ∧
          u.trust.cfg = s.trust.cfg)) ∧
      (e.op = 0x0801 ∨ e.op = 0x0810 → e.byte 0 = 3 → ∀ q, s.trust.proposal = some q → q.id.toNat = fieldAt e.payload 4 4 →
        (q.lifecycleChange = true ↔ e.op = 0x0810) →
        (q.sid = e.sid → e.sid ≠ 0 → s.trust.due = none → s.says u e 0x00 ∧ u.trust = { s.trust with proposal := none }) ∧
        (q.sid ≠ e.sid ∨ s.trust.due.isSome = true → s.onlySays u e 0x13)) ∧
      (e.op = 0x0802 → (s.trust.proposal = none → s.onlySays u e 0x13) ∧
        ∀ q, s.trust.proposal = some q → q.id.toNat = fieldAt e.payload 4 4 → q.complete.isSome = true → e.byte 2 = 3 → e.byte 1 = 2 →
          q.apParts = 2 → s.trust.due = none → ∀ stream, stream = q.apStream ++ e.payload.drop 8 → stream.length = 2424 →
          (signerReservedOk stream = false → s.says u e 0x30 ∧ u.trust.due = none ∧ u.trust.cfg = s.trust.cfg) ∧
          (signerReservedOk stream = true →
            ∀ h, (s.rosterFor (streamBody q.stream)).find? (fun h => h.index = streamSigner stream) = some h →
            if signatureOk h q.nonce (streamBody q.stream) stream = true then
              (h.index = q.proposer ∨ h.role = q.proposerRole → s.says u e 0x50 ∧ u.trust.due = none ∧ u.trust.cfg = s.trust.cfg) ∧
              (∀ c, h.index ≠ q.proposer → h.role ≠ q.proposerRole → s.approvedSeal q = some c → s.says u e 0x00 ∧
                u.trust = { s.trust with due := some c, proposal := some { q with apParts := 0, apStream := [] } })
            else s.says u e 0x34 ∧ u.trust.due = none ∧ u.trust.cfg = s.trust.cfg)) ∧
      (e.op = 0x0903 → (s.cyc.mode ≠ .stop → s.onlySays u e 0x12) ∧ (s.cyc.mode = .stop → ¬ (s.upd.onTrial = true ∧ s.upd.converted = true) →
        s.says u e 0x00 ∧ u.ps = s.ps ∧
        u.cyc.pairDue = some { lease := e.byte 0, essential := BitVec.ofNat 12 (fieldAt e.payload 2 2) })) ∧
      (e.op = 0x0A01 → s.logic.exchangeDue = true → s.onlySays u e 0x13) ∧
      (e.op = 0x0A01 → s.logic.exchangeDue = false → (∀ x ∈ s.net.entries, x.op = 0x0A02 → x.done = true) → s.loadBank.verifying = none →
        ∀ off len data, off = fieldAt e.payload 0 4 → len = fieldAt e.payload 4 4 → data = e.payload.drop 8 →
        u.bank s.logic.activeBank = s.bank s.logic.activeBank ∧
        (off = 0 → s.loadBank.state ≠ .loading → u.loadBank.state = .loading ∧ u.loadBank.held = data.length ∧
          u.loadBank.bytes = data ∧ u.loadBank.length = len) ∧
        (off ≠ 0 → s.loadBank.state = .loading → (off ≠ s.loadBank.held → s.onlySays u e 0x32) ∧
          (off = s.loadBank.held → len = s.loadBank.length → u.loadBank.held = off + data.length ∧ u.loadBank.state = .loading ∧
            u.loadBank.bytes = s.loadBank.bytes ++ data))))


/-! Invariants -/

/-- The module as delivered (R13, R388, R393, R407, R424, R8, R52, R285): tables of ports full, floors and Lamp epoch 0, record numbers from 1, the
Negative empty and its bucket full, the launch profile in force; nothing driven, no session, no command waiting. Every invariant
of this file holds of it. Readings of the model: logs 8, 9. -/
def Obligations.ResetState : Prop :=
  State.reset.tabled ∧ State.reset.neg.Sized ∧ State.reset.EpochOk ∧ State.reset.pending = [] ∧
  State.reset.upd.boot.secFloor = 0 ∧ State.reset.upd.boot.keyFloor = 0 ∧ State.reset.flt.persistent.epoch = 0 ∧
  State.reset.neg.next = 1 ∧ State.reset.neg.tokens = 1024 ∧ State.reset.trust.cfg.lifecycle = .provisioned ∧
  State.reset.cs.p = 50 ∧ State.reset.cs.develop = 70 ∧ State.reset.cs.mirror = 80 ∧ State.reset.cs.fixLatest = 85 ∧
  State.reset.cs.skipLimit = 2 ∧ State.reset.ps.lease = 4 ∧ State.reset.cyc.mode = .stop ∧ State.reset.cyc.outputs = 0 ∧
  State.reset.net.sessions = [] ∧ State.reset.net.entries = [] ∧ State.reset.holdsLamp = false ∧
  (∀ l, (State.reset.lane l).phase = .down ∧ (State.reset.lane l).board.cmdSwitches = 0 ∧ (State.reset.lane l).counters.length = 32)

/-- What every step keeps: the tables of ports (R13), the bounds of the Negative and of its bucket (R388, R393), and an epoch in
the archive that is never above the highest known (R356). -/
def Obligations.StepKeepsBounds : Prop :=
  ∀ s u : State, step s = .next u → (s.tabled → u.tabled) ∧ (s.neg.Sized → u.neg.Sized) ∧ (s.EpochOk → u.EpochOk)

/-- What no step takes back, from any state: the floors of K never fall (R424), nor does the epoch in the archive (R43, R356), nor the number of
the next record while the Negative is open (R393); a Negative that has taken its last number stays closed; a module that is
RETIRED, with no change due, stays RETIRED (R401); time does not run back. Readings of the model: log 132. -/
def Obligations.StepNeverTakesBack : Prop :=
  ∀ s u : State, step s = .next u →
    s.upd.boot.secFloor ≤ u.upd.boot.secFloor ∧ s.upd.boot.keyFloor ≤ u.upd.boot.keyFloor ∧
    (s.EpochOk → s.flt.persistent.epoch.toNat ≤ u.flt.persistent.epoch.toNat) ∧
    (u.neg.closed = false → s.neg.next.toNat ≤ u.neg.next.toNat) ∧ (s.neg.closed = true → u.neg.closed = true) ∧
    (s.Retired → u.Retired) ∧ s.now ≤ u.now
end

