-- ==== Sys2Proof/Laws/Keeps.lean ====
section
/-! SUPPORT. What no operation of a step takes back: the relation `Keeps`, and how it passes through the
ways in which a meaning is built. One lemma per operation stands in the files beside this one. -/

namespace Sys2Proof.Machine

/-- What stands in `s` after any number of operations on `a`: the queue and the instant are as they were,
the floors of R424, the epoch of R41 and the record number have not fallen, a closed Negative stays closed (R393), a
retired module stays retired (R401), the tables of ports keep their sizes (R13), and the Negative keeps its bounds. -/
structure Keeps (a s : State) : Prop where
  pending : s.pending = a.pending
  now : s.now = a.now
  sec : a.upd.boot.secFloor ≤ s.upd.boot.secFloor
  key : a.upd.boot.keyFloor ≤ s.upd.boot.keyFloor
  closed : a.neg.closed = true → s.neg.closed = true
  links : s.net.links.length = a.net.links.length
  hostPorts : s.net.hostPorts.length = a.net.hostPorts.length
  mirrorPorts : s.net.mirrorPorts.length = a.net.mirrorPorts.length
  epoch : a.EpochOk → s.EpochOk ∧ a.flt.persistent.epoch.toNat ≤ s.flt.persistent.epoch.toNat
  sized : a.neg.Sized → s.neg.Sized
  numbers : a.neg.next.toNat ≤ s.neg.next.toNat ∨ s.neg.closed = true
  retired : a.Retired → s.Retired

/-- Two states that agree on all that `Keeps` speaks of. -/
structure Alike (x y : State) : Prop where
  pending : y.pending = x.pending
  now : y.now = x.now
  boot : y.upd.boot = x.upd.boot
  closed : y.neg.closed = x.neg.closed
  bank1 : y.neg.bank1 = x.neg.bank1
  bank2 : y.neg.bank2 = x.neg.bank2
  tokens : y.neg.tokens = x.neg.tokens
  next : y.neg.next = x.neg.next
  lifecycle : y.trust.cfg.lifecycle = x.trust.cfg.lifecycle
  due : y.trust.due = x.trust.due
  links : y.net.links.length = x.net.links.length
  hostPorts : y.net.hostPorts.length = x.net.hostPorts.length
  mirrorPorts : y.net.mirrorPorts.length = x.net.mirrorPorts.length
  known : y.pair.epochKnown = x.pair.epochKnown
  stored : y.flt.persistent.epoch = x.flt.persistent.epoch

theorem Keeps.refl (s : State) : Keeps s s :=
  ⟨rfl, rfl, Nat.le_refl _, Nat.le_refl _, id, rfl, rfl, rfl, fun h => ⟨h, Nat.le_refl _⟩, id,
   .inl (Nat.le_refl _), id⟩

theorem Keeps.trans {a b c : State} (h : Keeps a b) (k : Keeps b c) : Keeps a c :=
  ⟨k.pending.trans h.pending, k.now.trans h.now, Nat.le_trans h.sec k.sec, Nat.le_trans h.key k.key,
   fun x => k.closed (h.closed x), k.links.trans h.links, k.hostPorts.trans h.hostPorts,
   k.mirrorPorts.trans h.mirrorPorts,
   fun x => ⟨(k.epoch (h.epoch x).1).1, Nat.le_trans (h.epoch x).2 (k.epoch (h.epoch x).1).2⟩,
   fun x => k.sized (h.sized x),
   k.numbers.elim (fun q => h.numbers.elim (fun p => .inl (Nat.le_trans p q)) fun c => .inr (k.closed c)) .inr,
   fun x => k.retired (h.retired x)⟩

theorem Alike.keeps {x y : State} (h : Alike x y) : Keeps x y where
  pending := h.pending
  now := h.now
  sec := h.boot ▸ Nat.le_refl _
  key := h.boot ▸ Nat.le_refl _
  closed := by rw [h.closed]; exact id
  links := h.links
  hostPorts := h.hostPorts
  mirrorPorts := h.mirrorPorts
  epoch := by simp only [State.EpochOk, h.known, h.stored]; exact fun x => ⟨x, Nat.le_refl _⟩
  sized := by simp only [Negative.Sized, h.bank1, h.bank2, h.tokens]; exact id
  numbers := by rw [h.next]; exact .inl (Nat.le_refl _)
  retired := by simp only [State.Retired, h.lifecycle, h.due]; exact id

/-- An update of fields that `Keeps` does not speak of. -/
theorem Keeps.upd {a x y : State} (h : Keeps a x) (k : Alike x y) : Keeps a y := h.trans k.keeps

/-- An update that leaves six of the fields alone. -/
theorem Keeps.other {a x : State} (h : Keeps a x) {ob : List Out} {fc : Nat} {v : Supervisor} {dies : Dies}
    {m : Archive} {la lb lc : LaneRec} {ab bc ca : ChanRec} {cyc : CycleRec} {rail : Rail} {fio : FieldRec} {logic : Logic}
    {test : Option TestRun} :
    Keeps a { pending := x.pending, now := x.now, outbox := ob, freeCtr := fc, v := v, dies := dies, m := m, laneA := la,
              laneB := lb, laneC := lc, chanAB := ab, chanBC := bc, chanCA := ca, cyc := cyc, rail := rail,
              fio := fio, net := x.net, logic := logic, pair := x.pair, flt := x.flt, neg := x.neg,
              trust := x.trust, upd := x.upd, test := test } :=
  h.upd ⟨rfl, rfl, rfl, rfl, rfl, rfl, rfl, rfl, rfl, rfl, rfl, rfl, rfl, rfl, rfl⟩

theorem Keeps.foldl {α : Type} {a s : State} {f : State → α → State} {l : List α} (h : Keeps a s)
    (hf : ∀ x b, Keeps a x → Keeps a (f x b)) : Keeps a (l.foldl f s) := by
  induction l generalizing s with
  | nil => exact h
  | cons b l ih => exact ih (hf _ _ h)

theorem length_modifyNth {α : Type} (l : List α) (i : Nat) (f : α → α) : (modifyNth l i f).length = l.length := by
  induction l generalizing i with
  | nil => rfl
  | cons b l ih => cases i <;> simp [modifyNth, ih]

theorem Keeps.emit {a s : State} (h : Keeps a s) {o : Out} : Keeps a (s.emit o) := h.upd (by constructor <;> rfl)

theorem Keeps.modLane {a s : State} (h : Keeps a s) {l : Lane} {f : LaneRec → LaneRec} : Keeps a (s.modLane l f) := by
  cases l <;> exact h.upd (by constructor <;> rfl)

theorem Keeps.modLink {a s : State} (h : Keeps a s) {i : Nat} {f : LinkRec → LinkRec} : Keeps a (s.modLink i f) :=
  h.upd ⟨rfl, rfl, rfl, rfl, rfl, rfl, rfl, rfl, rfl, rfl, length_modifyNth _ _ _, rfl, rfl, rfl, rfl⟩

theorem Keeps.modPort {a s : State} (h : Keeps a s) {p : Port} {f : PortRec → PortRec} : Keeps a (s.modPort p f) := by
  cases p with
  | f i => exact h.modLink
  | h i => exact h.upd ⟨rfl, rfl, rfl, rfl, rfl, rfl, rfl, rfl, rfl, rfl, rfl, length_modifyNth _ _ _, rfl, rfl, rfl⟩
  | m i => exact h.upd ⟨rfl, rfl, rfl, rfl, rfl, rfl, rfl, rfl, rfl, rfl, rfl, rfl, length_modifyNth _ _ _, rfl, rfl⟩
  | s => exact h.upd (by constructor <;> rfl)

theorem refilled_tokens_le (n : Negative) (now : Time) : (n.refilled now).tokens ≤ 1024 := Nat.min_le_left _ _

/-- A record handed to the scribe spends at most one token. -/
theorem Keeps.record {a s : State} (h : Keeps a s) {r : Record} : Keeps a (s.record r) := by
  refine h.trans ?_
  unfold State.record
  have ht := refilled_tokens_le s.neg s.now
  generalize hn : s.neg.refilled s.now = n at ht
  have hc : n.closed = s.neg.closed := by rw [← hn]; rfl
  have h1 : n.bank1 = s.neg.bank1 := by rw [← hn]; rfl
  have h2 : n.bank2 = s.neg.bank2 := by rw [← hn]; rfl
  have hx : n.next = s.neg.next := by rw [← hn]; rfl
  have key : ∀ m : Negative, m.closed = n.closed → m.bank1 = n.bank1 → m.bank2 = n.bank2 → m.tokens ≤ 1024 →
      m.next = n.next → Keeps s { s with neg := m } := fun m c b1 b2 t e =>
    ⟨rfl, rfl, Nat.le_refl _, Nat.le_refl _, by simp [c, hc], rfl, rfl, rfl, fun x => ⟨x, Nat.le_refl _⟩,
     fun x => ⟨by simpa [b1, h1] using x.1, by simpa [b2, h2] using x.2.1, t⟩,
     .inl (by simp [e, hx]), id⟩
  dsimp only
  split
  · exact Keeps.refl s
  split
  · split
    · exact key _ rfl rfl rfl ht rfl
    · exact key _ rfl rfl rfl (Nat.le_trans (Nat.sub_le _ _) ht) rfl
  · exact key _ rfl rfl rfl ht rfl

theorem length_put_ring (b : Bank) (r : Record) (h : b.ring.length ≤ 94208) : (b.put r).ring.length ≤ 94208 := by
  unfold Bank.put
  split
  · exact h
  · simp; omega

theorem length_puts_ring (l : List Record) (b : Bank) (h : b.ring.length ≤ 94208) :
    (l.foldl Bank.put b).ring.length ≤ 94208 := by
  induction l generalizing b with
  | nil => exact h
  | cons r l ih => exact ih _ (length_put_ring b r h)

/-- Writing a record keeps the bounds of the rings. -/
theorem Keeps.writeRecord {a s : State} (h : Keeps a s) {r : Record} : Keeps a (s.writeRecord r) := by
  refine h.trans ?_
  unfold State.writeRecord
  dsimp only
  split
  · exact Keeps.refl s
  · refine ⟨rfl, rfl, Nat.le_refl _, Nat.le_refl _, fun c => by simp [c], rfl, rfl, rfl, fun x => ⟨x, Nat.le_refl _⟩,
      fun x => ⟨?_, ?_, x.2.2⟩, ?_, id⟩
    · dsimp only; split
      · exact length_put_ring _ _ x.1
      · exact x.1
    · dsimp only; split
      · exact length_put_ring _ _ x.2.1
      · exact x.2.1
    · by_cases e : s.neg.next = 0xFFFFFFFF
      · exact .inr (by simp [e])
      · refine .inl ?_
        have h1 := s.neg.next.isLt
        have h2 : s.neg.next.toNat ≠ 4294967295 := fun q => e (BitVec.eq_of_toNat_eq q)
        have h3 : (1 : W32).toNat = 1 := rfl
        simp only [BitVec.toNat_add, h3]
        omega

/-- A write of the boot record that does not lower a floor (R424, R426). -/
theorem Keeps.bootWrite {a s : State} (h : Keeps a s) {f : Boot → Boot}
    (hs : s.upd.boot.secFloor ≤ (f s.upd.boot).secFloor) (hk : s.upd.boot.keyFloor ≤ (f s.upd.boot).keyFloor) :
    Keeps a (s.bootWrite f) :=
  h.trans ⟨rfl, rfl, hs, hk, id, rfl, rfl, rfl, fun x => ⟨x, Nat.le_refl _⟩, id, .inl (Nat.le_refl _), id⟩

/-- A change that takes effect, after steps that leave what is due as it was. -/
theorem Keeps.sealed {a s x : State} (h : Keeps a x) {c : SealChange} {t : Trust} (hc : s.trust.due = some c)
    (hs : Keeps a s) (h1 : t.cfg.lifecycle = c.new.lifecycle) (h2 : t.due = none) : Keeps a { x with trust := t } :=
  ⟨h.pending, h.now, h.sec, h.key, h.closed, h.links, h.hostPorts, h.mirrorPorts, h.epoch, h.sized, h.numbers,
   fun r => ⟨h1.trans ((hs.retired r).2 c hc), fun d e => by rw [h2] at e; cases e⟩⟩

/-- Another record of trust, in which a retired module stays retired (R401). -/
theorem Keeps.trusted {a s : State} (h : Keeps a s) {t : Trust}
    (k : s.Retired → t.cfg.lifecycle = .retired ∧ ∀ c, t.due = some c → c.new.lifecycle = .retired) :
    Keeps a { s with trust := t } :=
  h.trans ⟨rfl, rfl, Nat.le_refl _, Nat.le_refl _, id, rfl, rfl, rfl, fun x => ⟨x, Nat.le_refl _⟩, id,
    .inl (Nat.le_refl _), k⟩

theorem Seal.keepRetired_retired {x y : Seal} (h : y.lifecycle = .retired) : (x.keepRetired y).lifecycle = .retired := by
  simp [Seal.keepRetired, h]

theorem Keeps.elim {α : Type} {a x : State} {o : Option α} {f : α → State} (h : Keeps a x) (hf : ∀ b, Keeps a (f b)) :
    Keeps a (o.elim x f) := by
  cases o with
  | none => exact h
  | some b => exact hf b

theorem le_max32_left (a b : W32) : a.toNat ≤ (max32 a b).toNat := by
  unfold max32
  split <;> omega

theorem le_max32_right (a b : W32) : b.toNat ≤ (max32 a b).toNat := by
  unfold max32
  split <;> omega

/-- A start keeps what the archive holds (R481). -/
theorem Keeps.resetDies {a s : State} (h : Keeps a s) {p : PowerPhase} : Keeps a (s.resetDies p) :=
  h.trans ⟨rfl, rfl, Nat.le_refl _, Nat.le_refl _, id, List.length_map _, List.length_map _, List.length_map _,
    fun _ => ⟨Nat.le_refl _, Nat.le_refl _⟩, fun x => ⟨x.1, x.2.1, Nat.le_refl _⟩, .inl (Nat.le_refl _), id⟩

end Sys2Proof.Machine
end

