-- ==== Sys2Proof/Laws/KeepsFaults.lean ====
section
/-! SUPPORT. `Keeps` for every operation of records, replies, reports, Safelight and admission: one lemma per operation. -/

namespace Sys2Proof.Machine

theorem Keeps.emitAll {a s : State} (h : Keeps a s) {p1 : List Out} : Keeps a (State.emitAll s p1) := by
  unfold State.emitAll
  exact h.other

theorem Keeps.draw {a s : State} (h : Keeps a s) : Keeps a s.draw.2 := h.upd ⟨rfl, rfl, rfl, rfl, rfl, rfl, rfl, rfl, rfl, rfl, rfl, rfl, rfl, rfl, rfl⟩


theorem Keeps.setLane {a s : State} (h : Keeps a s) {p1 : Lane} {p2 : LaneRec} :
    Keeps a (State.setLane s p1 p2) := by
  unfold State.setLane
  split
  · exact h.other
  · exact h.other
  · exact h.other

theorem Keeps.modLanes {a s : State} (h : Keeps a s) {p1 : Lane → LaneRec → LaneRec} :
    Keeps a (State.modLanes s p1) := by
  unfold State.modLanes
  exact h.other

theorem Keeps.modChan {a s : State} (h : Keeps a s) {p1 : Chan} {p2 : ChanRec → ChanRec} :
    Keeps a (State.modChan s p1 p2) := by
  unfold State.modChan
  split
  · exact h.other
  · exact h.other
  · exact h.other

theorem Keeps.setDie {a s : State} (h : Keeps a s) {p1 : Die} {p2 : DieState} :
    Keeps a (State.setDie s p1 p2) := by
  unfold State.setDie
  split
  · exact h.other
  · exact h.other

theorem Keeps.lose {a s : State} (h : Keeps a s) {p1 : Port} : Keeps a (State.lose s p1) := by
  unfold State.lose
  split
  · exact h.modPort
  · exact h

theorem Keeps.darken {a s : State} (h : Keeps a s) : Keeps a (State.darken s) := by
  unfold State.darken
  exact h.modLanes

theorem Keeps.setBank {a s : State} (h : Keeps a s) {p1 : Bool} {p2 : LogicBank} :
    Keeps a (State.setBank s p1 p2) := by
  unfold State.setBank
  split
  · exact h.other
  · exact h.other

theorem Keeps.countLease {a s : State} (h : Keeps a s) {p1 : Time} : Keeps a (State.countLease s p1) := by
  unfold State.countLease
  exact h.modLanes

theorem Keeps.event {a s : State} (h : Keeps a s) {p1 : Nat} {p2 : List Byte} : Keeps a (State.event s p1 p2) := by
  unfold State.event
  exact h.record

theorem Keeps.writeFirst {a s : State} (h : Keeps a s) : Keeps a (State.writeFirst s) := by
  unfold State.writeFirst
  split
  · exact h
  · split
    · exact h
    · apply Keeps.writeRecord
      (refine h.upd ?_; constructor <;> dsimp only)

theorem Keeps.writeAll {a : State} {n : Nat} : ∀ {s : State}, Keeps a s → Keeps a (State.writeAll n s) := by
  induction n with
  | zero => exact fun h => h
  | succ k ih => exact fun h => ih h.writeFirst

theorem Keeps.storeBoot {a s : State} (h : Keeps a s) : Keeps a (State.storeBoot s) := by
  unfold State.storeBoot
  exact h.other

theorem Keeps.storeSeal {a s : State} (h : Keeps a s) : Keeps a (State.storeSeal s) := by
  unfold State.storeSeal
  exact h.other

theorem Keeps.storeLamp {a s : State} (h : Keeps a s) : Keeps a (State.storeLamp s) := by
  unfold State.storeLamp
  exact h.other

theorem Keeps.storeSettings {a s : State} (h : Keeps a s) : Keeps a (State.storeSettings s) := by
  unfold State.storeSettings
  exact h.other

theorem Keeps.readBoot {a s u : State} (h : Keeps a s) {v : BitVec 2} (e : s.readBoot v = some u) : Keeps a u := by
  unfold State.readBoot at e
  obtain ⟨c, -, rfl⟩ := Option.map_eq_some_iff.mp e
  apply Keeps.storeBoot
  exact h.trans ⟨rfl, rfl, Nat.le_max_right _ _, Nat.le_max_right _ _, id, rfl, rfl, rfl,
    fun x => ⟨x, Nat.le_refl _⟩, id, .inl (Nat.le_refl _), id⟩

theorem Keeps.readSeal {a s : State} (h : Keeps a s) {v : BitVec 2} : Keeps a (s.readSeal v) := by
  unfold State.readSeal
  split
  · exact h.other
  · extract_lets used same t x
    have hx : Keeps a x := by
      unfold x
      apply Keeps.storeSeal
      exact h.trusted fun k => ⟨Seal.keepRetired_retired k.1, k.2⟩
    split
    · exact hx
    · exact hx.event

theorem Keeps.readLamp {a s : State} (h : Keeps a s) : Keeps a s.readLamp := by
  refine h.trans ⟨rfl, rfl, Nat.le_refl _, Nat.le_refl _, id, rfl, rfl, rfl, fun x => ⟨le_max32_right _ _, ?_⟩, id,
    .inl (Nat.le_refl _), id⟩
  exact le_max32_left _ _

theorem Keeps.sendMirror {a s : State} (h : Keeps a s) {p1 : MirrorBody} : Keeps a (State.sendMirror s p1) := by
  unfold State.sendMirror
  split
  · extract_lets v1 v2 v3 v4
    apply Keeps.emit
    (refine h.upd ?_; constructor <;> dsimp only)
  · exact h

theorem Keeps.modOfferSlot {a s : State} (h : Keeps a s) {p1 : Slot → Slot} :
    Keeps a (State.modOfferSlot s p1) := by
  unfold State.modOfferSlot
  split
  · (refine h.upd ?_; constructor <;> dsimp only)
  · (refine h.upd ?_; constructor <;> dsimp only)

theorem Keeps.say {a s : State} (h : Keeps a s) {p1 : Answer} : Keeps a (State.say s p1) := by
  unfold State.say
  (refine h.upd ?_; constructor <;> dsimp only)

theorem Keeps.sayAll {a s : State} (h : Keeps a s) {p1 : List Answer} : Keeps a (State.sayAll s p1) := by
  unfold State.sayAll
  (refine h.upd ?_; constructor <;> dsimp only)

theorem Keeps.refuse {a s : State} (h : Keeps a s) {p1 : Entry} {p2 : Byte} {p3 : List Byte} :
    Keeps a (State.refuse s p1 p2 p3) := by
  unfold State.refuse
  exact h.say

theorem Keeps.done {a s : State} (h : Keeps a s) {p1 : Entry} {p2 : List Byte} : Keeps a (State.done s p1 p2) := by
  unfold State.done
  exact h.say

theorem Keeps.take {a s : State} (h : Keeps a s) {p1 : W32} : Keeps a (State.take s p1) := by
  unfold State.take
  (refine h.upd ?_; constructor <;> dsimp only)

theorem Keeps.endEntries {a s : State} (h : Keeps a s) {p1 : Entry → Bool} {p2 : Byte} {p3 : List Byte} :
    Keeps a (State.endEntries s p1 p2 p3) := by
  unfold State.endEntries
  extract_lets v1 v2 v3
  have hv2 : Keeps a v2 := by
    unfold v2
    exact h.sayAll
  clear_value v2
  (refine hv2.upd ?_; constructor <;> dsimp only)

theorem Keeps.endWaits {a s : State} (h : Keeps a s) {p1 : Byte} : Keeps a (State.endWaits s p1) := by
  unfold State.endWaits
  extract_lets v1 v2 v3 v4
  (refine h.upd ?_; constructor <;> dsimp only)

theorem Keeps.endHold {a s : State} (h : Keeps a s) {p1 : Byte} : Keeps a (State.endHold s p1) := by
  unfold State.endHold
  split
  · extract_lets v1 v2 v3
    (refine h.upd ?_; constructor <;> dsimp only)
  · exact h

theorem Keeps.enterStop {a s : State} (h : Keeps a s) : Keeps a (State.enterStop s) := by
  unfold State.enterStop
  extract_lets v1 v2 v3 v4
  have hv1 : Keeps a v1 := by
    unfold v1
    exact h.endEntries
  clear_value v1
  have hv2 : Keeps a v2 := by
    unfold v2
    exact hv1.endWaits
  clear_value v2
  apply Keeps.darken
  exact hv2.other

theorem Keeps.injectRecord {a s : State} (h : Keeps a s) {p1 : Injection} {p2 : Byte} :
    Keeps a (State.injectRecord s p1 p2) := by
  unfold State.injectRecord
  exact h.record

theorem Keeps.useInjection {a s : State} (h : Keeps a s) : Keeps a (State.useInjection s) := by
  unfold State.useInjection
  split
  · split
    · apply Keeps.injectRecord
      (refine h.upd ?_; constructor <;> dsimp only)
    · (refine h.upd ?_; constructor <;> dsimp only)
  · exact h

theorem Keeps.spendInjection {a s : State} (h : Keeps a s) : Keeps a (State.spendInjection s) := by
  unfold State.spendInjection
  split
  · apply Keeps.injectRecord
    (refine h.upd ?_; constructor <;> dsimp only)
  · exact h

theorem Keeps.repeatReport {a s : State} (h : Keeps a s) {p1 : Nat} {p2 : List Lane} :
    Keeps a (State.repeatReport s p1 p2) := by
  unfold State.repeatReport
  extract_lets v1 v2 v3 v4
  split
  · split
    · apply Keeps.record
      (refine h.upd ?_; constructor <;> dsimp only)
    · (refine h.upd ?_; constructor <;> dsimp only)
  · (refine h.upd ?_; constructor <;> dsimp only)

theorem Keeps.startRepeats {a s : State} (h : Keeps a s) {p1 : Nat} : Keeps a (State.startRepeats s p1) := by
  unfold State.startRepeats
  (refine h.upd ?_; constructor <;> dsimp only)

theorem Keeps.withdrawalRecord {a s : State} (h : Keeps a s) {p1 : Lane} {p2 : Nat} :
    Keeps a (State.withdrawalRecord s p1 p2) := by
  unfold State.withdrawalRecord
  exact h.record

theorem Keeps.withdrawOne {a s : State} (h : Keeps a s) {p1 : Lane} {p2 : Nat} :
    Keeps a (State.withdrawOne s p1 p2) := by
  unfold State.withdrawOne
  split
  · apply Keeps.modLane
    exact h.withdrawalRecord
  · exact h

theorem Keeps.loseSource {a s : State} (h : Keeps a s) {p1 : Lane} : Keeps a (State.loseSource s p1) := by
  unfold State.loseSource
  split
  · extract_lets v1
    have hv1 : Keeps a v1 := by
      unfold v1
      exact h.modLane
    clear_value v1
    apply Keeps.withdrawOne
    exact hv1.record
  · exact h

theorem Keeps.withdraw {a s : State} (h : Keeps a s) {p1 : Lane} {p2 : Nat} :
    Keeps a (State.withdraw s p1 p2) := by
  unfold State.withdraw
  extract_lets v1 v2
  have hv2 : Keeps a v2 := by
    unfold v2
    exact h.withdrawOne
  clear_value v2
  split
  · refine Keeps.foldl ?_ ?_
    · exact hv2
    · intro x3 b5 k4
      exact k4.loseSource
  · exact hv2

theorem Keeps.loseDie {a s : State} (h : Keeps a s) {p1 : Die} : Keeps a (State.loseDie s p1) := by
  unfold State.loseDie
  extract_lets v1 v2
  have hv1 : Keeps a v1 := by
    unfold v1
    exact h.setDie
  clear_value v1
  (refine hv1.upd ?_; constructor <;> dsimp only)

theorem Keeps.detectorReset {a s : State} (h : Keeps a s) {p1 : Nat} {p2 : List Lane} :
    Keeps a (State.detectorReset s p1 p2) := by
  unfold State.detectorReset
  split
  · refine Keeps.foldl ?_ ?_
    · exact h
    · intro x1 b3 k2
      exact k2.modLane
  · split
    · refine Keeps.foldl ?_ ?_
      · exact h
      · intro x4 b6 k5
        exact k5.modLane
    · split
      · refine Keeps.foldl ?_ ?_
        · exact h
        · intro x7 b9 k8
          exact k8.modLane
      · split
        · exact h.modChan
        · split
          · exact h.modChan
          · split
            · exact h.modChan
            · exact h

theorem Keeps.blockOut {a s : State} (h : Keeps a s) {p1 : Block} {p2 : Nat} :
    Keeps a (State.blockOut s p1 p2) := by
  unfold State.blockOut
  extract_lets v1 v2
  have hv2 : Keeps a v2 := by
    unfold v2
    exact h.other
  clear_value v2
  split
  · exact hv2.withdraw
  · exact hv2.withdraw
  · exact hv2.modPort
  · exact hv2.loseDie

theorem Keeps.rinse {a s : State} (h : Keeps a s) {p1 : Block} {p2 : Nat} : Keeps a (State.rinse s p1 p2) := by
  unfold State.rinse
  extract_lets v1 v2 v3
  have hv3 : Keeps a v3 := by
    unfold v3
    exact h.other
  clear_value v3
  split
  · apply Keeps.blockOut
    exact h.other
  · split
    · exact hv3.setDie
    · exact hv3.modPort
    · exact hv3

theorem Keeps.reactLane {a s : State} (h : Keeps a s) {p1 : Nat} {p2 : Nat} {p3 : Nat} {p4 : Lane} :
    Keeps a (State.reactLane s p1 p2 p3 p4) := by
  unfold State.reactLane
  split
  · exact h.modLane
  · split
    · exact h.withdraw
    · split
      · split
        · exact h.detectorReset
        · split
          · exact h.rinse
          · exact h
      · exact h

theorem Keeps.reactModule {a s : State} (h : Keeps a s) {p1 : Nat} {p2 : Nat} {p3 : Nat} {p4 : List Lane} :
    Keeps a (State.reactModule s p1 p2 p3 p4) := by
  unfold State.reactModule
  split
  · refine Keeps.foldl ?_ ?_
    · exact h
    · intro x1 b3 k2
      exact k2.modLane
  · split
    · split
      · exact h.withdraw
      · split
        · exact h.loseDie
        · split
          · exact h.loseDie
          · split
            · exact h.blockOut
            · exact h
    · split
      · split
        · exact h.detectorReset
        · split
          · exact h.rinse
          · exact h
      · exact h

theorem Keeps.ceaseHolding {a s : State} (h : Keeps a s) {p1 : Option Byte} :
    Keeps a (State.ceaseHolding s p1) := by
  unfold State.ceaseHolding
  split
  · exact h
  · extract_lets v1 v2 v3 v4 v5
    have hv1 : Keeps a v1 := by
      unfold v1
      apply Keeps.modLanes
      exact h.darken
    clear_value v1
    have hv3 : Keeps a v3 := by
      unfold v3
      split
      · exact hv1.sendMirror
      · exact hv1
    clear_value v3
    (refine hv3.upd ?_; constructor <;> dsimp only)

theorem Keeps.storeLockout {a s : State} (h : Keeps a s) {p1 : Nat} : Keeps a (State.storeLockout s p1) := by
  unfold State.storeLockout
  split
  · exact h
  · apply Keeps.storeLamp
    (refine h.upd ?_; constructor <;> dsimp only)

theorem Keeps.discardCycle {a s : State} (h : Keeps a s) : Keeps a (State.discardCycle s) := by
  unfold State.discardCycle
  split
  · exact h
  · exact h
  · exact h
  · exact h
  · exact h
  · exact h.other

theorem Keeps.endTest {a s : State} (h : Keeps a s) {p1 : Byte} {p2 : Byte} {p3 : List Byte} :
    Keeps a (State.endTest s p1 p2 p3) := by
  unfold State.endTest
  split
  · exact h
  · extract_lets v1 v2 v3 v4 v5
    have hv3 : Keeps a v3 := by
      unfold v3
      split
      · exact h.event
      · exact h
    clear_value v3
    have hv5 : Keeps a v5 := by
      unfold v5
      exact hv3.modLanes
    clear_value v5
    apply Keeps.say
    exact hv5.other

theorem Keeps.noteFound {a s : State} (h : Keeps a s) {p1 : Nat} {p2 : List Lane} :
    Keeps a (State.noteFound s p1 p2) := by
  unfold State.noteFound
  exact h.other

theorem Keeps.endVerifying {a s : State} (h : Keeps a s) {p1 : Byte} : Keeps a (State.endVerifying s p1) := by
  unfold State.endVerifying
  extract_lets v1 v2 v3 v4 v5 v6 v7 v8 v9 v10
  have hv4 : Keeps a v4 := by
    unfold v4
    exact h.sayAll
  clear_value v4
  (refine hv4.upd ?_; constructor <;> dsimp only)

theorem Keeps.endHandover {a s : State} (h : Keeps a s) {p1 : Byte} {p2 : List Byte} :
    Keeps a (State.endHandover s p1 p2) := by
  unfold State.endHandover
  split
  · extract_lets v1 v2 v3
    have hv3 : Keeps a v3 := by
      unfold v3
      (refine h.upd ?_; constructor <;> dsimp only)
    clear_value v3
    apply Keeps.refuse
    exact hv3.take
  · exact h

theorem Keeps.enterSafelight {a s : State} (h : Keeps a s) {p1 : Nat} {p2 : Nat} :
    Keeps a (State.enterSafelight s p1 p2) := by
  unfold State.enterSafelight
  extract_lets v1 v2 v3 v4 v5 v6 v7 v8 v9 v10 v11 v12 v13 v14 v15 v16
  have hv4 : Keeps a v4 := by
    unfold v4
    exact h.darken
  clear_value v4
  have hv7 : Keeps a v7 := by
    unfold v7
    exact hv4.other
  clear_value v7
  have hv8 : Keeps a v8 := by
    unfold v8
    exact hv7.endHandover
  clear_value v8
  have hv9 : Keeps a v9 := by
    unfold v9
    exact hv8.ceaseHolding
  clear_value v9
  have hv10 : Keeps a v10 := by
    unfold v10
    exact hv9.endHold
  clear_value v10
  have hv11 : Keeps a v11 := by
    unfold v11
    exact hv10.endEntries
  clear_value v11
  have hv12 : Keeps a v12 := by
    unfold v12
    apply Keeps.endTest
    exact hv11.endVerifying
  clear_value v12
  have hv13 : Keeps a v13 := by
    unfold v13
    apply Keeps.discardCycle
    exact hv12.enterStop
  clear_value v13
  have hv15 : Keeps a v15 := by
    unfold v15
    (refine hv13.upd ?_; constructor <;> dsimp only)
  clear_value v15
  have hv16 : Keeps a v16 := by
    unfold v16
    split
    · exact hv15.storeLockout
    · exact hv15
  clear_value v16
  split
  · split
    · apply Keeps.storeLockout
      (refine h.upd ?_; constructor <;> dsimp only)
    · exact h
  · exact hv16.record

theorem Keeps.markAside {a s : State} (h : Keeps a s) {p1 : SrcClass} {p2 : Nat} :
    Keeps a (State.markAside s p1 p2) := by
  unfold State.markAside
  split
  · exact h
  · extract_lets v1
    exact h.modLanes

theorem Keeps.callAll {a s : State} (h : Keeps a s) {p1 : Nat} : Keeps a (State.callAll s p1) := by
  unfold State.callAll
  split
  · exact h
  · extract_lets v1 v2 v3 v4
    have hv4 : Keeps a v4 := by
      unfold v4
      apply Keeps.markAside
      refine Keeps.foldl ?_ ?_
      · exact h
      · intro x5 b7 k6
        exact k6.modLane
    clear_value v4
    split
    · apply Keeps.startRepeats
      exact hv4.record
    · exact hv4.repeatReport

theorem Keeps.callThree {a s : State} (h : Keeps a s) {p1 : Nat} : Keeps a (State.callThree s p1) := by
  unfold State.callThree
  refine Keeps.foldl ?_ ?_
  · exact h
  · intro x1 b3 k2
    exact k2.modLane

theorem Keeps.judge {a s : State} (h : Keeps a s) {p1 : Nat} : Keeps a (State.judge s p1) := by
  unfold State.judge
  extract_lets v1 v2 v3 v4
  have hv1 : Keeps a v1 := by
    unfold v1
    split
    · exact h.callThree
    · exact h
  clear_value v1
  have hv3 : Keeps a v3 := by
    unfold v3
    split
    · exact hv1.enterSafelight
    · exact hv1
  clear_value v3
  have hv4 : Keeps a v4 := by
    unfold v4
    exact hv3.callAll
  clear_value v4
  split
  · exact hv4.enterSafelight
  · exact hv3

theorem Keeps.withdrawAgain {a s : State} (h : Keeps a s) {p1 : Nat} {p2 : List Lane} :
    Keeps a (State.withdrawAgain s p1 p2) := by
  unfold State.withdrawAgain
  extract_lets v1
  refine Keeps.foldl ?_ ?_
  · exact h
  · intro x2 b4 k3
    split
    · exact k3.withdraw
    · exact k3

theorem Keeps.report {a s : State} (h : Keeps a s) {p1 : Nat} {p2 : List Lane} {p3 : List Byte} :
    Keeps a (State.report s p1 p2 p3) := by
  unfold State.report
  split
  · exact h
  · extract_lets v1 v2 v3 v4 v5 v6 v7 v8 v9 v10 v11 v12 v13 v14 v15 v16
    have hv3 : Keeps a v3 := by
      unfold v3
      apply Keeps.markAside
      exact h.noteFound
    clear_value v3
    have hv4 : Keeps a v4 := by
      unfold v4
      refine Keeps.foldl ?_ ?_
      · exact hv3
      · intro x17 b19 k18
        exact k18.modLane
    clear_value v4
    have hv6 : Keeps a v6 := by
      unfold v6
      refine Keeps.foldl ?_ ?_
      · exact hv4
      · intro x20 b22 k21
        exact k21.modLane
    clear_value v6
    have hv11 : Keeps a v11 := by
      unfold v11
      apply Keeps.repeatReport
      split
      · exact hv6.useInjection
      · exact hv6
    clear_value v11
    have hv14 : Keeps a v14 := by
      unfold v14
      exact hv6.record
    clear_value v14
    have hv15 : Keeps a v15 := by
      unfold v15
      split
      · refine Keeps.foldl ?_ ?_
        · exact hv14
        · intro x23 b25 k24
          exact k24.reactLane
      · split
        · exact hv14
        · exact hv14.reactModule
    clear_value v15
    have hv16 : Keeps a v16 := by
      unfold v16
      split
      · exact hv15.useInjection
      · exact hv15
    clear_value v16
    split
    · exact hv6
    · split
      · split
        · exact hv11
        · apply Keeps.judge
          exact hv11.withdrawAgain
      · apply Keeps.judge
        apply Keeps.withdrawAgain
        exact hv16.startRepeats

theorem Keeps.note {a s : State} (h : Keeps a s) {p1 : Nat} {p2 : List Lane} : Keeps a (State.note s p1 p2) := by
  unfold State.note
  exact h.report

theorem Keeps.noteOut {a s : State} (h : Keeps a s) {p1 : Nat} {p2 : Lane} : Keeps a (State.noteOut s p1 p2) := by
  unfold State.noteOut
  apply Keeps.judge
  apply Keeps.withdraw
  exact h.note

theorem Keeps.voteFault {a s : State} (h : Keeps a s) {p1 : Nat} : Keeps a (State.voteFault s p1) := by
  unfold State.voteFault
  extract_lets v1
  have hv1 : Keeps a v1 := by
    unfold v1
    exact h.callAll
  clear_value v1
  exact hv1.enterSafelight

theorem Keeps.modSession {a s : State} (h : Keeps a s) {p1 : Nat} {p2 : Session → Session} :
    Keeps a (State.modSession s p1 p2) := by
  unfold State.modSession
  (refine h.upd ?_; constructor <;> dsimp only)

theorem Keeps.sendIn {a s : State} (h : Keeps a s) {p1 : Nat} {p2 : PktForm} {p3 : Bool} {p4 : W16} {p5 : W32}
    {p6 : List Byte} :
    Keeps a (State.sendIn s p1 p2 p3 p4 p5 p6) := by
  unfold State.sendIn
  split
  · exact h
  · split
    · exact h
    · apply Keeps.emit
      exact h.modSession

theorem Keeps.sendOut {a s : State} (h : Keeps a s) {p1 : Pkt} {p2 : W16} {p3 : List Byte} :
    Keeps a (State.sendOut s p1 p2 p3) := by
  unfold State.sendOut
  exact h.emit

theorem Keeps.refuseIn {a s : State} (h : Keeps a s) {p1 : Session} {p2 : W16} {p3 : W32} {p4 : Byte} {p5 : List
    Byte} :
    Keeps a (State.refuseIn s p1 p2 p3 p4 p5) := by
  unfold State.refuseIn
  extract_lets v1
  have hv1 : Keeps a v1 := by
    unfold v1
    exact h.modSession
  clear_value v1
  exact hv1.sendIn

theorem Keeps.uncheckedStamp {a s : State} (h : Keeps a s) {p1 : Session} :
    Keeps a (State.uncheckedStamp s p1) := by
  unfold State.uncheckedStamp
  split
  · exact h
  · apply Keeps.event
    exact h.other

theorem Keeps.admitCommand {a s : State} (h : Keeps a s) {p1 : Session} {p2 : Pkt} {p3 : Nat} {p4 : OpRow} :
    Keeps a (State.admitCommand s p1 p2 p3 p4) := by
  unfold State.admitCommand
  extract_lets v1 v2 v3
  have hv2 : Keeps a v2 := by
    unfold v2
    exact h.uncheckedStamp
  clear_value v2
  split
  · exact h.refuseIn
  · extract_lets v4 v5 v6
    have hv5 : Keeps a v5 := by
      unfold v5
      (refine hv2.upd ?_; constructor <;> dsimp only)
    clear_value v5
    exact hv5.sendIn

theorem Keeps.passChecks {a s : State} (h : Keeps a s) {x : Session} {p : Pkt} {op : Nat} :
    (∀ y, s.passChecks x p op = .inl y → Keeps a y) ∧ ∀ y, s.passChecks x p op = .inr y → Keeps a y := by
  unfold State.passChecks
  extract_lets no
  have hno : ∀ {t : State} {b : Byte}, Keeps a t →
      (∀ y, no t b = .inl y → Keeps a y) ∧ ∀ y, no t b = .inr y → Keeps a y := fun k =>
    ⟨fun y e => by rw [← Sum.inl.inj e]; exact k.refuseIn, fun y e => (nomatch e)⟩
  clear_value no
  split
  · exact hno h
  split
  · exact hno h
  split
  · exact hno h
  split
  · exact ⟨fun y e => by rw [← Sum.inl.inj e]; exact h, fun y e => (nomatch e)⟩
  · exact hno h
  · exact hno h.modSession
  · dsimp only
    split
    · exact hno h.modSession
    split
    · exact hno h.modSession
    · exact ⟨fun y e => (nomatch e), fun y e => by rw [← Sum.inr.inj e]; exact h.modSession.modSession⟩

theorem Keeps.receiveIn {a s : State} (h : Keeps a s) {p1 : Session} {p2 : Pkt} {p3 : Nat} {p4 : OpRow} :
    Keeps a (State.receiveIn s p1 p2 p3 p4) := by
  unfold State.receiveIn
  split
  · (apply h.passChecks.1; assumption)
  · extract_lets v1
    split
    · unfold v1
      apply Keeps.refuseIn
      (apply h.passChecks.2; assumption)
    · split
      · unfold v1
        apply Keeps.refuseIn
        (apply h.passChecks.2; assumption)
      · split
        · unfold v1
          apply Keeps.refuseIn
          (apply h.passChecks.2; assumption)
        · split
          · unfold v1
            apply Keeps.refuseIn
            (apply h.passChecks.2; assumption)
          · apply Keeps.admitCommand
            (apply h.passChecks.2; assumption)

theorem Keeps.badSession {a s : State} (h : Keeps a s) {p1 : Pkt} {p2 : Nat} :
    Keeps a (State.badSession s p1 p2) := by
  unfold State.badSession
  split
  · split
    · exact h.refuseIn
    · exact h.sendOut
  · exact h.sendOut

theorem Keeps.discard {a s : State} (h : Keeps a s) {p1 : Port} : Keeps a (State.discard s p1) := by
  unfold State.discard
  exact h.modPort

theorem Keeps.receive {a s : State} (h : Keeps a s) {p1 : Nat} {p2 : Pkt} : Keeps a (State.receive s p1 p2) := by
  unfold State.receive
  split
  · exact h.lose
  · split
    · exact h.discard
    · split
      · split
        · exact h.receiveIn
        · exact h.badSession
      · exact h.badSession

end Sys2Proof.Machine
end

