-- ==== Sys2Proof/Laws/KeepsTrust.lean ====
section
/-! SUPPORT. `Keeps` for every operation of seal, sessions and field links: one lemma per operation. -/

namespace Sys2Proof.Machine

theorem Keeps.attest {a s : State} (h : Keeps a s) {p1 : Byte} : Keeps a (State.attest s p1) := by
  unfold State.attest
  extract_lets v1
  exact h.event

theorem Keeps.signHead {a s : State} (h : Keeps a s) : Keeps a (State.signHead s) := by
  unfold State.signHead
  split
  · extract_lets v1 v2 v3 v4 v5 v6 v7 v8 v9
    have hv1 : Keeps a v1 := by
      unfold v1
      exact h.attest
    clear_value v1
    have hv3 : Keeps a v3 := by
      unfold v3
      (refine hv1.upd ?_; constructor <;> dsimp only)
    clear_value v3
    have hv4 : Keeps a v4 := by
      unfold v4
      exact hv3.writeAll
    clear_value v4
    have hv8 : Keeps a v8 := by
      unfold v8
      refine Keeps.foldl ?_ ?_
      · exact hv4
      · intro x10 b12 k11
        exact k11.writeRecord
    clear_value v8
    (refine hv8.upd ?_; constructor <;> dsimp only)
  · exact h

theorem Keeps.wantSignature {a s : State} (h : Keeps a s) {p1 : Byte} : Keeps a (State.wantSignature s p1) := by
  unfold State.wantSignature
  (refine h.upd ?_; constructor <;> dsimp only)

theorem Keeps.proposalNonce {a s : State} (h : Keeps a s) {p1 : Entry} {p2 : Bool} :
    Keeps a (State.proposalNonce s p1 p2) := by
  unfold State.proposalNonce
  split
  · exact h.refuse
  · extract_lets v1 v2 v3 v4 v5 v6
    have hv4 : Keeps a v4 := by
      unfold v4
      exact h.draw
    clear_value v4
    have hv6 : Keeps a v6 := by
      unfold v6
      (refine hv4.upd ?_; constructor <;> dsimp only)
    clear_value v6
    exact hv6.done

theorem Keeps.proposalLast {a s : State} (h : Keeps a s) {p1 : Entry} {p2 : Proposal} {p3 : List Byte} :
    Keeps a (State.proposalLast s p1 p2 p3) := by
  unfold State.proposalLast
  extract_lets v1 v2 v3 v4 v5 v6 v7
  split
  · unfold v4
    apply Keeps.refuse
    (refine h.upd ?_; constructor <;> dsimp only)
  · split
    · unfold v4
      apply Keeps.refuse
      (refine h.upd ?_; constructor <;> dsimp only)
    · split
      · unfold v4
        apply Keeps.refuse
        (refine h.upd ?_; constructor <;> dsimp only)
      · split
        · clear_value v5
          split
          · split
            · unfold v4
              apply Keeps.refuse
              (refine h.upd ?_; constructor <;> dsimp only)
            · split
              · unfold v4
                apply Keeps.refuse
                (refine h.upd ?_; constructor <;> dsimp only)
              · split
                · unfold v4
                  apply Keeps.refuse
                  (refine h.upd ?_; constructor <;> dsimp only)
                · unfold v7
                  extract_lets v8
                  apply Keeps.done
                  (refine h.upd ?_; constructor <;> dsimp only)
          · unfold v4
            apply Keeps.refuse
            (refine h.upd ?_; constructor <;> dsimp only)
          · split
            · unfold v4
              apply Keeps.refuse
              (refine h.upd ?_; constructor <;> dsimp only)
            · unfold v4
              apply Keeps.refuse
              (refine h.upd ?_; constructor <;> dsimp only)
        · split
          · split
            · unfold v4
              apply Keeps.refuse
              (refine h.upd ?_; constructor <;> dsimp only)
            · unfold v4
              apply Keeps.refuse
              (refine h.upd ?_; constructor <;> dsimp only)
          · clear_value v5
            split
            · split
              · unfold v7
                extract_lets v9
                apply Keeps.done
                (refine h.upd ?_; constructor <;> dsimp only)
              · unfold v4
                apply Keeps.refuse
                (refine h.upd ?_; constructor <;> dsimp only)
            · unfold v4
              apply Keeps.refuse
              (refine h.upd ?_; constructor <;> dsimp only)

theorem Keeps.proposalPart {a s : State} (h : Keeps a s) {p1 : Entry} {p2 : Bool} :
    Keeps a (State.proposalPart s p1 p2) := by
  unfold State.proposalPart
  split
  · split
    · exact h.refuse
    · extract_lets v1 v2 v3 v4
      split
      · exact h.refuse
      · split
        · exact h.proposalLast
        · apply Keeps.done
          (refine h.upd ?_; constructor <;> dsimp only)
  · exact h.refuse

theorem Keeps.proposalWithdraw {a s : State} (h : Keeps a s) {p1 : Entry} {p2 : Bool} :
    Keeps a (State.proposalWithdraw s p1 p2) := by
  unfold State.proposalWithdraw
  split
  · split
    · apply Keeps.done
      (refine h.upd ?_; constructor <;> dsimp only)
    · exact h.refuse
  · exact h.refuse

theorem approvedSeal_retired {s : State} {p : Proposal} {c : SealChange} (h : s.trust.cfg.lifecycle = .retired)
    (hc : s.approvedSeal p = some c) : c.new.lifecycle = .retired := by
  unfold State.approvedSeal at hc
  dsimp only at hc
  split at hc
  · simp [State.lifecycleOk, h] at hc
  · split at hc
    · cases hc; simp [h]
    · cases hc

theorem Keeps.approveLast {a s : State} (h : Keeps a s) {e : Entry} {p : Proposal} {l : List Byte} :
    Keeps a (s.approveLast e p l) := by
  unfold State.approveLast
  extract_lets t s1
  have h1 : Keeps a s1 := h.upd ⟨rfl, rfl, rfl, rfl, rfl, rfl, rfl, rfl, rfl, rfl, rfl, rfl, rfl, rfl, rfl⟩
  split
  · exact h1.refuse
  split
  · exact h1.refuse
  split
  · exact h1.refuse
  split
  · exact h1.refuse
  split
  · exact h1.refuse
  split
  · exact h1.refuse
  · rename_i c hc
    apply Keeps.done
    exact h1.trusted fun x => ⟨x.1, fun d q => by cases q; exact approvedSeal_retired x.1 hc⟩

theorem Keeps.sealApprove {a s : State} (h : Keeps a s) {p1 : Entry} : Keeps a (State.sealApprove s p1) := by
  unfold State.sealApprove
  split
  · split
    · exact h.refuse
    · extract_lets v1 v2 v3
      split
      · exact h.refuse
      · split
        · exact h.approveLast
        · apply Keeps.done
          (refine h.upd ?_; constructor <;> dsimp only)
  · exact h.refuse

theorem Keeps.propose {a s : State} (h : Keeps a s) {p1 : Entry} {p2 : Bool} :
    Keeps a (State.propose s p1 p2) := by
  unfold State.propose
  split
  · exact h.proposalNonce
  · split
    · exact h.proposalPart
    · exact h.proposalWithdraw

theorem Keeps.expireProposal {a s : State} (h : Keeps a s) : Keeps a (State.expireProposal s) := by
  unfold State.expireProposal
  split
  · split
    · split
      · (refine h.upd ?_; constructor <;> dsimp only)
      · exact h
    · split
      · (refine h.upd ?_; constructor <;> dsimp only)
      · exact h
  · exact h

theorem Keeps.sealSessions {a s : State} (h : Keeps a s) {p1 : SealChange} :
    Keeps a (State.sealSessions s p1) := by
  unfold State.sealSessions
  (refine h.upd ?_; constructor <;> dsimp only)

theorem Keeps.sealMode {a s : State} (h : Keeps a s) {p1 : SealChange} : Keeps a (State.sealMode s p1) := by
  unfold State.sealMode
  split
  · apply Keeps.enterStop
    exact h.endHold
  · split
    · split
      · exact h.other
      · exact h.enterStop
    · exact h

theorem Keeps.sealInjection {a s : State} (h : Keeps a s) {p1 : SealChange} :
    Keeps a (State.sealInjection s p1) := by
  unfold State.sealInjection
  split
  · split
    · apply Keeps.injectRecord
      (refine h.upd ?_; constructor <;> dsimp only)
    · exact h
  · exact h

theorem Keeps.sealLogic {a s : State} (h : Keeps a s) {p1 : SealChange} : Keeps a (State.sealLogic s p1) := by
  unfold State.sealLogic
  extract_lets v1
  split
  · exact h.setBank
  · exact h

theorem Keeps.saidSeal {a s : State} (h : Keeps a s) : Keeps a s.saidSeal := by
  unfold State.saidSeal
  split
  · rename_i c hc
    exact h.trusted fun x => ⟨x.1, fun d e => by cases e; exact x.2 c hc⟩
  · exact h

theorem Keeps.unsaidSeal {a s : State} (h : Keeps a s) : Keeps a s.unsaidSeal := by
  unfold State.unsaidSeal
  split
  · split
    · exact h
    · exact h.trusted fun x => ⟨x.1, fun d e => nomatch e⟩
  · exact h

theorem Keeps.retire {a s : State} (h : Keeps a s) : Keeps a (State.retire s) := by
  unfold State.retire
  extract_lets v1 v2 v3 v4 v5
  have hv2 : Keeps a v2 := by
    unfold v2
    apply Keeps.signHead
    (refine h.upd ?_; constructor <;> dsimp only)
  clear_value v2
  (refine hv2.upd ?_; constructor <;> dsimp only)

theorem Keeps.applySeal {a s : State} (h : Keeps a s) : Keeps a s.applySeal := by
  unfold State.applySeal
  split
  · exact h
  · rename_i c hc
    split
    · exact h
    · extract_lets x t y
      have h1 : Keeps a x := h.sealSessions.sealMode.sealInjection.sealLogic
      clear_value x
      have h2 : Keeps a y := by
        unfold y
        apply Keeps.storeSeal
        exact h1.sealed hc h rfl rfl
      clear_value y
      split
      · exact h2.retire
      · exact h2.wantSignature

theorem Keeps.refuseOpening {a s : State} (h : Keeps a s) {p1 : Pkt} {p2 : Node} {p3 : BitVec 2} {p4 : Byte} {p5
    : optParam (List Byte) noDetail} :
    Keeps a (State.refuseOpening s p1 p2 p3 p4 p5) := by
  unfold State.refuseOpening
  extract_lets v1
  have hv1 : Keeps a v1 := by
    unfold v1
    exact h.event
  clear_value v1
  exact hv1.sendOut

theorem Keeps.dropOpening {a s : State} (h : Keeps a s) {p1 : Opening} : Keeps a (State.dropOpening s p1) := by
  unfold State.dropOpening
  (refine h.upd ?_; constructor <;> dsimp only)

theorem Keeps.putOpening {a s : State} (h : Keeps a s) {p1 : Opening} : Keeps a (State.putOpening s p1) := by
  unfold State.putOpening
  (refine h.upd ?_; constructor <;> dsimp only)

theorem Keeps.refuseOpen {a s : State} (h : Keeps a s) {p1 : Pkt} {p2 : Opening} {p3 : Byte} :
    Keeps a (State.refuseOpen s p1 p2 p3) := by
  unfold State.refuseOpen
  apply Keeps.refuseOpening
  exact h.dropOpening

theorem Keeps.sendOpen2 {a s : State} (h : Keeps a s) {p1 : Pkt} {p2 : Opening} {p3 : Grant} :
    Keeps a (State.sendOpen2 s p1 p2 p3) := by
  unfold State.sendOpen2
  extract_lets v1 v2 v3 v4 v5 v6 v7
  apply Keeps.emitAll
  apply Keeps.putOpening
  exact h.draw

theorem Keeps.open1Last {a s : State} (h : Keeps a s) {p1 : Pkt} {p2 : Opening} :
    Keeps a (State.open1Last s p1 p2) := by
  unfold State.open1Last
  split
  · exact h.refuseOpen
  · split
    · split
      · exact h.refuseOpen
      · exact h.sendOpen2
    · exact h.putOpening

theorem Keeps.open1First {a s : State} (h : Keeps a s) {p1 : Pkt} {p2 : W32} :
    Keeps a (State.open1First s p1 p2) := by
  unfold State.open1First
  extract_lets v1 v2 v3 v4 v5 v6 v7
  split
  · exact h.refuseOpening
  · split
    · exact h.refuseOpening
    · split
      · exact h.refuseOpening
      · split
        · unfold v6
          exact h.refuseOpening
        · split
          · unfold v6
            exact h.refuseOpening
          · split
            · unfold v6
              exact h.refuseOpening
            · split
              · unfold v6
                exact h.refuseOpening
              · split
                · unfold v6
                  exact h.refuseOpening
                · split
                  · unfold v6
                    exact h.refuseOpening
                  · extract_lets v8 v9
                    have hv9 : Keeps a v9 := by
                      unfold v9
                      (refine h.upd ?_; constructor <;> dsimp only)
                    clear_value v9
                    split
                    · exact hv9
                    · exact hv9.open1Last

theorem Keeps.receiveOpen1 {a s : State} (h : Keeps a s) {p1 : Pkt} : Keeps a (State.receiveOpen1 s p1) := by
  unfold State.receiveOpen1
  split
  · exact h.lose
  · split
    · exact h.discard
    · split
      · exact h.badSession
      · extract_lets v1 v2 v3 v4 v5
        split
        · exact h
        · exact h.refuseOpening
        · extract_lets v6 v7
          have hv7 : Keeps a v7 := by
            unfold v7
            refine Keeps.elim ?_ ?_
            · exact h
            · intro x8
              exact h.putOpening
          clear_value v7
          clear_value v6
          split
          · exact hv7.refuseOpening
          · split
            · exact hv7.open1First
            · exact hv7.refuseOpening
          · split
            · exact hv7.refuseOpen
            · extract_lets v10
              split
              · apply Keeps.open1Last
                exact hv7.putOpening
              · exact hv7.putOpening

theorem Keeps.open3Last {a s : State} (h : Keeps a s) {p1 : Pkt} {p2 : Opening} :
    Keeps a (State.open3Last s p1 p2) := by
  unfold State.open3Last
  split
  · exact h.putOpening
  · exact h.refuseOpen

theorem Keeps.receiveOpen3 {a s : State} (h : Keeps a s) {p1 : Pkt} : Keeps a (State.receiveOpen3 s p1) := by
  unfold State.receiveOpen3
  split
  · exact h.lose
  · split
    · exact h.discard
    · split
      · exact h.badSession
      · split
        · exact h
        · exact h.refuseOpening
        · extract_lets v1 v2 v3
          have hv2 : Keeps a v2 := by
            unfold v2
            exact h.putOpening
          clear_value v2
          split
          · exact hv2.refuseOpening
          · split
            · exact hv2.refuseOpen
            · split
              · exact hv2.open3Last
              · exact hv2.putOpening

theorem Keeps.abandonOpening {a s : State} (h : Keeps a s) {p1 : Nat} : Keeps a (State.abandonOpening s p1) := by
  unfold State.abandonOpening
  exact h.upd ⟨rfl, rfl, rfl, rfl, rfl, rfl, rfl, rfl, rfl, rfl, List.length_map _, rfl, rfl, rfl, rfl⟩

theorem Keeps.dropWaits {a s : State} (h : Keeps a s) {p1 : Nat} : Keeps a (State.dropWaits s p1) := by
  unfold State.dropWaits
  extract_lets v1 v2
  exact h.other

theorem Keeps.endSession {a s : State} (h : Keeps a s) {p1 : Session} : Keeps a (State.endSession s p1) := by
  unfold State.endSession
  extract_lets v1 v2 v3 v4 v5 v6 v7 v8 v9 v10 v11 v12
  have hv1 : Keeps a v1 := by
    unfold v1
    exact h.dropWaits
  clear_value v1
  (refine hv1.upd ?_; constructor <;> dsimp only)

theorem Keeps.closeSessions {a s : State} (h : Keeps a s) : Keeps a (State.closeSessions s) := by
  unfold State.closeSessions
  refine Keeps.foldl ?_ ?_
  · exact h
  · intro x1 b3 k2
    exact k2.endSession

theorem Keeps.forgetSeq {a s : State} (h : Keeps a s) {p1 : Node} : Keeps a (State.forgetSeq s p1) := by
  unfold State.forgetSeq
  exact h.other

theorem Keeps.addSession {a s : State} (h : Keeps a s) {p1 : Session} : Keeps a (State.addSession s p1) := by
  unfold State.addSession
  (refine h.upd ?_; constructor <;> dsimp only)

theorem Keeps.openSessions {a s : State} (h : Keeps a s) : Keeps a (State.openSessions s) := by
  unfold State.openSessions
  extract_lets v1 v2 v3
  have hv2 : Keeps a v2 := by
    unfold v2
    refine Keeps.foldl ?_ ?_
    · exact h
    · intro x4 b6 k5
      split
      · exact k5
      · extract_lets v7
        have hv7 : Keeps a v7 := by
          unfold v7
          refine Keeps.foldl ?_ ?_
          · exact k5
          · intro x8 b10 k9
            exact k9.endSession
        clear_value v7
        apply Keeps.addSession
        exact hv7.forgetSeq
  clear_value v2
  (refine hv2.upd ?_; constructor <;> dsimp only)

theorem Keeps.countAlive {a s : State} (h : Keeps a s) : Keeps a (State.countAlive s) := by
  unfold State.countAlive
  (refine h.upd ?_; constructor <;> dsimp only)

theorem Keeps.aliveExpiry {a s : State} (h : Keeps a s) {p1 : Nat} : Keeps a (State.aliveExpiry s p1) := by
  unfold State.aliveExpiry
  exact h.modSession

theorem Keeps.eventReply {a s : State} (h : Keeps a s) {p1 : Nat} {p2 : Bool} {p3 : W32} {p4 : W32} {p5 : Byte}
    {p6 : List Byte} :
    Keeps a (State.eventReply s p1 p2 p3 p4 p5 p6) := by
  unfold State.eventReply
  split
  · exact h
  · apply Keeps.emit
    exact h.modSession

theorem Keeps.countRefused {a s : State} (h : Keeps a s) {p1 : Nat} : Keeps a (State.countRefused s p1) := by
  unfold State.countRefused
  exact h.modSession

theorem Keeps.learnEpoch {a s : State} (h : Keeps a s) {e : W32} : Keeps a (s.learnEpoch e) := by
  unfold State.learnEpoch
  split
  · exact h
  split
  · rename_i hlt
    exact h.trans ⟨rfl, rfl, Nat.le_refl _, Nat.le_refl _, id, rfl, rfl, rfl,
      fun x => ⟨Nat.le_trans x (Nat.le_of_lt hlt), Nat.le_refl _⟩, id, .inl (Nat.le_refl _), id⟩
  · exact h

theorem Keeps.receiveTelegram {a s : State} (h : Keeps a s) {p1 : FieldMsg} :
    Keeps a (State.receiveTelegram s p1) := by
  unfold State.receiveTelegram
  split
  · exact h.lose
  · split
    · exact h.discard
    · split
      · exact h.countRefused
      · split
        · exact h.countRefused
        · split
          · exact h
          · exact h.countRefused
          · apply Keeps.countRefused
            exact h.modSession
          · extract_lets v1 v2 v3
            have hv1 : Keeps a v1 := by
              unfold v1
              exact h.modSession
            clear_value v1
            have hv3 : Keeps a v3 := by
              unfold v3
              split
              · exact hv1.modSession
              · exact hv1
            clear_value v3
            split
            · exact hv1.countRefused
            · split
              · exact hv3
              · extract_lets v4 v5
                have hv5 : Keeps a v5 := by
                  unfold v5
                  exact hv3.modSession
                clear_value v5
                apply Keeps.learnEpoch
                exact hv5.learnEpoch

theorem Keeps.declareLost {a s : State} (h : Keeps a s) {p1 : Session} {p2 : Option Time} :
    Keeps a (State.declareLost s p1 p2) := by
  unfold State.declareLost
  extract_lets v1 v2 v3
  have hv1 : Keeps a v1 := by
    unfold v1
    exact h.modSession
  clear_value v1
  have hv3 : Keeps a v3 := by
    unfold v3
    exact hv1.endEntries
  clear_value v3
  split
  · exact hv3.event
  · exact hv3

theorem Keeps.judgePartner {a s : State} (h : Keeps a s) {p1 : Session} {p2 : Option HeldTelegram} :
    Keeps a (State.judgePartner s p1 p2) := by
  unfold State.judgePartner
  split
  · exact h.modSession
  · extract_lets v1
    have hv1 : Keeps a v1 := by
      unfold v1
      exact h.modSession
    clear_value v1
    split
    · split
      · exact hv1.declareLost
      · exact hv1
    · exact hv1

theorem Keeps.challenge {a s : State} (h : Keeps a s) {p1 : Fin 48} : Keeps a (State.challenge s p1) := by
  unfold State.challenge
  split
  · extract_lets v1
    apply Keeps.emit
    apply Keeps.modLink
    exact h.draw
  · exact h

theorem Keeps.linkUp {a s : State} (h : Keeps a s) {p1 : Fin 48} : Keeps a (State.linkUp s p1) := by
  unfold State.linkUp
  extract_lets v1
  have hv1 : Keeps a v1 := by
    unfold v1
    exact h.modLink
  clear_value v1
  exact hv1.challenge

theorem Keeps.linkDown {a s : State} (h : Keeps a s) {p1 : Fin 48} : Keeps a (State.linkDown s p1) := by
  unfold State.linkDown
  exact h.modLink

theorem Keeps.quarantine {a s : State} (h : Keeps a s) {p1 : Fin 48} {p2 : Hello} {p3 : Byte} :
    Keeps a (State.quarantine s p1 p2 p3) := by
  unfold State.quarantine
  extract_lets v1 v2 v3
  have hv3 : Keeps a v3 := by
    unfold v3
    exact h.modLink
  clear_value v3
  split
  · exact hv3
  · apply Keeps.event
    exact hv3.modLink

theorem Keeps.welcome {a s : State} (h : Keeps a s) {p1 : Fin 48} {p2 : Hash} {p3 : Hello} {p4 : W32} {p5 : Nat}
    :
    Keeps a (State.welcome s p1 p2 p3 p4 p5) := by
  unfold State.welcome
  extract_lets v1 v2 v3 v4 v5 v6 v7 v8 v9 v10
  have hv9 : Keeps a v9 := by
    unfold v9
    apply Keeps.modLink
    exact h.draw
  clear_value v9
  apply Keeps.emitAll
  (refine hv9.upd ?_; constructor <;> dsimp only)

theorem Keeps.helloLast {a s : State} (h : Keeps a s) {p1 : Fin 48} {p2 : Hash} {p3 : Hello} {p4 : W32} :
    Keeps a (State.helloLast s p1 p2 p3 p4) := by
  unfold State.helloLast
  extract_lets v1
  split
  · exact h.quarantine
  · refine Keeps.elim ?_ ?_
    · exact h
    · intro x2
      exact h.welcome

theorem Keeps.receiveHello {a s : State} (h : Keeps a s) {p1 : Fin 48} {p2 : FieldMsg} :
    Keeps a (State.receiveHello s p1 p2) := by
  unfold State.receiveHello
  extract_lets v1 v2 v3 v4
  split
  · exact h.lose
  · split
    · split
      · split
        · exact h
        · exact h.modLink
      · split
        · exact h
        · split
          · split
            · exact h.helloLast
            · exact h.lose
          · exact h.modLink
    · exact h

theorem Keeps.challengeAgain {a s : State} (h : Keeps a s) {p1 : Fin 48} :
    Keeps a (State.challengeAgain s p1) := by
  unfold State.challengeAgain
  extract_lets v1
  have hv1 : Keeps a v1 := by
    unfold v1
    exact h.modLink
  clear_value v1
  split
  · split
    · exact hv1.challenge
    · exact hv1
  · exact hv1.challenge

theorem Keeps.endQuarantine {a s : State} (h : Keeps a s) {p1 : Fin 48} : Keeps a (State.endQuarantine s p1) := by
  unfold State.endQuarantine
  split
  · split
    · apply Keeps.challenge
      exact h.modLink
    · exact h
  · exact h

theorem Keeps.challengeAll {a s : State} (h : Keeps a s) : Keeps a (State.challengeAll s) := by
  unfold State.challengeAll
  refine Keeps.foldl ?_ ?_
  · exact h
  · intro x1 b3 k2
    split
    · exact k2.challenge
    · exact k2

theorem Keeps.switchPartners {a s : State} (h : Keeps a s) {p1 : List PartnerDecl} :
    Keeps a (State.switchPartners s p1) := by
  unfold State.switchPartners
  extract_lets v1 v2 v3 v4 v5
  have hv4 : Keeps a v4 := by
    unfold v4
    (refine h.upd ?_; constructor <;> dsimp only)
  clear_value v4
  split
  · exact hv4
  · exact hv4.upd ⟨rfl, rfl, rfl, rfl, rfl, rfl, rfl, rfl, rfl, rfl, List.length_map _, rfl, rfl, rfl, rfl⟩

theorem Keeps.receiveEvent {a s : State} (h : Keeps a s) {p1 : FieldMsg} : Keeps a (State.receiveEvent s p1) := by
  unfold State.receiveEvent
  split
  · exact h.lose
  · split
    · exact h.discard
    · split
      · exact h.emit
      · extract_lets v1 v2
        split
        · unfold v1
          apply Keeps.eventReply
          split
          · apply Keeps.countRefused
            exact h.modSession
          · exact h.modSession
        · split
          · unfold v1
            apply Keeps.eventReply
            split
            · exact h.countRefused
            · exact h
          · split
            · exact h
            · unfold v1
              apply Keeps.eventReply
              split
              · exact h.countRefused
              · exact h
            · unfold v1
              apply Keeps.eventReply
              split
              · apply Keeps.countRefused
                exact h.modSession
              · exact h.modSession
            · extract_lets v3 v4
              have hv3 : Keeps a v3 := by
                unfold v3
                exact h.modSession
              clear_value v3
              split
              · unfold v1
                apply Keeps.eventReply
                split
                · exact hv3.countRefused
                · exact hv3
              · split
                · unfold v1
                  apply Keeps.eventReply
                  split
                  · exact hv3.countRefused
                  · exact hv3
                · split
                  · unfold v1
                    apply Keeps.eventReply
                    split
                    · exact hv3.countRefused
                    · exact hv3
                  · extract_lets v5
                    apply Keeps.eventReply
                    (refine hv3.upd ?_; constructor <;> dsimp only)

theorem Keeps.sendTelegram {a s : State} (h : Keeps a s) {p1 : TelForm} {p2 : Session} :
    Keeps a (State.sendTelegram s p1 p2) := by
  unfold State.sendTelegram
  split
  · exact h.note
  · extract_lets v1 v2 v3
    have hv2 : Keeps a v2 := by
      unfold v2
      exact h.modSession
    clear_value v2
    apply Keeps.emit
    (refine hv2.upd ?_; constructor <;> dsimp only)

theorem Keeps.sendTelegrams {a s : State} (h : Keeps a s) {p1 : TelForm} : Keeps a (State.sendTelegrams s p1) := by
  unfold State.sendTelegrams
  extract_lets v1 v2 v3
  have hv3 : Keeps a v3 := by
    unfold v3
    split
    · exact h
    · exact h.other
  clear_value v3
  refine Keeps.foldl ?_ ?_
  · exact hv3
  · intro x4 b6 k5
    exact k5.sendTelegram

end Sys2Proof.Machine
end

