-- ==== Sys2Proof/Laws/KeepsService.lean ====
section
/-! SUPPORT. `Keeps` for every operation of queries, counters, field I/O, diagnostics, restart, update and logic: one lemma per operation. -/

namespace Sys2Proof.Machine

theorem Keeps.queryState {a s : State} (h : Keeps a s) {p1 : Entry} : Keeps a (State.queryState s p1) := by
  unfold State.queryState
  exact h.done

theorem Keeps.subscribe {a s : State} (h : Keeps a s) {p1 : Entry} : Keeps a (State.subscribe s p1) := by
  unfold State.subscribe
  extract_lets v1 v2 v3 v4 v5
  split
  · exact h.refuse
  · split
    · exact h.refuse
    · extract_lets v6
      apply Keeps.done
      (refine h.upd ?_; constructor <;> dsimp only)

theorem Keeps.unsubscribe {a s : State} (h : Keeps a s) {p1 : Entry} : Keeps a (State.unsubscribe s p1) := by
  unfold State.unsubscribe
  extract_lets v1 v2
  split
  · apply Keeps.done
    (refine h.upd ?_; constructor <;> dsimp only)
  · exact h.refuse

theorem Keeps.lampStatus {a s : State} (h : Keeps a s) {p1 : Entry} : Keeps a (State.lampStatus s p1) := by
  unfold State.lampStatus
  exact h.done

theorem Keeps.tally {a s : State} (h : Keeps a s) {p1 : Nat} {p2 : List Lane} : Keeps a (State.tally s p1 p2) := by
  unfold State.tally
  refine Keeps.foldl ?_ ?_
  · exact h
  · intro x1 b3 k2
    exact k2.modLane

theorem Keeps.counterSet {a s : State} (h : Keeps a s) {p1 : Entry} : Keeps a (State.counterSet s p1) := by
  unfold State.counterSet
  extract_lets v1 v2 v3 v4 v5 v6
  have hv6 : Keeps a v6 := by
    unfold v6
    exact h.modLanes
  clear_value v6
  split
  · exact h.refuse
  · exact hv6.done

theorem Keeps.counterRead {a s : State} (h : Keeps a s) {p1 : Entry} : Keeps a (State.counterRead s p1) := by
  unfold State.counterRead
  split
  · exact h.refuse
  · extract_lets v1 v2
    split
    · exact h.refuse
    · exact h.done

theorem Keeps.saturate {a s : State} (h : Keeps a s) {p1 : Lane} {p2 : Nat} :
    Keeps a (State.saturate s p1 p2) := by
  unfold State.saturate
  exact h.modLane

theorem Keeps.issue {a s : State} (h : Keeps a s) {p1 : Lane} {p2 : Bool} {p3 : Bool} {p4 : EngineJob} :
    Keeps a (State.issue s p1 p2 p3 p4) := by
  unfold State.issue
  extract_lets v1 v2
  exact h.modLane

theorem Keeps.commandLane {a s : State} (h : Keeps a s) {p1 : Lane} {p2 : Chans} :
    Keeps a (State.commandLane s p1 p2) := by
  unfold State.commandLane
  extract_lets v1 v2
  exact h.modLane

theorem Keeps.channelReport {a s : State} (h : Keeps a s) {p1 : Nat} {p2 : List Lane} {p3 : List Byte} :
    Keeps a (State.channelReport s p1 p2 p3) := by
  unfold State.channelReport
  apply Keeps.report
  exact h.other

theorem Keeps.groupReport {a s : State} (h : Keeps a s) {p1 : Nat} {p2 : List Lane} {p3 : List Byte} :
    Keeps a (State.groupReport s p1 p2 p3) := by
  unfold State.groupReport
  apply Keeps.report
  exact h.other

theorem Keeps.staleFrame {a s : State} (h : Keeps a s) {p1 : Lane} : Keeps a (State.staleFrame s p1) := by
  unfold State.staleFrame
  extract_lets v1
  have hv1 : Keeps a v1 := by
    unfold v1
    exact h.modLane
  clear_value v1
  split
  · exact hv1.note
  · exact hv1

theorem Keeps.supplySample {a s : State} (h : Keeps a s) {p1 : Lane} {p2 : InFrame} :
    Keeps a (State.supplySample s p1 p2) := by
  unfold State.supplySample
  extract_lets v1 v2 v3 v4 v5 v6 v7
  have hv6 : Keeps a v6 := by
    unfold v6
    exact h.modLane
  clear_value v6
  have hv7 : Keeps a v7 := by
    unfold v7
    split
    · exact hv6.modLane
    · exact hv6
  clear_value v7
  split
  · exact hv7.groupReport
  · exact hv7

theorem Keeps.pairedDrop {a s : State} (h : Keeps a s) {p1 : Lane} : Keeps a (State.pairedDrop s p1) := by
  unfold State.pairedDrop
  split
  · extract_lets v1 v2 v3
    refine Keeps.foldl ?_ ?_
    · exact h
    · intro x4 b6 k5
      apply Keeps.channelReport
      exact k5.modLane
  · exact h

theorem Keeps.invertedFrame {a s : State} (h : Keeps a s) {p1 : Lane} : Keeps a (State.invertedFrame s p1) := by
  unfold State.invertedFrame
  extract_lets v1
  have hv1 : Keeps a v1 := by
    unfold v1
    exact h.staleFrame
  clear_value v1
  split
  · exact hv1.useInjection
  · exact hv1

theorem Keeps.inbound {a s : State} (h : Keeps a s) {p1 : Lane} {p2 : InFrame} :
    Keeps a (State.inbound s p1 p2) := by
  unfold State.inbound
  extract_lets v1 v2 v3
  have hv1 : Keeps a v1 := by
    unfold v1
    exact h.issue
  clear_value v1
  have hv2 : Keeps a v2 := by
    unfold v2
    exact hv1.modLane
  clear_value v2
  have hv3 : Keeps a v3 := by
    unfold v3
    split
    · exact hv2.note
    · exact hv2
  clear_value v3
  split
  · exact hv1.invertedFrame
  · split
    · apply Keeps.pairedDrop
      exact hv3.supplySample
    · exact hv1.staleFrame

theorem Keeps.sendFrame {a s : State} (h : Keeps a s) {p1 : Lane} : Keeps a (State.sendFrame s p1) := by
  unfold State.sendFrame
  extract_lets v1
  apply Keeps.emit
  exact h.modLane

theorem Keeps.groupRecovery {a s : State} (h : Keeps a s) {p1 : Lane} {p2 : Nat} :
    Keeps a (State.groupRecovery s p1 p2) := by
  unfold State.groupRecovery
  exact h.modLane

theorem Keeps.cutoffStuck {a s : State} (h : Keeps a s) {p1 : Lane} {p2 : Nat} :
    Keeps a (State.cutoffStuck s p1 p2) := by
  unfold State.cutoffStuck
  extract_lets v1 v2 v3
  split
  · apply Keeps.groupReport
    exact h.modLane
  · exact h

theorem Keeps.readback {a s : State} (h : Keeps a s) {p1 : Lane} {p2 : Nat} :
    Keeps a (State.readback s p1 p2) := by
  unfold State.readback
  extract_lets v1 v2 v3 v4 v5
  have hv5 : Keeps a v5 := by
    unfold v5
    exact h.modLane
  clear_value v5
  split
  · exact hv5.channelReport
  · exact h

theorem Keeps.readbackAll {a s : State} (h : Keeps a s) {p1 : Lane} : Keeps a (State.readbackAll s p1) := by
  unfold State.readbackAll
  extract_lets v1 v2
  refine Keeps.foldl ?_ ?_
  · exact h
  · intro x3 b5 k4
    exact k4.readback

theorem Keeps.pairedCheck {a s : State} (h : Keeps a s) {p1 : Lane} : Keeps a (State.pairedCheck s p1) := by
  unfold State.pairedCheck
  split
  · extract_lets v1
    refine Keeps.foldl ?_ ?_
    · exact h
    · intro x2 b4 k3
      extract_lets v5 v6 v7
      have hv7 : Keeps a v7 := by
        unfold v7
        exact k3.modLane
      clear_value v7
      split
      · split
        · apply Keeps.channelReport
          exact hv7.modLane
        · exact hv7
      · exact k3.modLane
  · exact h

theorem Keeps.pairedNoDark {a s : State} (h : Keeps a s) {p1 : Lane} {p2 : Nat} :
    Keeps a (State.pairedNoDark s p1 p2) := by
  unfold State.pairedNoDark
  extract_lets v1 v2
  split
  · apply Keeps.channelReport
    exact h.modLane
  · exact h

theorem Keeps.markIn {a s : State} (h : Keeps a s) {p1 : Chans} {p2 : List Lane} :
    Keeps a (State.markIn s p1 p2) := by
  unfold State.markIn
  refine Keeps.foldl ?_ ?_
  · exact h
  · intro x1 b3 k2
    exact k2.modLane

theorem Keeps.judgePulse {a s : State} (h : Keeps a s) {p1 : Nat} {p2 : Bool} {p3 : Nat} {p4 : Nat} {p5 : Nat}
    {p6 : Lane → PulseSamples} :
    Keeps a (State.judgePulse s p1 p2 p3 p4 p5 p6) := by
  unfold State.judgePulse
  extract_lets v1 v2 v3 v4 v5 v6
  have hv5 : Keeps a v5 := by
    unfold v5
    split
    · exact h
    · apply Keeps.channelReport
      exact h.markIn
  clear_value v5
  have hv6 : Keeps a v6 := by
    unfold v6
    split
    · exact hv5
    · exact hv5.channelReport
  clear_value v6
  refine Keeps.foldl ?_ ?_
  · exact hv6
  · intro x7 b9 k8
    extract_lets v10 v11
    have hv11 : Keeps a v11 := by
      unfold v11
      exact k8.markIn
    clear_value v11
    split
    · exact k8
    · apply Keeps.channelReport
      exact hv11.channelReport

theorem Keeps.darkPulse {a s : State} (h : Keeps a s) {p1 : Nat} {p2 : Lane → PulseSamples} :
    Keeps a (State.darkPulse s p1 p2) := by
  unfold State.darkPulse
  split
  · split
    · extract_lets v1 v2 v3 v4 v5
      have hv3 : Keeps a v3 := by
        unfold v3
        exact h.other
      have hv4 : Keeps a v4 := by
        unfold v4
        split
        · exact hv3.tally
        · exact hv3
      split
      · exact hv4.judgePulse
      · split
        · exact hv4.judgePulse
        · exact hv4
    · exact h
  · exact h

theorem Keeps.safeStateNotReached {a s : State} (h : Keeps a s) {p1 : Lane} {p2 : Nat} :
    Keeps a (State.safeStateNotReached s p1 p2) := by
  unfold State.safeStateNotReached
  extract_lets v1 v2
  split
  · exact h.report
  · exact h

theorem Keeps.negativeRead {a s : State} (h : Keeps a s) {p1 : Entry} : Keeps a (State.negativeRead s p1) := by
  unfold State.negativeRead
  exact h.done

theorem Keeps.clearAll {a s : State} (h : Keeps a s) : Keeps a (State.clearAll s) := by
  unfold State.clearAll
  extract_lets v1 v2 v3 v4 v5
  have hv4 : Keeps a v4 := by
    unfold v4
    exact h.other
  clear_value v4
  have hv5 : Keeps a v5 := by
    unfold v5
    exact hv4.modLanes
  clear_value v5
  refine Keeps.foldl ?_ ?_
  · exact hv5
  · intro x6 b8 k7
    split
    · exact k7.modLane
    · exact k7

theorem Keeps.clearChannel {a s : State} (h : Keeps a s) {p1 : Sources} {p2 : Nat} {p3 : Chan} :
    Keeps a (State.clearChannel s p1 p2 p3) := by
  unfold State.clearChannel
  split
  · exact h.modChan
  · exact h

theorem Keeps.clearUnits {a s : State} (h : Keeps a s) {p1 : Sources} {p2 : Sources} {p3 : Sources} :
    Keeps a (State.clearUnits s p1 p2 p3) := by
  unfold State.clearUnits
  extract_lets v1 v2 v3 v4 v5 v6
  have hv1 : Keeps a v1 := by
    unfold v1
    apply Keeps.clearChannel
    apply Keeps.clearChannel
    exact h.clearChannel
  clear_value v1
  have hv4 : Keeps a v4 := by
    unfold v4
    split
    · (refine hv1.upd ?_; constructor <;> dsimp only)
    · exact hv1
  clear_value v4
  split
  · exact hv4.other
  · exact hv4

theorem Keeps.clearFaults {a s : State} (h : Keeps a s) {p1 : Entry} {p2 : Bool} :
    Keeps a (State.clearFaults s p1 p2) := by
  unfold State.clearFaults
  extract_lets v1 v2 v3 v4 v5 v6 v7 v8 v9 v10 v11 v12 v13
  have hv7 : Keeps a v7 := by
    unfold v7
    apply Keeps.clearUnits
    refine Keeps.foldl ?_ ?_
    · exact h
    · intro x14 b16 k15
      exact k15.modLane
  clear_value v7
  have hv8 : Keeps a v8 := by
    unfold v8
    split
    · exact hv7.clearAll
    · exact hv7
  clear_value v8
  have hv12 : Keeps a v12 := by
    unfold v12
    split
    · apply Keeps.storeLamp
      (refine hv8.upd ?_; constructor <;> dsimp only)
    · exact hv8
  clear_value v12
  have hv13 : Keeps a v13 := by
    unfold v13
    exact hv12.record
  clear_value v13
  exact hv13.done

theorem Keeps.faultClear {a s : State} (h : Keeps a s) {p1 : Entry} : Keeps a (State.faultClear s p1) := by
  unfold State.faultClear
  split
  · split
    · exact h.clearFaults
    · exact h.refuse
  · exact h.clearFaults

theorem Keeps.faultInject {a s : State} (h : Keeps a s) {p1 : Entry} {p2 : Option W32} :
    Keeps a (State.faultInject s p1 p2) := by
  unfold State.faultInject
  extract_lets v1 v2 v3
  split
  · exact h.refuse
  · split
    · exact h.refuse
    · split
      · exact h.refuse
      · apply Keeps.done
        apply Keeps.injectRecord
        (refine h.upd ?_; constructor <;> dsimp only)

theorem Keeps.disarm {a s : State} (h : Keeps a s) : Keeps a (State.disarm s) := by
  unfold State.disarm
  split
  · split
    · apply Keeps.injectRecord
      (refine h.upd ?_; constructor <;> dsimp only)
    · exact h
  · exact h

theorem Keeps.modSlot {a s : State} (h : Keeps a s) {p1 : Bool} {p2 : Slot → Slot} :
    Keeps a (State.modSlot s p1 p2) := by
  unfold State.modSlot
  split
  · (refine h.upd ?_; constructor <;> dsimp only)
  · (refine h.upd ?_; constructor <;> dsimp only)

theorem Keeps.fallBackFrom {a s : State} (h : Keeps a s) {p1 : Bool} {p2 : Byte} :
    Keeps a (State.fallBackFrom s p1 p2) := by
  unfold State.fallBackFrom
  extract_lets v1
  have hv1 : Keeps a v1 := by
    unfold v1
    exact h.modSlot
  clear_value v1
  apply Keeps.event
  apply Keeps.bootWrite
  · exact hv1
  · exact Nat.le_refl _
  · exact Nat.le_refl _

theorem Keeps.chooseSlot {a s : State} (h : Keeps a s) : Keeps a (State.chooseSlot s) := by
  unfold State.chooseSlot
  split
  · exact h
  · extract_lets v1 v2
    have hv2 : Keeps a v2 := by
      unfold v2
      apply Keeps.bootWrite
      · exact h
      · exact Nat.le_refl _
      · exact Nat.le_refl _
    clear_value v2
    split
    · exact h.fallBackFrom
    · split
      · exact h.fallBackFrom
      · split
        · exact h.fallBackFrom
        · split
          · apply Keeps.event
            exact hv2.modSlot
          · exact hv2.fallBackFrom

theorem Keeps.judgeSchedule {a s : State} (h : Keeps a s) : Keeps a (State.judgeSchedule s) := by
  unfold State.judgeSchedule
  split
  · extract_lets v1 v2
    have hv2 : Keeps a v2 := by
      unfold v2
      (refine h.upd ?_; constructor <;> dsimp only)
    clear_value v2
    split
    · apply Keeps.event
      apply Keeps.bootWrite
      · exact hv2
      · exact Nat.le_refl _
      · exact Nat.le_refl _
    · exact hv2
  · exact h

theorem Keeps.raiseEpoch {a s : State} (h : Keeps a s) : Keeps a s.raiseEpoch := by
  unfold State.raiseEpoch
  split
  · exact h.note
  · rename_i hne
    apply Keeps.wantSignature
    apply Keeps.storeLamp
    refine h.trans ⟨rfl, rfl, Nat.le_refl _, Nat.le_refl _, id, rfl, rfl, rfl, fun x => ⟨Nat.le_refl _, ?_⟩, id,
      .inl (Nat.le_refl _), id⟩
    have hx : s.flt.persistent.epoch.toNat ≤ s.pair.epochKnown.toNat := x
    have hlt : s.pair.epochKnown.toNat < 4294967295 := by
      have h1 := s.pair.epochKnown.isLt
      have h2 : s.pair.epochKnown.toNat ≠ 4294967295 := fun e => hne (BitVec.eq_of_toNat_eq e)
      omega
    have : (s.pair.epochKnown + 1).toNat = s.pair.epochKnown.toNat + 1 := by
      rw [BitVec.toNat_add]; exact Nat.mod_eq_of_lt (Nat.add_lt_of_lt_sub hlt)
    exact Nat.le_trans hx (by rw [this]; exact Nat.le_succ _)

theorem Keeps.endSettle {a s : State} (h : Keeps a s) : Keeps a (State.endSettle s) := by
  unfold State.endSettle
  split
  · split
    · exact h.other
    · exact h
  · exact h

theorem Keeps.discardPartial {a s : State} (h : Keeps a s) : Keeps a (State.discardPartial s) := by
  unfold State.discardPartial
  extract_lets v1
  split
  · exact h.modOfferSlot
  · exact h

theorem Keeps.modPrinting {a s : State} (h : Keeps a s) {p1 : Nat} {p2 : Printing → Printing} :
    Keeps a (State.modPrinting s p1 p2) := by
  unfold State.modPrinting
  split
  · (refine h.upd ?_; constructor <;> dsimp only)
  · (refine h.upd ?_; constructor <;> dsimp only)

theorem Keeps.beginPrint {a s : State} (h : Keeps a s) {p1 : Nat} : Keeps a (State.beginPrint s p1) := by
  unfold State.beginPrint
  split
  · split
    · exact h.modPrinting
    · apply Keeps.emit
      exact h.modPrinting
  · exact h

theorem Keeps.startPrinting {a s : State} (h : Keeps a s) : Keeps a (State.startPrinting s) := by
  unfold State.startPrinting
  refine Keeps.foldl ?_ ?_
  · exact h
  · intro x1 b3 k2
    apply Keeps.beginPrint
    apply Keeps.modPrinting
    apply Keeps.bootWrite
    · exact k2
    · exact Nat.le_refl _
    · exact Nat.le_refl _

theorem Keeps.firmwareVerified {a s : State} (h : Keeps a s) {p1 : Bool} :
    Keeps a (State.firmwareVerified s p1) := by
  unfold State.firmwareVerified
  extract_lets v1 v2 v3 v4 v5 v6 v7 v8
  have hv5 : Keeps a v5 := by
    unfold v5
    exact h.modOfferSlot
  clear_value v5
  have hv6 : Keeps a v6 := by
    unfold v6
    exact hv5.event
  clear_value v6
  have hv8 : Keeps a v8 := by
    unfold v8
    exact h.modOfferSlot
  clear_value v8
  split
  · exact h
  · split
    · apply Keeps.startPrinting
      unfold v3
      split
      · split
        · exact hv6
        · split
          · exact hv6.done
          · exact hv6.refuse
      · exact hv6
    · unfold v3
      split
      · split
        · exact hv8.event
        · split
          · apply Keeps.done
            exact hv8.event
          · apply Keeps.refuse
            exact hv8.event
      · exact hv8.event

theorem Keeps.endPrint {a s : State} (h : Keeps a s) {p1 : Nat} {p2 : Nat} : Keeps a (State.endPrint s p1 p2) := by
  unfold State.endPrint
  extract_lets v1 v2 v3
  have hv3 : Keeps a v3 := by
    unfold v3
    apply Keeps.modPrinting
    apply Keeps.bootWrite
    · exact h
    · exact Nat.le_refl _
    · exact Nat.le_refl _
  clear_value v3
  split
  · exact hv3.emit
  · exact hv3

theorem Keeps.refusePrint {a s : State} (h : Keeps a s) {p1 : Nat} {p2 : Byte} :
    Keeps a (State.refusePrint s p1 p2) := by
  unfold State.refusePrint
  apply Keeps.endPrint
  exact h.event

theorem Keeps.failPrint {a s : State} (h : Keeps a s) {p1 : Nat} : Keeps a (State.failPrint s p1) := by
  unfold State.failPrint
  extract_lets v1 v2
  have hv2 : Keeps a v2 := by
    unfold v2
    split
    · exact h
    · apply Keeps.modPrinting
      exact h.event
  clear_value v2
  exact hv2.modPrinting

theorem Keeps.sendPart {a s : State} (h : Keeps a s) {p1 : Nat} {p2 : Nat} : Keeps a (State.sendPart s p1 p2) := by
  unfold State.sendPart
  extract_lets v1 v2
  apply Keeps.emit
  exact h.modPrinting

theorem Keeps.sendParts {a : State} {k n : Nat} : ∀ {s : State}, Keeps a s → Keeps a (State.sendParts k n s) := by
  induction n with
  | zero => exact fun h => h
  | succ m ih =>
    intro s h
    unfold State.sendParts
    dsimp only
    split
    · exact ih h.modPrinting.sendPart
    · exact h

theorem Keeps.resendParts {a s : State} (h : Keeps a s) {p1 : Nat} : Keeps a (State.resendParts s p1) := by
  unfold State.resendParts
  extract_lets v1
  split
  · refine Keeps.foldl ?_ ?_
    · exact h.modPrinting
    · intro x2 b4 k3
      exact k3.sendPart
  · exact h

theorem Keeps.printReply {a s : State} (h : Keeps a s) {p1 : Nat} {p2 : PartReply} :
    Keeps a (State.printReply s p1 p2) := by
  unfold State.printReply
  extract_lets v1 v2
  have hv2 : Keeps a v2 := by
    unfold v2
    exact h.modPrinting
  clear_value v2
  split
  · exact h
  · split
    · exact hv2.refusePrint
    · split
      · apply Keeps.endPrint
        exact hv2.event
      · split
        · exact hv2.modPrinting
        · split
          · apply Keeps.sendParts
            exact hv2.modPrinting
          · split
            · exact hv2.sendParts
            · exact hv2

theorem Keeps.printSession {a s : State} (h : Keeps a s) {p1 : Nat} {p2 : PrintReply} :
    Keeps a (State.printSession s p1 p2) := by
  unfold State.printSession
  extract_lets v1
  split
  · split
    · exact h
    · split
      · apply Keeps.emit
        exact h.modPrinting
      · exact h.failPrint
  · split
    · exact h
    · split
      · apply Keeps.sendParts
        exact h.modPrinting
      · exact h.failPrint
  · exact h
  · split
    · exact h
    · exact h.failPrint

theorem Keeps.retryPrint {a s : State} (h : Keeps a s) {p1 : Nat} : Keeps a (State.retryPrint s p1) := by
  unfold State.retryPrint
  split
  · exact h.beginPrint
  · exact h

theorem Keeps.timeOutPrint {a s : State} (h : Keeps a s) {p1 : Nat} : Keeps a (State.timeOutPrint s p1) := by
  unfold State.timeOutPrint
  split
  · exact h.refusePrint
  · exact h

theorem Keeps.stopPrints {a s : State} (h : Keeps a s) : Keeps a (State.stopPrints s) := by
  unfold State.stopPrints
  split
  · exact h
  · refine Keeps.foldl ?_ ?_
    · exact h
    · intro x1 b3 k2
      split
      · exact k2.endPrint
      · exact k2

theorem Keeps.updateOffer {a s : State} (h : Keeps a s) {p1 : Entry} : Keeps a (State.updateOffer s p1) := by
  unfold State.updateOffer
  extract_lets v1 v2 v3 v4 v5 v6 v7 v8
  have hv5 : Keeps a v5 := by
    unfold v5
    exact h.modOfferSlot
  clear_value v5
  have hv6 : Keeps a v6 := by
    unfold v6
    exact hv5.stopPrints
  clear_value v6
  have hv8 : Keeps a v8 := by
    unfold v8
    exact h.modOfferSlot
  clear_value v8
  split
  · exact h.refuse
  · split
    · exact h.refuse
    · split
      · split
        · exact hv6
        · exact hv6.done
      · split
        · exact h.done
        · split
          · exact h.refuse
          · split
            · exact h.refuse
            · split
              · exact h.refuse
              · split
                · exact hv8
                · exact hv8.done

theorem Keeps.updateSchedule {a s : State} (h : Keeps a s) {p1 : Entry} : Keeps a (State.updateSchedule s p1) := by
  unfold State.updateSchedule
  extract_lets v1 v2 v3 v4
  split
  · split
    · exact h.refuse
    · apply Keeps.done
      apply Keeps.event
      apply Keeps.bootWrite
      · (refine h.upd ?_; constructor <;> dsimp only)
      · exact Nat.le_refl _
      · exact Nat.le_refl _
  · split
    · exact h.refuse
    · split
      · exact h.refuse
      · split
        · exact h.refuse
        · split
          · exact h.refuse
          · split
            · exact h.refuse
            · split
              · exact h.refuse
              · apply Keeps.done
                apply Keeps.bootWrite
                · (refine h.upd ?_; constructor <;> dsimp only)
                · exact Nat.le_refl _
                · exact Nat.le_refl _

theorem Keeps.cancelActivation {a s : State} (h : Keeps a s) {p1 : Nat} :
    Keeps a (State.cancelActivation s p1) := by
  unfold State.cancelActivation
  apply Keeps.event
  apply Keeps.bootWrite
  · (refine h.upd ?_; constructor <;> dsimp only)
  · exact Nat.le_refl _
  · exact Nat.le_refl _

theorem Keeps.activate {a s : State} (h : Keeps a s) {p1 : Hash} : Keeps a (State.activate s p1) := by
  unfold State.activate
  extract_lets v1 v2 v3 v4 v5 v6 v7 v8
  have hv1 : Keeps a v1 := by
    unfold v1
    apply Keeps.enterStop
    exact h.endHold
  clear_value v1
  have hv3 : Keeps a v3 := by
    unfold v3
    split
    · apply Keeps.emit
      exact hv1.other
    · exact hv1
  clear_value v3
  have hv4 : Keeps a v4 := by
    unfold v4
    apply Keeps.bootWrite
    · exact hv3
    · dsimp only; split <;> exact Nat.le_refl _
    · dsimp only; split <;> exact Nat.le_refl _
  clear_value v4
  have hv7 : Keeps a v7 := by
    unfold v7
    (refine hv4.upd ?_; constructor <;> dsimp only)
  clear_value v7
  have hv8 : Keeps a v8 := by
    unfold v8
    exact hv7.signHead
  clear_value v8
  apply Keeps.resetDies
  exact hv8.writeAll

theorem Keeps.activationDue {a s : State} (h : Keeps a s) : Keeps a (State.activationDue s) := by
  unfold State.activationDue
  split
  · split
    · exact h
    · split
      · exact h
      · split
        · exact h.activate
        · apply Keeps.event
          (refine h.upd ?_; constructor <;> dsimp only)
        · exact h.cancelActivation
  · exact h

theorem Keeps.deferredTimeout {a s : State} (h : Keeps a s) : Keeps a (State.deferredTimeout s) := by
  unfold State.deferredTimeout
  split
  · split
    · exact h.cancelActivation
    · exact h
  · exact h

theorem Keeps.updateConfirm {a s : State} (h : Keeps a s) {p1 : Entry} : Keeps a (State.updateConfirm s p1) := by
  unfold State.updateConfirm
  extract_lets v1 v2 v3 v4 v5 v6 v7 v8 v9 v10 v11
  have hv6 : Keeps a v6 := by
    unfold v6
    apply Keeps.bootWrite
    · exact h
    · exact Nat.le_max_left _ _
    · exact Nat.le_max_left _ _
  clear_value v6
  have hv7 : Keeps a v7 := by
    unfold v7
    split
    · exact hv6.storeSettings
    · exact hv6
  clear_value v7
  have hv8 : Keeps a v8 := by
    unfold v8
    exact hv7.modSlot
  clear_value v8
  have hv10 : Keeps a v10 := by
    unfold v10
    (refine hv8.upd ?_; constructor <;> dsimp only)
  clear_value v10
  have hv11 : Keeps a v11 := by
    unfold v11
    exact hv10.modSlot
  clear_value v11
  split
  · exact h.refuse
  · split
    · exact h.refuse
    · split
      · exact h.refuse
      · apply Keeps.done
        apply Keeps.wantSignature
        exact hv11.event

theorem Keeps.convertStore {a s : State} (h : Keeps a s) : Keeps a (State.convertStore s) := by
  unfold State.convertStore
  extract_lets v1 v2 v3
  have hv2 : Keeps a v2 := by
    unfold v2
    apply Keeps.bootWrite
    · (refine h.upd ?_; constructor <;> dsimp only)
    · exact Nat.le_refl _
    · exact Nat.le_refl _
  clear_value v2
  exact hv2.other

theorem Keeps.convertSettings {a s : State} (h : Keeps a s) : Keeps a (State.convertSettings s) := by
  unfold State.convertSettings
  extract_lets v1 v2 v3
  split
  · exact h
  · split
    · (refine h.upd ?_; constructor <;> dsimp only)
    · split
      · exact h.convertStore
      · apply Keeps.event
        apply Keeps.bootWrite
        · (refine h.upd ?_; constructor <;> dsimp only)
        · exact Nat.le_refl _
        · exact Nat.le_refl _

theorem Keeps.conversionRestart {a s : State} (h : Keeps a s) : Keeps a (State.conversionRestart s) := by
  unfold State.conversionRestart
  split
  · split
    · apply Keeps.resetDies
      exact h.writeAll
    · exact h
  · exact h

theorem Keeps.logicLoad {a s : State} (h : Keeps a s) {p1 : Entry} : Keeps a (State.logicLoad s p1) := by
  unfold State.logicLoad
  extract_lets v1 v2 v3 v4 v5 v6 v7 v8
  have hv6 : Keeps a v6 := by
    unfold v6
    unfold v5
    exact h.setBank
  clear_value v6
  have hv8 : Keeps a v8 := by
    unfold v8
    unfold v5
    exact h.setBank
  clear_value v8
  split
  · exact h.refuse
  · split
    · split
      · exact hv6
      · exact hv6.done
    · split
      · exact h.refuse
      · split
        · exact h.refuse
        · split
          · exact hv8
          · exact hv8.done

theorem Keeps.logicVerified {a s : State} (h : Keeps a s) {p1 : Image} {p2 : Bool} {p3 : Nat} {p4 : BitVec 3}
    {p5 : BitVec 3} :
    Keeps a (State.logicVerified s p1 p2 p3 p4 p5) := by
  unfold State.logicVerified
  extract_lets v1 v2 v3 v4 v5 v6 v7
  have hv7 : Keeps a v7 := by
    unfold v7
    exact h.setBank
  clear_value v7
  split
  · exact h
  · split
    · unfold v3
      split
      · split
        · exact h.setBank
        · split
          · apply Keeps.done
            exact h.setBank
          · apply Keeps.refuse
            exact h.setBank
      · exact h.setBank
    · unfold v3
      split
      · split
        · exact hv7.event
        · split
          · apply Keeps.done
            exact hv7.event
          · apply Keeps.refuse
            exact hv7.event
      · exact hv7.event

theorem Keeps.logicSwitch {a s : State} (h : Keeps a s) {p1 : Entry} {p2 : Rail} {p3 : Option W32} :
    Keeps a (State.logicSwitch s p1 p2 p3) := by
  unfold State.logicSwitch
  extract_lets v1 v2
  split
  · exact h.refuse
  · split
    · exact h.refuse
    · split
      · exact h.refuse
      · split
        · exact h.refuse
        · apply Keeps.done
          exact h.other

theorem Keeps.swapBanks {a s : State} (h : Keeps a s) : Keeps a (State.swapBanks s) := by
  unfold State.swapBanks
  extract_lets v1 v2 v3 v4 v5 v6 v7 v8 v9 v10 v11
  have hv5 : Keeps a v5 := by
    unfold v5
    split
    · exact h.setBank
    · exact h
  clear_value v5
  have hv6 : Keeps a v6 := by
    unfold v6
    exact hv5.setBank
  clear_value v6
  have hv10 : Keeps a v10 := by
    unfold v10
    apply Keeps.storeSettings
    exact hv6.other
  clear_value v10
  have hv11 : Keeps a v11 := by
    unfold v11
    exact hv10.modLanes
  clear_value v11
  exact hv11.switchPartners

theorem Keeps.exchange {a s : State} (h : Keeps a s) : Keeps a (State.exchange s) := by
  unfold State.exchange
  split
  · exact h
  · extract_lets v1 v2 v3 v4 v5 v6 v7 v8 v9 v10 v11
    have hv7 : Keeps a v7 := by
      unfold v7
      exact h.swapBanks
    clear_value v7
    have hv10 : Keeps a v10 := by
      unfold v10
      split
      · exact hv7.other
      · split
        · (refine hv7.upd ?_; constructor <;> dsimp only)
        · (refine hv7.upd ?_; constructor <;> dsimp only)
    clear_value v10
    have hv11 : Keeps a v11 := by
      unfold v11
      split
      · exact hv10.other
      · exact hv10
    clear_value v11
    exact hv11.wantSignature

end Sys2Proof.Machine
end

