-- ==== Sys2Proof/Laws/KeepsCycle.lean ====
section
/-! SUPPORT. `Keeps` for every operation of the phases of the cycle: one lemma per operation. -/

namespace Sys2Proof.Machine

theorem Keeps.freeze {a s : State} (h : Keeps a s) {p1 : Lane} {p2 : Ticks} : Keeps a (State.freeze s p1 p2) := by
  unfold State.freeze
  extract_lets v1 v2 v3
  have hv1 : Keeps a v1 := by
    unfold v1
    apply Keeps.pairedCheck
    exact h.readbackAll
  clear_value v1
  have hv3 : Keeps a v3 := by
    unfold v3
    exact hv1.modLane
  clear_value v3
  apply Keeps.emit
  exact hv3.tally

theorem Keeps.channelError {a s : State} (h : Keeps a s) {p1 : Chan} : Keeps a (State.channelError s p1) := by
  unfold State.channelError
  split
  · exact h.modChan
  · apply Keeps.note
    exact h.modChan

theorem Keeps.invertedWords {a s : State} (h : Keeps a s) {p1 : Chan} : Keeps a (State.invertedWords s p1) := by
  unfold State.invertedWords
  split
  · apply Keeps.spendInjection
    exact h.emit
  · apply Keeps.spendInjection
    exact h.channelError

theorem Keeps.takeInput {a s : State} (h : Keeps a s) {p1 : Lane} {p2 : Chan} {p3 : List W32} :
    Keeps a (State.takeInput s p1 p2 p3) := by
  unfold State.takeInput
  extract_lets v1
  have hv1 : Keeps a v1 := by
    unfold v1
    split
    · exact h.invertedWords
    · exact h
  clear_value v1
  split
  · split
    · split
      · exact hv1.channelError
      · split
        · exact hv1
        · exact hv1.modLane
    · exact hv1.channelError
  · exact hv1.channelError

theorem Keeps.closeExpose {a s : State} (h : Keeps a s) {p1 : List Lane} : Keeps a (State.closeExpose s p1) := by
  unfold State.closeExpose
  extract_lets v1 v2
  have hv1 : Keeps a v1 := by
    unfold v1
    refine Keeps.foldl ?_ ?_
    · exact h
    · intro x3 b5 k4
      extract_lets v6
      apply Keeps.emit
      exact k4.modLane
  clear_value v1
  split
  · exact hv1
  · exact hv1.other

theorem Keeps.countMinority {a s : State} (h : Keeps a s) {p1 : BitVec 3} {p2 : List (Lane × InputImage)} {p3 :
    Consensus} :
    Keeps a (State.countMinority s p1 p2 p3) := by
  unfold State.countMinority
  extract_lets v1
  refine Keeps.foldl ?_ ?_
  · exact h
  · intro x2 b4 k3
    extract_lets v5 v6 v7
    have hv7 : Keeps a v7 := by
      unfold v7
      exact k3.modLane
    clear_value v7
    split
    · exact k3
    · split
      · exact hv7
      · exact hv7.tally

theorem Keeps.tallyPartner {a s : State} (h : Keeps a s) {p1 : Nat} {p2 : Session} :
    Keeps a (State.tallyPartner s p1 p2) := by
  unfold State.tallyPartner
  split
  · split
    · exact h.tally
    · exact h
  · exact h

theorem Keeps.pruneTelegrams {a s : State} (h : Keeps a s) {p1 : Session} :
    Keeps a (State.pruneTelegrams s p1) := by
  unfold State.pruneTelegrams
  extract_lets v1 v2
  have hv2 : Keeps a v2 := by
    unfold v2
    refine Keeps.foldl ?_ ?_
    · exact h
    · intro x3 b5 k4
      apply Keeps.tallyPartner
      exact k4.countRefused
  clear_value v2
  exact hv2.modSession

theorem Keeps.judgePartners {a s : State} (h : Keeps a s) {p1 : Consensus} :
    Keeps a (State.judgePartners s p1) := by
  unfold State.judgePartners
  refine Keeps.foldl ?_ ?_
  · exact h
  · intro x1 b3 k2
    extract_lets v4 v5
    have hv5 : Keeps a v5 := by
      unfold v5
      split
      · exact k2.tallyPartner
      · exact k2
    clear_value v5
    apply Keeps.pruneTelegrams
    exact hv5.judgePartner

theorem Keeps.expireEntries {a s : State} (h : Keeps a s) : Keeps a (State.expireEntries s) := by
  unfold State.expireEntries
  (refine h.upd ?_; constructor <;> dsimp only)

theorem Keeps.checkEntries {a s : State} (h : Keeps a s) {p1 : W32} : Keeps a (State.checkEntries s p1) := by
  unfold State.checkEntries
  extract_lets v1 v2
  have hv2 : Keeps a v2 := by
    unfold v2
    exact h.endEntries
  clear_value v2
  refine Keeps.foldl ?_ ?_
  · exact hv2
  · intro x3 b5 k4
    exact k4.note

theorem Keeps.skip {a s : State} (h : Keeps a s) : Keeps a (State.skip s) := by
  unfold State.skip
  extract_lets v1 v2 v3 v4 v5 v6
  have hv4 : Keeps a v4 := by
    unfold v4
    (refine h.upd ?_; constructor <;> dsimp only)
  clear_value v4
  have hv5 : Keeps a v5 := by
    unfold v5
    apply Keeps.note
    exact hv4.tally
  clear_value v5
  split
  · exact hv5.other
  · exact hv5.sendTelegrams

theorem Keeps.formConsensus {a s : State} (h : Keeps a s) {p1 : Lane} {p2 : BitVec 3} :
    Keeps a (State.formConsensus s p1 p2) := by
  unfold State.formConsensus
  extract_lets v1 v2 v3 v4 v5 v6 v7 v8 v9 v10 v11 v12 v13 v14 v15 v16
  have hv5 : Keeps a v5 := by
    unfold v5
    apply Keeps.judgePartners
    exact h.countMinority
  clear_value v5
  have hv11 : Keeps a v11 := by
    unfold v11
    exact hv5.other
  clear_value v11
  have hv13 : Keeps a v13 := by
    unfold v13
    split
    · exact hv11.other
    · exact hv11
  clear_value v13
  have hv14 : Keeps a v14 := by
    unfold v14
    apply Keeps.checkEntries
    exact hv13.expireEntries
  clear_value v14
  have hv15 : Keeps a v15 := by
    unfold v15
    split
    · exact hv14.voteFault
    · exact hv14
  clear_value v15
  split
  · exact hv15.other
  · exact hv15.other

theorem Keeps.decideSet {a s : State} (h : Keeps a s) {p1 : Lane} : Keeps a (State.decideSet s p1) := by
  unfold State.decideSet
  split
  · extract_lets v1 v2 v3 v4 v5 v6
    have hv5 : Keeps a v5 := by
      unfold v5
      exact h.other
    clear_value v5
    split
    · split
      · exact hv5.other
      · exact hv5.skip
    · split
      · exact h.formConsensus
      · exact h
  · exact h

theorem Keeps.takeSet {a s : State} (h : Keeps a s) {p1 : Lane} {p2 : Chan} {p3 : List W32} :
    Keeps a (State.takeSet s p1 p2 p3) := by
  unfold State.takeSet
  split
  · extract_lets v1 v2 v3 v4
    have hv4 : Keeps a v4 := by
      unfold v4
      exact h.modLane
    clear_value v4
    split
    · exact h.channelError
    · split
      · exact h
      · split
        · exact hv4.emit
        · exact hv4
  · exact h.channelError

theorem Keeps.freeTrays {a s : State} (h : Keeps a s) {p1 : W32} : Keeps a (State.freeTrays s p1) := by
  unfold State.freeTrays
  (refine h.upd ?_; constructor <;> dsimp only)

theorem Keeps.modeSet {a s : State} (h : Keeps a s) {p1 : Entry} : Keeps a (State.modeSet s p1) := by
  unfold State.modeSet
  split
  · exact h.done
  · apply Keeps.done
    exact h.other
  · apply Keeps.done
    exact h.other
  · exact h.done
  · split
    · apply Keeps.done
      exact h.other
    · exact h.refuse
  · exact h.other
  · exact h.done
  · exact h.refuse
  · exact h.refuse

theorem Keeps.enterHold {a s : State} (h : Keeps a s) {p1 : Entry} : Keeps a (State.enterHold s p1) := by
  unfold State.enterHold
  extract_lets v1 v2 v3 v4 v5 v6 v7
  have hv2 : Keeps a v2 := by
    unfold v2
    apply Keeps.endTest
    exact h.take
  clear_value v2
  have hv3 : Keeps a v3 := by
    unfold v3
    exact hv2.darken
  clear_value v3
  have hv6 : Keeps a v6 := by
    unfold v6
    split
    · exact hv3.other
    · exact hv2
  clear_value v6
  exact hv6.other

theorem Keeps.haltAgain {a s : State} (h : Keeps a s) {p1 : HoldRec} : Keeps a (State.haltAgain s p1) := by
  unfold State.haltAgain
  extract_lets v1 v2
  have hv1 : Keeps a v1 := by
    unfold v1
    exact h.sayAll
  clear_value v1
  exact hv1.other

theorem Keeps.holdStep {a s : State} (h : Keeps a s) {p1 : Entry} : Keeps a (State.holdStep s p1) := by
  unfold State.holdStep
  split
  · split
    · exact h.refuse
    · exact h.other
  · exact h.refuse

theorem Keeps.holdExpired {a s : State} (h : Keeps a s) : Keeps a (State.holdExpired s) := by
  unfold State.holdExpired
  split
  · split
    · apply Keeps.discardCycle
      apply Keeps.enterStop
      exact h.endHold
    · exact h
  · exact h

theorem Keeps.settingsWritten {a s : State} (h : Keeps a s) {p1 : BitVec 2} :
    Keeps a (State.settingsWritten s p1) := by
  unfold State.settingsWritten
  extract_lets v1 v2
  apply Keeps.storeSettings
  exact h.other

theorem Keeps.cycleSet {a s : State} (h : Keeps a s) {p1 : Entry} {p2 : Option W32} :
    Keeps a (State.cycleSet s p1 p2) := by
  unfold State.cycleSet
  extract_lets v1 v2 v3
  split
  · exact h.refuse
  · split
    · exact h.refuse
    · split
      · exact h.refuse
      · split
        · exact h.refuse
        · apply Keeps.done
          apply Keeps.settingsWritten
          exact h.other

theorem Keeps.pairSet {a s : State} (h : Keeps a s) {p1 : Entry} : Keeps a (State.pairSet s p1) := by
  unfold State.pairSet
  split
  · exact h.refuse
  · split
    · exact h.refuse
    · extract_lets v1 v2
      apply Keeps.done
      apply Keeps.settingsWritten
      exact h.other

theorem Keeps.beginHandover {a s : State} (h : Keeps a s) {p1 : W32} : Keeps a (State.beginHandover s p1) := by
  unfold State.beginHandover
  split
  · (refine h.upd ?_; constructor <;> dsimp only)
  · exact h

theorem Keeps.lampRelease {a s : State} (h : Keeps a s) {p1 : Entry} : Keeps a (State.lampRelease s p1) := by
  unfold State.lampRelease
  split
  · split
    · exact h
    · exact h.refuse
  · exact h.refuse

theorem Keeps.sessionClose {a s : State} (h : Keeps a s) {p1 : Entry} : Keeps a (State.sessionClose s p1) := by
  unfold State.sessionClose
  apply Keeps.done
  exact h.modSession

theorem Keeps.cutCommand {a s : State} (h : Keeps a s) {p1 : List Entry} {p2 : Entry} :
    Keeps a (State.cutCommand s p1 p2) := by
  unfold State.cutCommand
  split
  · exact h.refuse
  · split
    · exact h.sessionClose
    · exact h.done
    · exact h.modeSet
    · exact h.cycleSet
    · exact h.holdStep
    · exact h.counterSet
    · exact h.faultClear
    · exact h.faultInject
    · exact h.lampRelease
    · split
      · exact h.refuse
      · exact h.logicSwitch
    · exact h

theorem Keeps.cutCommands {a s : State} (h : Keeps a s) {p1 : List Entry} : Keeps a (State.cutCommands s p1) := by
  unfold State.cutCommands
  refine Keeps.foldl ?_ ?_
  · exact h
  · intro x1 b3 k2
    apply Keeps.cutCommand
    exact k2.take

theorem Keeps.otherCommands {a s : State} (h : Keeps a s) {p1 : W32} : Keeps a (State.otherCommands s p1) := by
  unfold State.otherCommands
  extract_lets v1 v2 v3
  have hv2 : Keeps a v2 := by
    unfold v2
    exact h.endEntries
  clear_value v2
  exact hv2.cutCommands

theorem Keeps.countRoutes {a s : State} (h : Keeps a s) {p1 : Rail} {p2 : Rail} :
    Keeps a (State.countRoutes s p1 p2) := by
  unfold State.countRoutes
  extract_lets v1
  refine Keeps.foldl ?_ ?_
  · exact h
  · intro x2 b4 k3
    split
    · split
      · exact k3.tally
      · split
        · exact k3.tally
        · exact k3
    · exact k3

theorem Keeps.commit {a s : State} (h : Keeps a s) {p1 : DevResult} {p2 : OutputImage} :
    Keeps a (State.commit s p1 p2) := by
  unfold State.commit
  extract_lets v1 v2 v3 v4 v5 v6 v7 v8
  have hv3 : Keeps a v3 := by
    unfold v3
    exact h.countRoutes
  clear_value v3
  (refine hv3.upd ?_; constructor <;> dsimp only)

theorem Keeps.answerResume {a s : State} (h : Keeps a s) : Keeps a (State.answerResume s) := by
  unfold State.answerResume
  split
  · extract_lets v1 v2
    have hv1 : Keeps a v1 := by
      unfold v1
      exact h.sayAll
    clear_value v1
    exact hv1.other
  · exact h

theorem Keeps.fixReplies {a s : State} (h : Keeps a s) {p1 : DevResult} {p2 : OutputImage} :
    Keeps a (State.fixReplies s p1 p2) := by
  unfold State.fixReplies
  apply Keeps.otherCommands
  apply Keeps.answerResume
  apply Keeps.sayAll
  exact h.commit

theorem Keeps.testStripRun {a s : State} (h : Keeps a s) {p1 : Entry} : Keeps a (State.testStripRun s p1) := by
  unfold State.testStripRun
  split
  · exact h.refuse
  · split
    · exact h.refuse
    · exact h.other

theorem Keeps.testSlice {a s : State} (h : Keeps a s) : Keeps a (State.testSlice s) := by
  unfold State.testSlice
  split
  · exact h
  · split
    · exact h
    · extract_lets v1 v2 v3
      have hv3 : Keeps a v3 := by
        unfold v3
        split
        · exact h.event
        · exact h
      clear_value v3
      clear_value v1
      split
      · exact h.endTest
      · exact hv3.other

theorem Keeps.testBoundary {a s : State} (h : Keeps a s) : Keeps a (State.testBoundary s) := by
  unfold State.testBoundary
  split
  · exact h
  · split
    · exact h
    · extract_lets v1
      split
      · split
        · split
          · apply Keeps.modLane
            exact h.other
          · exact h.endTest
        · split
          · exact h.endTest
          · split
            · exact h.endTest
            · exact h
      · split
        · exact h.endTest
        · exact h

theorem Keeps.noteLane {a s : State} (h : Keeps a s) {p1 : Nat} {p2 : Lane} :
    Keeps a (State.noteLane s p1 p2) := by
  unfold State.noteLane
  split
  · exact h.note
  · exact h

theorem Keeps.sramRead {a s : State} (h : Keeps a s) {p1 : Lane} {p2 : BitVec 22} {p3 : W64} {p4 : Byte} :
    Keeps a (State.sramRead s p1 p2 p3 p4) := by
  unfold State.sramRead
  extract_lets v1 v2
  split
  · exact h
  · extract_lets v3
    apply Keeps.noteLane
    exact h.modLane

theorem Keeps.refill {a s : State} (h : Keeps a s) {p1 : Lane} {p2 : Bool} {p3 : Bool} {p4 : Nat} :
    Keeps a (State.refill s p1 p2 p3 p4) := by
  unfold State.refill
  apply Keeps.noteLane
  exact h.modLane

theorem Keeps.sendDelta {a s : State} (h : Keeps a s) {p1 : DevResult} : Keeps a (State.sendDelta s p1) := by
  unfold State.sendDelta
  extract_lets v1 v2 v3
  have hv1 : Keeps a v1 := by
    unfold v1
    exact h.sendMirror
  clear_value v1
  (refine hv1.upd ?_; constructor <;> dsimp only)

theorem Keeps.sendRenew {a s : State} (h : Keeps a s) : Keeps a (State.sendRenew s) := by
  unfold State.sendRenew
  split
  · extract_lets v1 v2 v3
    have hv1 : Keeps a v1 := by
      unfold v1
      exact h.sendMirror
    clear_value v1
    (refine hv1.upd ?_; constructor <;> dsimp only)
  · exact h

theorem Keeps.sendAnnounce {a s : State} (h : Keeps a s) : Keeps a (State.sendAnnounce s) := by
  unfold State.sendAnnounce
  extract_lets v1
  split
  · exact h.sendMirror
  · exact h

theorem Keeps.sendBulk {a s : State} (h : Keeps a s) : Keeps a (State.sendBulk s) := by
  unfold State.sendBulk
  split
  · extract_lets v1 v2 v3
    have hv1 : Keeps a v1 := by
      unfold v1
      exact h.sendMirror
    clear_value v1
    (refine hv1.upd ?_; constructor <;> dsimp only)
  · exact h

theorem Keeps.countAnswer {a s : State} (h : Keeps a s) {p1 : Answer} : Keeps a (State.countAnswer s p1) := by
  unfold State.countAnswer
  split
  · exact h
  · split
    · exact h.tally
    · exact h.tally

theorem Keeps.sendAnswer {a s : State} (h : Keeps a s) {p1 : Answer} : Keeps a (State.sendAnswer s p1) := by
  unfold State.sendAnswer
  split
  · exact h
  · extract_lets v1 v2
    have hv1 : Keeps a v1 := by
      unfold v1
      exact h.countAnswer
    clear_value v1
    have hv2 : Keeps a v2 := by
      unfold v2
      exact hv1.sendIn
    clear_value v2
    split
    · exact hv1
    · split
      · exact hv1.eventReply
      · split
        · exact hv1.note
        · split
          · exact hv2.modSession
          · exact hv2

theorem Keeps.sendOpen4 {a s : State} (h : Keeps a s) {p1 : Session} : Keeps a (State.sendOpen4 s p1) := by
  unfold State.sendOpen4
  extract_lets v1 v2
  have hv2 : Keeps a v2 := by
    unfold v2
    exact h.modSession
  clear_value v2
  split
  · exact hv2.sendIn
  · exact hv2

theorem Keeps.sendKeepalive {a s : State} (h : Keeps a s) {p1 : Session} : Keeps a (State.sendKeepalive s p1) := by
  unfold State.sendKeepalive
  split
  · exact h.sendIn
  · exact h

theorem Keeps.stepSubs {a s : State} (h : Keeps a s) : Keeps a (State.stepSubs s) := by
  unfold State.stepSubs
  (refine h.upd ?_; constructor <;> dsimp only)

theorem Keeps.sendUpdate {a s : State} (h : Keeps a s) {p1 : Nat × List Byte} :
    Keeps a (State.sendUpdate s p1) := by
  unfold State.sendUpdate
  split
  · split
    · exact h.sendIn
    · exact h
  · exact h

theorem Keeps.sendReplies {a s : State} (h : Keeps a s) {p1 : List (Nat × List Byte)} :
    Keeps a (State.sendReplies s p1) := by
  unfold State.sendReplies
  extract_lets v1 v2 v3 v4
  have hv1 : Keeps a v1 := by
    unfold v1
    refine Keeps.foldl ?_ ?_
    · exact h
    · intro x5 b7 k6
      exact k6.sendOpen4
  clear_value v1
  have hv2 : Keeps a v2 := by
    unfold v2
    refine Keeps.foldl ?_ ?_
    · exact hv1
    · intro x8 b10 k9
      exact k9.sendAnswer
  clear_value v2
  have hv4 : Keeps a v4 := by
    unfold v4
    refine Keeps.foldl ?_ ?_
    · (refine hv2.upd ?_; constructor <;> dsimp only)
    · intro x11 b13 k12
      exact k12.sendUpdate
  clear_value v4
  refine Keeps.foldl ?_ ?_
  · exact hv4.saidSeal
  · intro x14 b16 k15
    exact k15.sendKeepalive

theorem Keeps.serviceCommand {a s : State} (h : Keeps a s) {p1 : Entry} : Keeps a (State.serviceCommand s p1) := by
  unfold State.serviceCommand
  split
  · exact h.refuse
  · split
    · exact h.queryState
    · exact h.subscribe
    · exact h.unsubscribe
    · exact h.testStripRun
    · exact h.negativeRead
    · exact h.counterRead
    · exact h.updateOffer
    · exact h.updateSchedule
    · exact h.updateConfirm
    · exact h.propose
    · exact h.sealApprove
    · exact h.propose
    · exact h.lampStatus
    · exact h.pairSet
    · exact h.logicLoad
    · exact h

theorem Keeps.sendSlice {a s : State} (h : Keeps a s) {p1 : Lane} : Keeps a (State.sendSlice s p1) := by
  unfold State.sendSlice
  extract_lets v1 v2
  split
  · apply Keeps.emitAll
    exact h.modLane
  · split
    · exact h
    · apply Keeps.emitAll
      exact h.modLane

theorem Keeps.resyncOut {a s : State} (h : Keeps a s) {p1 : Lane} : Keeps a (State.resyncOut s p1) := by
  unfold State.resyncOut
  extract_lets v1
  split
  · exact h
  · split
    · apply Keeps.emitAll
      exact h.sendSlice
    · apply Keeps.sendSlice
      exact h.modLane

theorem Keeps.scanLane {a s : State} (h : Keeps a s) {p1 : Lane} : Keeps a (State.scanLane s p1) := by
  unfold State.scanLane
  extract_lets v1 v2 v3
  have hv3 : Keeps a v3 := by
    unfold v3
    exact h.modLane
  clear_value v3
  refine Keeps.foldl ?_ ?_
  · exact hv3
  · intro x4 b6 k5
    exact k5.sramRead

theorem Keeps.slack {a s : State} (h : Keeps a s) : Keeps a (State.slack s) := by
  unfold State.slack
  extract_lets v1 v2 v3 v4
  have hv1 : Keeps a v1 := by
    unfold v1
    exact h.testSlice
  clear_value v1
  have hv2 : Keeps a v2 := by
    unfold v2
    refine Keeps.foldl ?_ ?_
    · exact hv1
    · intro x5 b7 k6
      apply Keeps.serviceCommand
      exact k6.take
  clear_value v2
  have hv3 : Keeps a v3 := by
    unfold v3
    refine Keeps.foldl ?_ ?_
    · exact hv2
    · intro x8 b10 k9
      exact k9.resyncOut
  clear_value v3
  have hv4 : Keeps a v4 := by
    unfold v4
    refine Keeps.foldl ?_ ?_
    · exact hv3
    · intro x11 b13 k12
      exact k12.scanLane
  clear_value v4
  apply Keeps.sendAnnounce
  exact hv4.sendBulk

theorem Keeps.giveUpLamp {a s : State} (h : Keeps a s) {p1 : Option Byte} : Keeps a (State.giveUpLamp s p1) := by
  unfold State.giveUpLamp
  split
  · apply Keeps.endEntries
    exact h.ceaseHolding
  · exact h

theorem Keeps.lapse {a s : State} (h : Keeps a s) : Keeps a (State.lapse s) := by
  unfold State.lapse
  split
  · apply Keeps.giveUpLamp
    exact h.endHandover
  · exact h

theorem Keeps.latchEvent {a s : State} (h : Keeps a s) {p1 : Entry} : Keeps a (State.latchEvent s p1) := by
  unfold State.latchEvent
  extract_lets v1
  have hv1 : Keeps a v1 := by
    unfold v1
    exact h.take
  clear_value v1
  split
  · exact hv1.say
  · split
    · exact hv1.say
    · split
      · apply Keeps.say
        exact hv1.other
      · exact hv1

theorem Keeps.latchEvents {a s : State} (h : Keeps a s) : Keeps a (State.latchEvents s) := by
  unfold State.latchEvents
  refine Keeps.foldl ?_ ?_
  · exact h
  · intro x1 b3 k2
    exact k2.latchEvent

theorem Keeps.fence {a s : State} (h : Keeps a s) : Keeps a (State.fence s) := by
  unfold State.fence
  exact h.other

theorem Keeps.stopRelease {a s : State} (h : Keeps a s) : Keeps a (State.stopRelease s) := by
  unfold State.stopRelease
  extract_lets v1 v2 v3 v4 v5 v6 v7
  have hv2 : Keeps a v2 := by
    unfold v2
    apply Keeps.fence
    apply Keeps.lapse
    exact h.stepSubs
  clear_value v2
  have hv3 : Keeps a v3 := by
    unfold v3
    apply Keeps.latchEvents
    exact hv2.sendTelegrams
  clear_value v3
  have hv4 : Keeps a v4 := by
    unfold v4
    apply Keeps.sendRenew
    exact hv3.beginHandover
  clear_value v4
  have hv5 : Keeps a v5 := by
    unfold v5
    apply Keeps.sendReplies
    apply Keeps.freeTrays
    exact hv4.otherCommands
  clear_value v5
  have hv6 : Keeps a v6 := by
    unfold v6
    exact hv5.slack
  clear_value v6
  exact hv6.other

theorem Keeps.startMirror {a s : State} (h : Keeps a s) : Keeps a (State.startMirror s) := by
  unfold State.startMirror
  split
  · split
    · extract_lets v1 v2
      have hv1 : Keeps a v1 := by
        unfold v1
        split
        · exact h.sendDelta
        · exact h
      clear_value v1
      exact hv1.other
    · exact h.other
  · exact h

theorem Keeps.holdRelease {a s : State} (h : Keeps a s) : Keeps a (State.holdRelease s) := by
  unfold State.holdRelease
  extract_lets v1 v2 v3 v4 v5 v6 v7 v8 v9 v10
  have hv2 : Keeps a v2 := by
    unfold v2
    apply Keeps.lapse
    exact h.stepSubs
  clear_value v2
  have hv3 : Keeps a v3 := by
    unfold v3
    apply Keeps.sendRenew
    apply Keeps.fence
    exact hv2.sendTelegrams
  clear_value v3
  have hv5 : Keeps a v5 := by
    unfold v5
    exact hv3.other
  clear_value v5
  have hv7 : Keeps a v7 := by
    unfold v7
    exact hv5.sayAll
  clear_value v7
  have hv9 : Keeps a v9 := by
    unfold v9
    exact hv7.other
  clear_value v9
  have hv10 : Keeps a v10 := by
    unfold v10
    apply Keeps.sendReplies
    apply Keeps.freeTrays
    exact hv9.otherCommands
  clear_value v10
  split
  · exact hv10.startMirror
  · exact hv10.slack

theorem Keeps.safeRelease {a s : State} (h : Keeps a s) : Keeps a (State.safeRelease s) := by
  unfold State.safeRelease
  split
  · exact h.stopRelease
  · split
    · exact h.holdRelease
    · exact h

theorem Keeps.developEnd {a s : State} (h : Keeps a s) : Keeps a (State.developEnd s) := by
  unfold State.developEnd
  split
  · split
    · exact h.enterHold
    · apply Keeps.startMirror
      exact h.beginHandover
  · exact h.haltAgain
  · exact h

theorem Keeps.lateDelta {a s : State} (h : Keeps a s) : Keeps a (State.lateDelta s) := by
  unfold State.lateDelta
  split
  · split
    · exact h.sendDelta
    · exact h
  · exact h

theorem Keeps.developDone {a s : State} (h : Keeps a s) {p1 : Lane} {p2 : W64} :
    Keeps a (State.developDone s p1 p2) := by
  unfold State.developDone
  split
  · extract_lets v1 v2 v3
    have hv2 : Keeps a v2 := by
      unfold v2
      split
      · exact h.other
      · exact h
    clear_value v2
    have hv3 : Keeps a v3 := by
      unfold v3
      exact hv2.modLane
    clear_value v3
    split
    · exact hv3.developEnd
    · exact hv3.lateDelta
  · exact h

theorem Keeps.developMissed {a s : State} (h : Keeps a s) : Keeps a (State.developMissed s) := by
  unfold State.developMissed
  split
  · apply Keeps.tally
    exact h.other
  · exact h

theorem Keeps.developLate {a s : State} (h : Keeps a s) : Keeps a (State.developLate s) := by
  unfold State.developLate
  split
  · exact h.skip
  · exact h

theorem Keeps.handOver {a s : State} (h : Keeps a s) : Keeps a (State.handOver s) := by
  unfold State.handOver
  split
  · extract_lets v1 v2 v3
    have hv1 : Keeps a v1 := by
      unfold v1
      exact h.giveUpLamp
    clear_value v1
    (refine hv1.upd ?_; constructor <;> dsimp only)
  · exact h

theorem Keeps.settleHandover {a s : State} (h : Keeps a s) {p1 : Bool} : Keeps a (State.settleHandover s p1) := by
  unfold State.settleHandover
  extract_lets v1
  split
  · exact h
  · split
    · split
      · exact h.endHandover
      · exact h
    · exact h.endHandover
    · split
      · exact h
      · exact h.handOver

theorem Keeps.unmirror {a s : State} (h : Keeps a s) : Keeps a (State.unmirror s) := by
  unfold State.unmirror
  split
  · exact h.other
  · exact h

theorem Keeps.mirrorEnd {a s : State} (h : Keeps a s) : Keeps a (State.mirrorEnd s) := by
  unfold State.mirrorEnd
  apply Keeps.sendRenew
  apply Keeps.settleHandover
  exact h.unmirror

theorem Keeps.newVote {a s : State} (h : Keeps a s) : Keeps a (State.newVote s) := by
  unfold State.newVote
  refine Keeps.foldl ?_ ?_
  · exact h
  · intro x1 b3 k2
    exact k2.modLane

theorem Keeps.sendSets {a s : State} (h : Keeps a s) : Keeps a (State.sendSets s) := by
  unfold State.sendSets
  refine Keeps.foldl ?_ ?_
  · exact h.newVote
  · intro x1 b3 k2
    apply Keeps.emit
    exact k2.modLane

theorem Keeps.probationMatch {a s : State} (h : Keeps a s) {p1 : OutputImage} {p2 : Lane} {p3 : OutputImage} :
    Keeps a (State.probationMatch s p1 p2 p3) := by
  unfold State.probationMatch
  split
  · exact h.modLane
  · exact h.noteOut

theorem Keeps.tardyMatch {a s : State} (h : Keeps a s) {p1 : OutputImage} {p2 : Lane} {p3 : OutputImage} :
    Keeps a (State.tardyMatch s p1 p2 p3) := by
  unfold State.tardyMatch
  split
  · exact h.modLane
  · exact h.noteOut

theorem Keeps.lateMatch {a s : State} (h : Keeps a s) {p1 : OutputImage} {p2 : Lane} {p3 : OutputImage} :
    Keeps a (State.lateMatch s p1 p2 p3) := by
  unfold State.lateMatch
  split
  · exact h.probationMatch
  · exact h.tardyMatch

theorem Keeps.voteOut {a s : State} (h : Keeps a s) {p1 : Bool} {p2 : Lane} : Keeps a (State.voteOut s p1 p2) := by
  unfold State.voteOut
  apply Keeps.tally
  exact h.modLane

theorem Keeps.judgeOutside {a s : State} (h : Keeps a s) {p1 : OutputImage} {p2 : Lane} :
    Keeps a (State.judgeOutside s p1 p2) := by
  unfold State.judgeOutside
  extract_lets v1
  split
  · split
    · exact h.lateMatch
    · exact h.modLane
  · exact h

theorem Keeps.driveLanes {a s : State} (h : Keeps a s) {p1 : OutputImage} {p2 : List Lane} :
    Keeps a (State.driveLanes s p1 p2) := by
  unfold State.driveLanes
  extract_lets v1
  refine Keeps.foldl ?_ ?_
  · exact h
  · intro x2 b4 k3
    extract_lets v5
    apply Keeps.commandLane
    exact k3.modLane

theorem Keeps.fix {a s : State} (h : Keeps a s) {p1 : OutputImage} {p2 : List Lane} {p3 : Bool} :
    Keeps a (State.fix s p1 p2 p3) := by
  unfold State.fix
  split
  · exact h
  · extract_lets v1 v2 v3 v4 v5 v6 v7 v8 v9 v10
    have hv3 : Keeps a v3 := by
      unfold v3
      exact h.stepSubs
    clear_value v3
    have hv5 : Keeps a v5 := by
      unfold v5
      apply Keeps.fence
      exact hv3.commit
    clear_value v5
    have hv6 : Keeps a v6 := by
      unfold v6
      refine Keeps.foldl ?_ ?_
      · exact hv5
      · intro x11 b13 k12
        exact k12.voteOut
    clear_value v6
    have hv7 : Keeps a v7 := by
      unfold v7
      refine Keeps.foldl ?_ ?_
      · exact hv6
      · intro x14 b16 k15
        exact k15.judgeOutside
    clear_value v7
    have hv8 : Keeps a v8 := by
      unfold v8
      apply Keeps.sendTelegrams
      exact hv7.driveLanes
    clear_value v8
    have hv9 : Keeps a v9 := by
      unfold v9
      apply Keeps.answerResume
      exact hv8.sayAll
    clear_value v9
    have hv10 : Keeps a v10 := by
      unfold v10
      apply Keeps.settleHandover
      apply Keeps.freeTrays
      exact hv9.otherCommands
    clear_value v10
    apply Keeps.slack
    apply Keeps.tally
    exact hv10.sendReplies

theorem Keeps.fixIfLease {a s : State} (h : Keeps a s) {p1 : OutputImage} {p2 : List Lane} {p3 : Bool} :
    Keeps a (State.fixIfLease s p1 p2 p3) := by
  unfold State.fixIfLease
  extract_lets v1
  have hv1 : Keeps a v1 := by
    unfold v1
    split
    · exact h.note
    · exact h
  clear_value v1
  split
  · exact hv1
  · exact hv1.fix

theorem Keeps.voteThree {a s : State} (h : Keeps a s) {p1 : OutputImage} {p2 : OutputImage} {p3 : OutputImage}
    {p4 : Bool} :
    Keeps a (State.voteThree s p1 p2 p3 p4) := by
  unfold State.voteThree
  split
  · exact h.voteFault
  · extract_lets v1 v2 v3
    have hv2 : Keeps a v2 := by
      unfold v2
      refine Keeps.foldl ?_ ?_
      · exact h
      · intro x4 b6 k5
        exact k5.noteOut
    clear_value v2
    split
    · exact hv2
    · exact hv2.fixIfLease

theorem Keeps.voteTwo {a s : State} (h : Keeps a s) {p1 : Lane} {p2 : Lane} {p3 : OutputImage} {p4 :
    OutputImage} {p5 : Bool} :
    Keeps a (State.voteTwo s p1 p2 p3 p4 p5) := by
  unfold State.voteTwo
  split
  · exact h.fixIfLease
  · split
    · extract_lets v1 v2
      have hv2 : Keeps a v2 := by
        unfold v2
        exact h.other
      clear_value v2
      split
      · exact hv2
      · refine Keeps.foldl ?_ ?_
        · exact hv2
        · intro x3 b5 k4
          exact k4.modLane
    · exact h.voteFault

theorem Keeps.lapsedCycle {a s : State} (h : Keeps a s) : Keeps a (State.lapsedCycle s) := by
  unfold State.lapsedCycle
  extract_lets v1 v2
  have hv1 : Keeps a v1 := by
    unfold v1
    apply Keeps.sendTelegrams
    exact h.lapse
  clear_value v1
  exact hv1.other

theorem Keeps.voteInstant {a s : State} (h : Keeps a s) : Keeps a (State.voteInstant s) := by
  unfold State.voteInstant
  split
  · exact h.lapsedCycle
  · extract_lets v1 v2
    have hv1 : Keeps a v1 := by
      unfold v1
      exact h.sendSets
    clear_value v1
    exact hv1.other

theorem Keeps.voteOver {a s : State} (h : Keeps a s) {p1 : List Lane} {p2 : Bool} :
    Keeps a (State.voteOver s p1 p2) := by
  unfold State.voteOver
  split
  · exact h.voteThree
  · split
    · exact h.voteTwo
    · exact h
  · exact h

theorem Keeps.decideVote {a s : State} (h : Keeps a s) {p1 : Lane} : Keeps a (State.decideVote s p1) := by
  unfold State.decideVote
  split
  · extract_lets v1 v2
    have hv2 : Keeps a v2 := by
      unfold v2
      exact h.voteOver
    clear_value v2
    split
    · exact h.skip
    · split
      · split
        · exact hv2.skip
        · exact hv2
      · exact h
  · exact h

theorem Keeps.decideExchange {a s : State} (h : Keeps a s) {p1 : Lane} : Keeps a (State.decideExchange s p1) := by
  unfold State.decideExchange
  split
  · exact h.decideSet
  · exact h.decideVote
  · exact h

theorem Keeps.setsHeld {a s : State} (h : Keeps a s) {p1 : Lane} : Keeps a (State.setsHeld s p1) := by
  unfold State.setsHeld
  split
  · exact h.decideExchange
  · exact h

theorem Keeps.setsDue {a s : State} (h : Keeps a s) {p1 : Lane} : Keeps a (State.setsDue s p1) := by
  unfold State.setsDue
  split
  · exact h.decideExchange
  · exact h

theorem Keeps.setsPast {a s : State} (h : Keeps a s) : Keeps a (State.setsPast s) := by
  unfold State.setsPast
  extract_lets v1 v2
  have hv2 : Keeps a v2 := by
    unfold v2
    refine Keeps.foldl ?_ ?_
    · exact h
    · intro x3 b5 k4
      exact k4.decideExchange
  clear_value v2
  split
  · exact hv2.skip
  · exact hv2

theorem Keeps.outputArrives {a s : State} (h : Keeps a s) {p1 : Lane} {p2 : ImageError} :
    Keeps a (State.outputArrives s p1 p2) := by
  unfold State.outputArrives
  split
  · split
    · extract_lets v1 v2
      have hv2 : Keeps a v2 := by
        unfold v2
        apply Keeps.emit
        exact h.modLane
      clear_value v2
      split
      · exact hv2.voteInstant
      · exact hv2
    · exact h
  · exact h

theorem Keeps.fixLatest {a s : State} (h : Keeps a s) : Keeps a (State.fixLatest s) := by
  unfold State.fixLatest
  split
  · split
    · exact h.voteInstant
    · exact h.skip
  · exact h.skip
  · exact h

theorem Keeps.reVote {a s : State} (h : Keeps a s) : Keeps a (State.reVote s) := by
  unfold State.reVote
  split
  · exact h.voteInstant
  · exact h

theorem Keeps.lateArrives {a s : State} (h : Keeps a s) {p1 : Lane} {p2 : ImageError} :
    Keeps a (State.lateArrives s p1 p2) := by
  unfold State.lateArrives
  split
  · split
    · extract_lets v1
      apply Keeps.lateMatch
      exact h.emit
    · exact h
  · exact h

theorem Keeps.overdue {a s : State} (h : Keeps a s) : Keeps a (State.overdue s) := by
  unfold State.overdue
  split
  · exact h
  · extract_lets v1 v2 v3 v4 v5
    have hv1 : Keeps a v1 := by
      unfold v1
      split
      · exact h.closeExpose
      · exact h
    clear_value v1
    have hv2 : Keeps a v2 := by
      unfold v2
      apply Keeps.reVote
      exact hv1.setsPast
    clear_value v2
    have hv3 : Keeps a v3 := by
      unfold v3
      split
      · apply Keeps.developLate
        exact hv2.developMissed
      · exact hv2
    clear_value v3
    have hv4 : Keeps a v4 := by
      unfold v4
      split
      · exact hv3.mirrorEnd
      · exact hv3
    clear_value v4
    have hv5 : Keeps a v5 := by
      unfold v5
      split
      · exact hv4.voteInstant
      · exact hv4
    clear_value v5
    split
    · exact hv5.fixLatest
    · exact hv5

end Sys2Proof.Machine
end

