-- ==== Sys2Proof/Laws/KeepsPair.lean ====
section
/-! SUPPORT. `Keeps` for every operation of the pair and the cycle boundary: one lemma per operation. -/

namespace Sys2Proof.Machine

theorem Keeps.learnMirror {a s : State} (h : Keeps a s) {e : W32} : Keeps a (s.learnMirror e) := by
  refine h.trans ⟨rfl, rfl, Nat.le_refl _, Nat.le_refl _, id, rfl, rfl, rfl, fun x => ⟨?_, Nat.le_refl _⟩, id, .inl (Nat.le_refl _), id⟩
  unfold State.learnMirror State.EpochOk
  dsimp only
  split
  · rename_i hlt
    exact Nat.le_trans x (Nat.le_of_lt hlt)
  · exact x

theorem Keeps.ownFragment {a s : State} (h : Keeps a s) : Keeps a (State.ownFragment s) := by
  unfold State.ownFragment
  extract_lets v1 v2 v3
  apply Keeps.note
  (refine h.upd ?_; constructor <;> dsimp only)

theorem Keeps.rivalClaim {a s : State} (h : Keeps a s) {p1 : MirrorHdr} : Keeps a (State.rivalClaim s p1) := by
  unfold State.rivalClaim
  extract_lets v1 v2
  have hv2 : Keeps a v2 := by
    unfold v2
    exact h.learnMirror
  clear_value v2
  split
  · exact hv2.voteFault
  · exact hv2

theorem Keeps.seeMirror {a s : State} (h : Keeps a s) {p1 : MirrorHdr} : Keeps a (State.seeMirror s p1) := by
  unfold State.seeMirror
  (refine h.upd ?_; constructor <;> dsimp only)

theorem Keeps.rightPosition {a s : State} (h : Keeps a s) : Keeps a (State.rightPosition s) := by
  unfold State.rightPosition
  (refine h.upd ?_; constructor <;> dsimp only)

theorem Keeps.mirrorHead {a s : State} (h : Keeps a s) {p : MirrorHdr} {m : MirrorBody} :
    (∀ x, s.mirrorHead p m = .inl x → Keeps a x) ∧ ∀ x, s.mirrorHead p m = .inr x → Keeps a x := by
  unfold State.mirrorHead
  split
  · exact ⟨fun x e => by rw [← Sum.inl.inj e]; exact h.lose, fun x e => (nomatch e)⟩
  split
  · exact ⟨fun x e => by rw [← Sum.inl.inj e]; exact h, fun x e => (nomatch e)⟩
  split
  · exact ⟨fun x e => by rw [← Sum.inl.inj e]; exact h.ownFragment, fun x e => (nomatch e)⟩
  split
  · exact ⟨fun x e => by rw [← Sum.inl.inj e]; exact h, fun x e => (nomatch e)⟩
  dsimp only
  split
  · exact ⟨fun x e => by rw [← Sum.inl.inj e]; exact h.seeMirror.rightPosition.rivalClaim, fun x e => (nomatch e)⟩
  · exact ⟨fun x e => (nomatch e), fun x e => by rw [← Sum.inr.inj e]; exact h.seeMirror.rightPosition⟩

theorem Keeps.dropReady {a s : State} (h : Keeps a s) : Keeps a (State.dropReady s) := by
  unfold State.dropReady
  split
  · (refine h.upd ?_; constructor <;> dsimp only)
  · exact h

theorem Keeps.refreshRole {a s : State} (h : Keeps a s) : Keeps a (State.refreshRole s) := by
  unfold State.refreshRole
  split
  · (refine h.upd ?_; constructor <;> dsimp only)
  · exact h.dropReady

theorem Keeps.restartMirror {a s : State} (h : Keeps a s) : Keeps a (State.restartMirror s) := by
  unfold State.restartMirror
  (refine h.upd ?_; constructor <;> dsimp only)

theorem Keeps.sendAck {a s : State} (h : Keeps a s) {p1 : W48} {p2 : Bool} : Keeps a (State.sendAck s p1 p2) := by
  unfold State.sendAck
  split
  · exact h
  · extract_lets v1 v2 v3 v4
    apply Keeps.sendMirror
    apply Keeps.countLease
    (refine h.upd ?_; constructor <;> dsimp only)

theorem Keeps.commitPending {a s : State} (h : Keeps a s) : Keeps a (State.commitPending s) := by
  unfold State.commitPending
  extract_lets v1 v2 v3
  split
  · (refine h.upd ?_; constructor <;> dsimp only)
  · exact h

theorem Keeps.discardPending {a s : State} (h : Keeps a s) : Keeps a (State.discardPending s) := by
  unfold State.discardPending
  (refine h.upd ?_; constructor <;> dsimp only)

theorem Keeps.takeBase {a s : State} (h : Keeps a s) {b : W48} : Keeps a (s.takeBase b).1 := by
  unfold State.takeBase
  dsimp only
  split
  · exact h.commitPending
  split
  · exact h.discardPending
  · exact h.restartMirror

theorem Keeps.mirrorMismatch {a s : State} (h : Keeps a s) {p1 : W64} {p2 : W64} :
    Keeps a (State.mirrorMismatch s p1 p2) := by
  unfold State.mirrorMismatch
  extract_lets v1 v2 v3 v4
  have hv4 : Keeps a v4 := by
    unfold v4
    (refine h.upd ?_; constructor <;> dsimp only)
  clear_value v4
  apply Keeps.report
  exact hv4.restartMirror

theorem Keeps.mirrorMatch {a s : State} (h : Keeps a s) : Keeps a (State.mirrorMatch s) := by
  unfold State.mirrorMatch
  extract_lets v1 v2 v3 v4
  (refine h.upd ?_; constructor <;> dsimp only)

theorem Keeps.mirrorCycle {a s : State} (h : Keeps a s) {p1 : W48} {p2 : DeltaBody} :
    Keeps a (State.mirrorCycle s p1 p2) := by
  unfold State.mirrorCycle
  extract_lets v1 v2 v3 v4 v5 v6 v7 v8
  have hv8 : Keeps a v8 := by
    unfold v8
    unfold v5
    (refine h.upd ?_; constructor <;> dsimp only)
  clear_value v8
  split
  · extract_lets v9 v10 v11
    apply Keeps.mirrorMatch
    unfold v5
    (refine h.upd ?_; constructor <;> dsimp only)
  · split
    · exact hv8.mirrorMatch
    · exact hv8.mirrorMismatch

theorem Keeps.followDelta {a s : State} (h : Keeps a s) {p1 : W48} {p2 : DeltaBody} :
    Keeps a (State.followDelta s p1 p2) := by
  unfold State.followDelta
  extract_lets v1
  split
  · apply Keeps.mirrorCycle
    exact h.takeBase
  · exact h.takeBase

theorem Keeps.handedOver {a s : State} (h : Keeps a s) {p1 : MirrorHdr} : Keeps a (State.handedOver s p1) := by
  unfold State.handedOver
  split
  · split
    · apply Keeps.done
      (refine h.upd ?_; constructor <;> dsimp only)
    · exact h
  · exact h

theorem Keeps.heardFrom {a s : State} (h : Keeps a s) {p1 : MirrorHdr} {p2 : Bool} :
    Keeps a (State.heardFrom s p1 p2) := by
  unfold State.heardFrom
  extract_lets v1 v2 v3 v4
  have hv1 : Keeps a v1 := by
    unfold v1
    exact h.learnMirror
  clear_value v1
  have hv4 : Keeps a v4 := by
    unfold v4
    (refine hv1.upd ?_; constructor <;> dsimp only)
  clear_value v4
  apply Keeps.sendAck
  exact hv4.handedOver

theorem Keeps.holdDelta {a s : State} (h : Keeps a s) {p : MirrorHdr} {b : DeltaBody} :
    Keeps a (s.holdDelta p b) := by
  unfold State.holdDelta
  refine h.upd ?_
  constructor <;> dsimp only

theorem Keeps.takeDelta {a s : State} (h : Keeps a s) {p1 : MirrorHdr} {p2 : DeltaBody} :
    Keeps a (State.takeDelta s p1 p2) := by
  unfold State.takeDelta
  split
  · (apply h.mirrorHead.1; assumption)
  · split
    · apply Keeps.learnMirror
      (apply h.mirrorHead.2; assumption)
    · extract_lets v1
      have hv1 : Keeps a v1 := by
        unfold v1
        apply Keeps.heardFrom
        (apply h.mirrorHead.2; assumption)
      clear_value v1
      split
      · exact hv1.holdDelta
      · split
        · exact hv1
        · exact hv1.followDelta

theorem Keeps.takeRenew {a s : State} (h : Keeps a s) {p1 : MirrorHdr} {p2 : W48} {p3 : Bool} :
    Keeps a (State.takeRenew s p1 p2 p3) := by
  unfold State.takeRenew
  split
  · (apply h.mirrorHead.1; assumption)
  · split
    · apply Keeps.learnMirror
      (apply h.mirrorHead.2; assumption)
    · extract_lets v1
      have hv1 : Keeps a v1 := by
        unfold v1
        apply Keeps.heardFrom
        (apply h.mirrorHead.2; assumption)
      clear_value v1
      split
      · exact hv1
      · exact hv1.takeBase

theorem Keeps.takeAck {a s : State} (h : Keeps a s) {p1 : MirrorHdr} {p2 : AckBody} :
    Keeps a (State.takeAck s p1 p2) := by
  unfold State.takeAck
  split
  · (apply h.mirrorHead.1; assumption)
  · extract_lets v1 v2 v3 v4 v5 v6 v7 v8 v9 v10
    have hv1 : Keeps a v1 := by
      unfold v1
      apply Keeps.learnMirror
      apply Keeps.learnMirror
      (apply h.mirrorHead.2; assumption)
    have hv4 : Keeps a v4 := by
      unfold v4
      (refine hv1.upd ?_; constructor <;> dsimp only)
    have hv8 : Keeps a v8 := by
      unfold v8
      (refine hv4.upd ?_; constructor <;> dsimp only)
    have hv9 : Keeps a v9 := by
      unfold v9
      exact hv8.countLease
    split
    · exact hv1
    · split
      · exact hv4
      · split
        · exact hv9.other
        · exact hv9

theorem Keeps.takeRelease {a s : State} (h : Keeps a s) {p1 : MirrorHdr} {p2 : W48} {p3 : Byte} :
    Keeps a (State.takeRelease s p1 p2 p3) := by
  unfold State.takeRelease
  split
  · (apply h.mirrorHead.1; assumption)
  · extract_lets v1 v2 v3
    have hv1 : Keeps a v1 := by
      unfold v1
      apply Keeps.learnMirror
      (apply h.mirrorHead.2; assumption)
    clear_value v1
    split
    · exact hv1
    · (refine hv1.upd ?_; constructor <;> dsimp only)

theorem Keeps.applyBulk {a s : State} (h : Keeps a s) {p1 : BulkBody} : Keeps a (State.applyBulk s p1) := by
  unfold State.applyBulk
  extract_lets v1 v2 v3 v4 v5 v6 v7 v8
  have hv8 : Keeps a v8 := by
    unfold v8
    (refine h.upd ?_; constructor <;> dsimp only)
  clear_value v8
  refine Keeps.foldl ?_ ?_
  · exact hv8
  · intro x9 b11 k10
    split
    · exact k10
    · exact k10.followDelta

theorem Keeps.takeBulk {a s : State} (h : Keeps a s) {p1 : MirrorHdr} {p2 : BulkBody} :
    Keeps a (State.takeBulk s p1 p2) := by
  unfold State.takeBulk
  split
  · (apply h.mirrorHead.1; assumption)
  · extract_lets v1
    have hv1 : Keeps a v1 := by
      unfold v1
      apply Keeps.learnMirror
      (apply h.mirrorHead.2; assumption)
    clear_value v1
    split
    · exact hv1
    · exact hv1.applyBulk

theorem Keeps.bulkTimeout {a s : State} (h : Keeps a s) : Keeps a (State.bulkTimeout s) := by
  unfold State.bulkTimeout
  extract_lets v1 v2 v3
  split
  · split
    · apply Keeps.sendAnnounce
      (refine h.upd ?_; constructor <;> dsimp only)
    · exact h
  · exact h

theorem Keeps.acquire {a s : State} (h : Keeps a s) : Keeps a (State.acquire s) := by
  unfold State.acquire
  (refine h.upd ?_; constructor <;> dsimp only)

theorem Keeps.settleStandby {a s : State} (h : Keeps a s) {p1 : Bool} : Keeps a (State.settleStandby s p1) := by
  unfold State.settleStandby
  (refine h.upd ?_; constructor <;> dsimp only)

theorem Keeps.heardAnnounce {a s : State} (h : Keeps a s) {p1 : MirrorHdr} {p2 : AnnounceBody} :
    Keeps a (State.heardAnnounce s p1 p2) := by
  unfold State.heardAnnounce
  extract_lets v1 v2 v3 v4
  have hv4 : Keeps a v4 := by
    unfold v4
    (refine h.upd ?_; constructor <;> dsimp only)
  clear_value v4
  split
  · (refine h.upd ?_; constructor <;> dsimp only)
  · split
    · (refine h.upd ?_; constructor <;> dsimp only)
    · split
      · (refine h.upd ?_; constructor <;> dsimp only)
      · split
        · split
          · exact hv4.acquire
          · exact hv4.settleStandby
        · exact h

theorem Keeps.takeAnnounce {a s : State} (h : Keeps a s) {p1 : MirrorHdr} {p2 : AnnounceBody} :
    Keeps a (State.takeAnnounce s p1 p2) := by
  unfold State.takeAnnounce
  split
  · (apply h.mirrorHead.1; assumption)
  · apply Keeps.learnMirror
    apply Keeps.learnMirror
    apply Keeps.heardAnnounce
    (apply h.mirrorHead.2; assumption)

theorem Keeps.endListening {a s : State} (h : Keeps a s) : Keeps a (State.endListening s) := by
  unfold State.endListening
  split
  · exact h
  · extract_lets v1 v2 v3 v4 v5 v6
    have hv3 : Keeps a v3 := by
      unfold v3
      (refine h.upd ?_; constructor <;> dsimp only)
    clear_value v3
    have hv4 : Keeps a v4 := by
      unfold v4
      exact hv3.settleStandby
    clear_value v4
    split
    · exact hv3.settleStandby
    · split
      · exact hv3.acquire
      · exact hv3.settleStandby
      · split
        · apply Keeps.event
          (refine hv4.upd ?_; constructor <;> dsimp only)
        · exact hv3.acquire

theorem Keeps.startGuard {a s : State} (h : Keeps a s) {p1 : W48} : Keeps a (State.startGuard s p1) := by
  unfold State.startGuard
  extract_lets v1 v2 v3 v4 v5 v6 v7
  have hv2 : Keeps a v2 := by
    unfold v2
    exact h.raiseEpoch
  clear_value v2
  have hv5 : Keeps a v5 := by
    unfold v5
    split
    · split
      · exact hv2.endTest
      · exact hv2
    · exact hv2
  clear_value v5
  split
  · (refine hv2.upd ?_; constructor <;> dsimp only)
  · (refine hv5.upd ?_; constructor <;> dsimp only)

theorem Keeps.guardStart {a s : State} (h : Keeps a s) : Keeps a (State.guardStart s) := by
  unfold State.guardStart
  split
  · split
    · exact h.note
    · split
      · exact h.startGuard
      · exact h
  · exact h

theorem Keeps.settlePending {a s : State} (h : Keeps a s) {p1 : Bool} : Keeps a (State.settlePending s p1) := by
  unfold State.settlePending
  split
  · exact h.discardPending
  · exact h.commitPending

theorem Keeps.settleImages {a s : State} (h : Keeps a s) : Keeps a (State.settleImages s) := by
  unfold State.settleImages
  split
  · exact h
  · split
    · extract_lets v1
      have hv1 : Keeps a v1 := by
        unfold v1
        exact h.swapBanks
      clear_value v1
      exact hv1.other
    · exact h

theorem Keeps.uncleanTakeover {a s : State} (h : Keeps a s) : Keeps a (State.uncleanTakeover s) := by
  unfold State.uncleanTakeover
  extract_lets v1 v2 v3
  exact h.other

theorem Keeps.takeLampNow {a s : State} (h : Keeps a s) : Keeps a (State.takeLampNow s) := by
  unfold State.takeLampNow
  extract_lets v1 v2 v3 v4 v5 v6 v7 v8
  have hv2 : Keeps a v2 := by
    unfold v2
    apply Keeps.settleImages
    exact h.settlePending
  clear_value v2
  have hv3 : Keeps a v3 := by
    unfold v3
    split
    · exact hv2
    · exact hv2.uncleanTakeover
  clear_value v3
  have hv5 : Keeps a v5 := by
    unfold v5
    exact hv3.countLease
  clear_value v5
  (refine hv5.upd ?_; constructor <;> dsimp only)

theorem Keeps.takeLamp {a s : State} (h : Keeps a s) : Keeps a (State.takeLamp s) := by
  unfold State.takeLamp
  split
  · exact h
  · split
    · exact h.takeLampNow
    · (refine h.upd ?_; constructor <;> dsimp only)

theorem Keeps.essentialDue {a s : State} (h : Keeps a s) {p1 : Nat} : Keeps a (State.essentialDue s p1) := by
  unfold State.essentialDue
  split
  · split
    · split
      · (refine h.upd ?_; constructor <;> dsimp only)
      · exact h
    · exact h.dropReady
  · exact h

theorem Keeps.essentialGiveUp {a s : State} (h : Keeps a s) : Keeps a (State.essentialGiveUp s) := by
  unfold State.essentialGiveUp
  split
  · exact h.giveUpLamp
  · exact h

theorem Keeps.selfRenew {a s : State} (h : Keeps a s) : Keeps a (State.selfRenew s) := by
  unfold State.selfRenew
  split
  · extract_lets v1 v2 v3 v4
    have hv1 : Keeps a v1 := by
      unfold v1
      exact h.countLease
    clear_value v1
    (refine hv1.upd ?_; constructor <;> dsimp only)
  · exact h

theorem Keeps.handoverLost {a s : State} (h : Keeps a s) : Keeps a (State.handoverLost s) := by
  unfold State.handoverLost
  split
  · split
    · exact h.endHandover
    · exact h
  · exact h

theorem Keeps.runPoint {a s : State} (h : Keeps a s) : Keeps a (State.runPoint s) := by
  unfold State.runPoint
  split
  · extract_lets v1 v2 v3
    have hv2 : Keeps a v2 := by
      unfold v2
      exact h.other
    clear_value v2
    split
    · exact hv2.other
    · exact hv2
  · exact h

theorem Keeps.skipLimit {a s : State} (h : Keeps a s) : Keeps a (State.skipLimit s) := by
  unfold State.skipLimit
  split
  · exact h.voteFault
  · exact h

theorem Keeps.tardyOut {a s : State} (h : Keeps a s) {p1 : Lane} : Keeps a (State.tardyOut s p1) := by
  unfold State.tardyOut
  split
  · exact h.noteOut
  · exact h

theorem Keeps.minorityOut {a s : State} (h : Keeps a s) {p1 : Lane} : Keeps a (State.minorityOut s p1) := by
  unfold State.minorityOut
  extract_lets v1 v2
  split
  · exact h
  · split
    · split
      · exact h
      · exact h.voteFault
    · exact h.noteOut

theorem Keeps.lateOut {a s : State} (h : Keeps a s) {p1 : Lane} : Keeps a (State.lateOut s p1) := by
  unfold State.lateOut
  extract_lets v1
  split
  · exact h.noteOut
  · exact h

theorem Keeps.faultChannel {a s : State} (h : Keeps a s) {p1 : Chan} : Keeps a (State.faultChannel s p1) := by
  unfold State.faultChannel
  extract_lets v1
  split
  · apply Keeps.note
    exact h.modChan
  · exact h

theorem Keeps.syncLoss {a s : State} (h : Keeps a s) : Keeps a (State.syncLoss s) := by
  unfold State.syncLoss
  split
  · apply Keeps.note
    exact h.other
  · exact h

theorem Keeps.injectedCheck {a s : State} (h : Keeps a s) : Keeps a (State.injectedCheck s) := by
  unfold State.injectedCheck
  split
  · extract_lets v1 v2
    split
    · exact h
    · apply Keeps.note
      split
      · exact h.other
      · exact h
  · exact h

theorem Keeps.injectedChecks {a s : State} (h : Keeps a s) : Keeps a (State.injectedChecks s) := by
  unfold State.injectedChecks
  refine Keeps.foldl ?_ ?_
  · exact h
  · intro x1 b3 k2
    exact k2.injectedCheck

theorem Keeps.closeCycle {a s : State} (h : Keeps a s) : Keeps a (State.closeCycle s) := by
  unfold State.closeCycle
  extract_lets v1 v2 v3 v4 v5 v6 v7
  have hv1 : Keeps a v1 := by
    unfold v1
    exact h.injectedChecks
  clear_value v1
  have hv2 : Keeps a v2 := by
    unfold v2
    split
    · exact hv1.skip
    · exact hv1
  clear_value v2
  have hv3 : Keeps a v3 := by
    unfold v3
    exact hv2.skipLimit
  clear_value v3
  have hv4 : Keeps a v4 := by
    unfold v4
    refine Keeps.foldl ?_ ?_
    · exact hv3
    · intro x8 b10 k9
      exact k9.lateOut
  clear_value v4
  have hv5 : Keeps a v5 := by
    unfold v5
    refine Keeps.foldl ?_ ?_
    · exact hv4
    · intro x11 b13 k12
      exact k12.tardyOut
  clear_value v5
  have hv6 : Keeps a v6 := by
    unfold v6
    refine Keeps.foldl ?_ ?_
    · exact hv5
    · intro x14 b16 k15
      exact k15.minorityOut
  clear_value v6
  have hv7 : Keeps a v7 := by
    unfold v7
    refine Keeps.foldl ?_ ?_
    · exact hv6
    · intro x17 b19 k18
      exact k18.faultChannel
  clear_value v7
  exact hv7.syncLoss

theorem Keeps.turnCycle {a s : State} (h : Keeps a s) : Keeps a (State.turnCycle s) := by
  unfold State.turnCycle
  extract_lets v1 v2 v3 v4 v5 v6 v7 v8 v9 v10
  have hv2 : Keeps a v2 := by
    unfold v2
    exact h.modLanes
  clear_value v2
  (refine hv2.upd ?_; constructor <;> dsimp only)

theorem Keeps.sessionBoundary {a s : State} (h : Keeps a s) : Keeps a (State.sessionBoundary s) := by
  unfold State.sessionBoundary
  extract_lets v1 v2 v3 v4
  have hv1 : Keeps a v1 := by
    unfold v1
    exact h.openSessions
  clear_value v1
  have hv2 : Keeps a v2 := by
    unfold v2
    refine Keeps.foldl ?_ ?_
    · exact hv1
    · intro x5 b7 k6
      exact k6.declareLost
  clear_value v2
  have hv3 : Keeps a v3 := by
    unfold v3
    refine Keeps.foldl ?_ ?_
    · exact hv2
    · intro x8 b10 k9
      exact k9.modSession
  clear_value v3
  have hv4 : Keeps a v4 := by
    unfold v4
    refine Keeps.foldl ?_ ?_
    · exact hv3
    · intro x11 b13 k12
      exact k12.aliveExpiry
  clear_value v4
  apply Keeps.countAlive
  exact hv4.closeSessions

theorem Keeps.settingsBoundary {a s : State} (h : Keeps a s) : Keeps a (State.settingsBoundary s) := by
  unfold State.settingsBoundary
  exact h.other

theorem Keeps.enterRun {a s : State} (h : Keeps a s) : Keeps a (State.enterRun s) := by
  unfold State.enterRun
  extract_lets v1 v2 v3 v4
  have hv1 : Keeps a v1 := by
    unfold v1
    split
    · exact h.sayAll
    · exact h
  clear_value v1
  exact hv1.other

theorem Keeps.modeBoundary {a s : State} (h : Keeps a s) : Keeps a (State.modeBoundary s) := by
  unfold State.modeBoundary
  split
  · exact h.enterRun
  · apply Keeps.enterStop
    exact h.endHold
  · exact h

theorem Keeps.deferredBoundary {a s : State} (h : Keeps a s) : Keeps a (State.deferredBoundary s) := by
  unfold State.deferredBoundary
  split
  · exact h.activationDue
  · exact h

theorem Keeps.boundaryEffects {a s : State} (h : Keeps a s) : Keeps a (State.boundaryEffects s) := by
  unfold State.boundaryEffects
  extract_lets v1 v2 v3 v4 v5 v6
  have hv1 : Keeps a v1 := by
    unfold v1
    apply Keeps.closeSessions
    apply Keeps.applySeal
    exact h.sessionBoundary
  clear_value v1
  have hv2 : Keeps a v2 := by
    unfold v2
    apply Keeps.settingsBoundary
    exact hv1.modeBoundary
  clear_value v2
  have hv3 : Keeps a v3 := by
    unfold v3
    apply Keeps.challengeAll
    apply Keeps.closeSessions
    exact hv2.exchange
  clear_value v3
  have hv4 : Keeps a v4 := by
    unfold v4
    exact hv3.modLanes
  clear_value v4
  have hv5 : Keeps a v5 := by
    unfold v5
    apply Keeps.handoverLost
    exact hv4.essentialGiveUp
  clear_value v5
  have hv6 : Keeps a v6 := by
    unfold v6
    apply Keeps.resendParts
    apply Keeps.resendParts
    exact hv5.testBoundary
  clear_value v6
  apply Keeps.deferredBoundary
  exact hv6.refreshRole

theorem Keeps.moduleBoundary {a s : State} (h : Keeps a s) : Keeps a (State.moduleBoundary s) := by
  unfold State.moduleBoundary
  extract_lets v1 v2
  have hv1 : Keeps a v1 := by
    unfold v1
    exact h.closeCycle
  clear_value v1
  have hv2 : Keeps a v2 := by
    unfold v2
    exact hv1.boundaryEffects
  clear_value v2
  split
  · split
    · apply Keeps.selfRenew
      exact hv2.turnCycle
    · exact hv2
  · exact hv1

theorem Keeps.pulseOut {a s : State} (h : Keeps a s) : Keeps a (State.pulseOut s) := by
  unfold State.pulseOut
  split
  · exact h.emit
  · exact h

theorem Keeps.visit {a s : State} (h : Keeps a s) {p1 : Lane} : Keeps a (State.visit s p1) := by
  unfold State.visit
  extract_lets v1 v2 v3
  have hv3 : Keeps a v3 := by
    unfold v3
    exact h.other
  clear_value v3
  split
  · exact hv3.pulseOut
  · exact hv3

theorem Keeps.cycleBoundary {a s : State} (h : Keeps a s) {p1 : Lane} {p2 : Ticks} :
    Keeps a (State.cycleBoundary s p1 p2) := by
  unfold State.cycleBoundary
  split
  · exact h
  · extract_lets v1 v2 v3
    have hv1 : Keeps a v1 := by
      unfold v1
      exact h.overdue
    clear_value v1
    have hv2 : Keeps a v2 := by
      unfold v2
      split
      · exact hv1.moduleBoundary
      · exact hv1
    clear_value v2
    have hv3 : Keeps a v3 := by
      unfold v3
      exact hv2.visit
    clear_value v3
    split
    · exact hv3.freeze
    · apply Keeps.tally
      exact hv3.modLane

theorem Keeps.lonelyReply {a s : State} (h : Keeps a s) {p1 : Nat} {p2 : W16} {p3 : Bool} {p4 : W32} {p5 : W32}
    {p6 : List Byte} :
    Keeps a (State.lonelyReply s p1 p2 p3 p4 p5 p6) := by
  unfold State.lonelyReply
  split
  · split
    · exact h
    · split
      · exact h.eventReply
      · exact h.sendIn
  · exact h

theorem Keeps.supervise {a s : State} (h : Keeps a s) {p1 : Entry} : Keeps a (State.supervise s p1) := by
  unfold State.supervise
  split
  · exact h.lonelyReply
  · exact h.lonelyReply

theorem Keeps.supervisorBoundary {a s : State} (h : Keeps a s) : Keeps a (State.supervisorBoundary s) := by
  unfold State.supervisorBoundary
  split
  · extract_lets v1 v2 v3 v4 v5 v6 v7
    have hv3 : Keeps a v3 := by
      unfold v3
      refine Keeps.foldl ?_ ?_
      · exact h
      · intro x8 b10 k9
        exact k9.lonelyReply
    clear_value v3
    have hv4 : Keeps a v4 := by
      unfold v4
      refine Keeps.foldl ?_ ?_
      · exact hv3
      · intro x11 b13 k12
        exact k12.supervise
    clear_value v4
    have hv7 : Keeps a v7 := by
      unfold v7
      (refine hv4.upd ?_; constructor <;> dsimp only)
    clear_value v7
    apply Keeps.countAlive
    apply Keeps.closeSessions
    exact hv7.unsaidSeal
  · exact h

end Sys2Proof.Machine
end

