-- ==== Sys2Proof/Laws/KeepsLanes.lean ====
section
/-! SUPPORT. `Keeps` for every operation of lanes, clocks, supplies and start: one lemma per operation. -/

namespace Sys2Proof.Machine

theorem Keeps.setReporting {a s : State} (h : Keeps a s) {p1 : Nat} {p2 : Lane} {p3 : Bool} :
    Keeps a (State.setReporting s p1 p2 p3) := by
  unfold State.setReporting
  exact h.modLane

theorem Keeps.paceSample {a s : State} (h : Keeps a s) {p1 : Lane} {p2 : Nat} :
    Keeps a (State.paceSample s p1 p2) := by
  unfold State.paceSample
  extract_lets v1 v2 v3 v4
  have hv4 : Keeps a v4 := by
    unfold v4
    exact h.modLane
  clear_value v4
  split
  · exact h
  · split
    · exact hv4
    · exact hv4.noteLane

theorem Keeps.coreSupply {a s : State} (h : Keeps a s) {p1 : Lane} {p2 : Nat} :
    Keeps a (State.coreSupply s p1 p2) := by
  unfold State.coreSupply
  extract_lets v1 v2
  have hv2 : Keeps a v2 := by
    unfold v2
    exact h.setReporting
  clear_value v2
  split
  · exact hv2.noteLane
  · exact hv2

theorem Keeps.corePair {a s : State} (h : Keeps a s) {p1 : Lane} {p2 : LoupeItem} {p3 : Verdict} {p4 : Verdict}
    :
    Keeps a (State.corePair s p1 p2 p3 p4) := by
  unfold State.corePair
  extract_lets v1
  split
  · exact h.noteLane
  · exact h

theorem Keeps.loupeProbe {a s : State} (h : Keeps a s) {p1 : Lane} {p2 : Verdict} {p3 : Verdict} {p4 : Bool} :
    Keeps a (State.loupeProbe s p1 p2 p3 p4) := by
  unfold State.loupeProbe
  split
  · exact h
  · exact h.noteLane

theorem Keeps.consumeLatent {a s : State} (h : Keeps a s) {p1 : Lane} {p2 : LatentEntry} {p3 : W32} :
    Keeps a (State.consumeLatent s p1 p2 p3) := by
  unfold State.consumeLatent
  extract_lets v1
  have hv1 : Keeps a v1 := by
    unfold v1
    exact h.modLane
  clear_value v1
  split
  · exact hv1.noteLane
  · exact hv1

theorem Keeps.scanEnd {a s : State} (h : Keeps a s) {p1 : Lane} {p2 : Bool} {p3 : W64} :
    Keeps a (State.scanEnd s p1 p2 p3) := by
  unfold State.scanEnd
  split
  · split
    · exact h
    · exact h.noteLane
  · exact h

theorem Keeps.selfCheck {a s : State} (h : Keeps a s) {p1 : Lane} {p2 : Bool} {p3 : BitVec 5} :
    Keeps a (State.selfCheck s p1 p2 p3) := by
  unfold State.selfCheck
  extract_lets v1 v2
  have hv2 : Keeps a v2 := by
    unfold v2
    refine Keeps.foldl ?_ ?_
    · exact h
    · intro x3 b5 k4
      exact k4.issue
  clear_value v2
  split
  · exact hv2.setReporting
  · exact hv2.noteLane

theorem Keeps.wordRejected {a s : State} (h : Keeps a s) {p1 : Chan} {p2 : RailWord} {p3 : Bool} :
    Keeps a (State.wordRejected s p1 p2 p3) := by
  unfold State.wordRejected
  split
  · exact h
  · split
    · exact h.channelError
    · exact h.emit

theorem Keeps.timebases {a s : State} (h : Keeps a s) {p1 : Ticks} {p2 : Ticks} {p3 : Ticks} :
    Keeps a (State.timebases s p1 p2 p3) := by
  unfold State.timebases
  extract_lets v1 v2 v3 v4
  have hv4 : Keeps a v4 := by
    unfold v4
    refine Keeps.foldl ?_ ?_
    · exact h
    · intro x5 b7 k6
      exact k6.noteLane
  clear_value v4
  split
  · split
    · exact hv4.voteFault
    · exact hv4
  · exact hv4

theorem Keeps.reportDies {a s : State} (h : Keeps a s) {p1 : Nat} {p2 : W16} :
    Keeps a (State.reportDies s p1 p2) := by
  unfold State.reportDies
  extract_lets v1 v2 v3
  split
  · exact h.other
  · split
    · exact h.other
    · split
      · exact h.other
      · split
        · exact h.other
        · exact h

theorem Keeps.reportChannels {a s : State} (h : Keeps a s) {p1 : Nat} : Keeps a (State.reportChannels s p1) := by
  unfold State.reportChannels
  refine Keeps.foldl ?_ ?_
  · exact h
  · intro x1 b3 k2
    split
    · exact k2.modChan
    · split
      · exact k2.modChan
      · exact k2

theorem Keeps.occurrence {a s : State} (h : Keeps a s) {p1 : Nat} {p2 : BitVec 3} {p3 : W16} :
    Keeps a (State.occurrence s p1 p2 p3) := by
  unfold State.occurrence
  extract_lets v1 v2 v3 v4
  have hv2 : Keeps a v2 := by
    unfold v2
    refine Keeps.foldl ?_ ?_
    · exact h
    · intro x5 b7 k6
      split
      · split
        · exact k6.setReporting
        · exact k6
      · exact k6.setReporting
  clear_value v2
  split
  · split
    · exact hv2
    · apply Keeps.report
      apply Keeps.reportChannels
      exact hv2.reportDies
  · split
    · exact hv2
    · apply Keeps.report
      apply Keeps.reportChannels
      exact hv2.reportDies

theorem Keeps.afterReset {a s : State} (h : Keeps a s) {p1 : Block} : Keeps a (State.afterReset s p1) := by
  unfold State.afterReset
  split
  · exact h.modLane
  · exact h.modLane
  · exact h

theorem Keeps.closeShadow {a s : State} (h : Keeps a s) {p1 : Block} : Keeps a (State.closeShadow s p1) := by
  unfold State.closeShadow
  extract_lets v1 v2 v3 v4 v5 v6
  have hv2 : Keeps a v2 := by
    unfold v2
    exact h.other
  clear_value v2
  have hv6 : Keeps a v6 := by
    unfold v6
    exact hv2.modLanes
  clear_value v6
  refine Keeps.foldl ?_ ?_
  · exact hv6
  · intro x7 b9 k8
    split
    · exact k8
    · apply Keeps.note
      refine Keeps.foldl ?_ ?_
      · exact k8
      · intro x10 b12 k11
        exact k11.modLane

theorem Keeps.resetComplete {a s : State} (h : Keeps a s) {p1 : Block} : Keeps a (State.resetComplete s p1) := by
  unfold State.resetComplete
  split
  · exact h
  · split
    · apply Keeps.closeShadow
      exact h.afterReset
    · exact h

theorem Keeps.resetOverdue {a s : State} (h : Keeps a s) {p1 : Block} : Keeps a (State.resetOverdue s p1) := by
  unfold State.resetOverdue
  split
  · extract_lets v1
    have hv1 : Keeps a v1 := by
      unfold v1
      exact h.record
    clear_value v1
    apply Keeps.judge
    apply Keeps.closeShadow
    exact hv1.blockOut
  · exact h

theorem Keeps.dieChecked {a s : State} (h : Keeps a s) {p1 : Die} {p2 : Hash} :
    Keeps a (State.dieChecked s p1 p2) := by
  unfold State.dieChecked
  split
  · split
    · apply Keeps.closeShadow
      exact h.setDie
    · extract_lets v1 v2
      have hv2 : Keeps a v2 := by
        unfold v2
        apply Keeps.closeShadow
        exact h.loseDie
      clear_value v2
      apply Keeps.judge
      exact hv2.note
  · exact h

theorem Keeps.leaveSafelight {a s : State} (h : Keeps a s) : Keeps a (State.leaveSafelight s) := by
  unfold State.leaveSafelight
  split
  · extract_lets v1 v2
    have hv1 : Keeps a v1 := by
      unfold v1
      exact h.record
    clear_value v1
    (refine hv1.upd ?_; constructor <;> dsimp only)
  · exact h

theorem Keeps.numbersExhausted {a s : State} (h : Keeps a s) : Keeps a s.numbersExhausted := by
  unfold State.numbersExhausted
  split
  · apply Keeps.note
    exact Keeps.trans h.writeRecord ⟨rfl, rfl, Nat.le_refl _, Nat.le_refl _, fun _ => rfl, rfl, rfl, rfl,
      fun x => ⟨x, Nat.le_refl _⟩, id, .inr rfl, id⟩
  · exact h

theorem Keeps.scribeWrites {a s : State} (h : Keeps a s) {torn : BitVec 2} : Keeps a (s.scribeWrites torn) := by
  unfold State.scribeWrites
  split
  · extract_lets n x
    have hx : Keeps a x := h.writeFirst
    clear_value x
    split
    · exact hx
    · exact hx.trans ⟨rfl, rfl, Nat.le_refl _, Nat.le_refl _, id, rfl, rfl, rfl,
        fun x => ⟨x, Nat.le_refl _⟩, id, .inl (Nat.le_refl _), id⟩
  · exact h

theorem Keeps.signDueHead {a s : State} (h : Keeps a s) : Keeps a (State.signDueHead s) := by
  unfold State.signDueHead
  split
  · exact h
  · exact h.signHead

theorem Keeps.releaseLane {a s : State} (h : Keeps a s) {p1 : Lane} : Keeps a (State.releaseLane s p1) := by
  unfold State.releaseLane
  split
  · exact h.modLanes
  · exact h

theorem Keeps.laneLoaded {a s : State} (h : Keeps a s) {p1 : Lane} {p2 : Bool} :
    Keeps a (State.laneLoaded s p1 p2) := by
  unfold State.laneLoaded
  split
  · split
    · exact h.modLane
    · apply Keeps.modLane
      exact h.withdrawalRecord
  · exact h

theorem Keeps.takeHash {a s : State} (h : Keeps a s) {p1 : Lane} {p2 : Lane} {p3 : Hash} :
    Keeps a (State.takeHash s p1 p2 p3) := by
  unfold State.takeHash
  split
  · exact h.modLane
  · exact h

theorem Keeps.repaired {a s : State} (h : Keeps a s) {p1 : Byte} {p2 : List Record} :
    Keeps a (State.repaired s p1 p2) := by
  unfold State.repaired
  refine Keeps.foldl ?_ ?_
  · exact h
  · intro x1 b3 k2
    exact k2.event

theorem Keeps.repairBanks {a s : State} (h : Keeps a s) : Keeps a s.repairBanks := by
  unfold State.repairBanks
  extract_lets one two numbers lacking only2 n s2 only1
  have h2 : Keeps a s2 := by
    unfold s2
    split
    · apply Keeps.repaired
      exact h.trans ⟨rfl, rfl, Nat.le_refl _, Nat.le_refl _, id, rfl, rfl, rfl,
        fun x => ⟨x, Nat.le_refl _⟩, fun x => ⟨length_puts_ring _ _ x.1, x.2⟩, .inl (Nat.le_refl _), id⟩
    · exact h
  clear_value s2
  split
  · apply Keeps.repaired
    exact h2.trans ⟨rfl, rfl, Nat.le_refl _, Nat.le_refl _, id, rfl, rfl, rfl,
      fun x => ⟨x, Nat.le_refl _⟩, fun x => ⟨x.1, x.1, x.2.2⟩, .inl (Nat.le_refl _), id⟩
  · exact h2

theorem Keeps.failJoin {a s : State} (h : Keeps a s) {p1 : Lane} {p2 : Nat} :
    Keeps a (State.failJoin s p1 p2) := by
  unfold State.failJoin
  exact h.noteOut

theorem Keeps.joinLane {a s : State} (h : Keeps a s) {p1 : Lane} : Keeps a (State.joinLane s p1) := by
  unfold State.joinLane
  split
  · split
    · exact h.modLane
    · split
      · exact h.modLane
      · exact h
  · exact h

theorem Keeps.judgeBank {a s : State} (h : Keeps a s) : Keeps a (State.judgeBank s) := by
  unfold State.judgeBank
  extract_lets v1 v2
  split
  · split
    · exact h.setBank
    · exact h
  · exact h

theorem Keeps.takeSettings {a s : State} (h : Keeps a s) {p1 : Settings} : Keeps a (State.takeSettings s p1) := by
  unfold State.takeSettings
  split
  · exact h.other
  · exact h

theorem Keeps.defaultSettings {a s : State} (h : Keeps a s) : Keeps a (State.defaultSettings s) := by
  unfold State.defaultSettings
  split
  · apply Keeps.event
    exact h.other
  · exact h

theorem Keeps.joinCheck {a s : State} (h : Keeps a s) {p1 : Lane} {p2 : Hash} {p3 : Hash} {p4 : Bool} {p5 :
    BitVec 2} :
    Keeps a (State.joinCheck s p1 p2 p3 p4 p5) := by
  unfold State.joinCheck
  split
  · exact h
  · split
    · apply Keeps.failJoin
      exact h.modLane
    · split
      · apply Keeps.failJoin
        exact h.modLane
      · extract_lets v1 v2 v3 v4 v5 v6 v7
        have hv2 : Keeps a v2 := by
          unfold v2
          exact h.modLane
        clear_value v2
        have hv3 : Keeps a v3 := by
          unfold v3
          refine Keeps.elim ?_ ?_
          · exact hv2.defaultSettings
          · intro x8
            exact hv2.takeSettings
        clear_value v3
        have hv4 : Keeps a v4 := by
          unfold v4
          split
          · exact hv3.convertSettings
          · exact hv3
        clear_value v4
        have hv5 : Keeps a v5 := by
          unfold v5
          refine Keeps.foldl ?_ ?_
          · exact hv4
          · intro x10 b12 k11
            exact k11.joinLane
        clear_value v5
        have hv6 : Keeps a v6 := by
          unfold v6
          refine Keeps.foldl ?_ ?_
          · exact hv5
          · intro x13 b15 k14
            split
            · exact k14.failJoin
            · exact k14
        clear_value v6
        have hv7 : Keeps a v7 := by
          unfold v7
          split
          · exact hv6.judgeBank
          · exact hv6
        clear_value v7
        split
        · exact hv7.repairBanks
        · exact hv7

theorem Keeps.joinTimeout {a s : State} (h : Keeps a s) : Keeps a (State.joinTimeout s) := by
  unfold State.joinTimeout
  split
  · split
    · apply Keeps.judge
      exact h.other
    · exact h
  · exact h

theorem Keeps.resyncFails {a s : State} (h : Keeps a s) {p1 : Lane} : Keeps a (State.resyncFails s p1) := by
  unfold State.resyncFails
  extract_lets v1
  have hv1 : Keeps a v1 := by
    unfold v1
    exact h.noteOut
  clear_value v1
  split
  · exact hv1
  · exact hv1.voteFault

theorem Keeps.compareCopies {a s : State} (h : Keeps a s) {p1 : Lane} : Keeps a (State.compareCopies s p1) := by
  unfold State.compareCopies
  extract_lets v1
  split
  · split
    · exact h
    · split
      · exact h.modLane
      · split
        · exact h.resyncFails
        · extract_lets v2 v3
          apply Keeps.emit
          exact h.modLane
  · exact h

theorem Keeps.resyncBulk {a s : State} (h : Keeps a s) {p1 : Lane} {p2 : Lane} {p3 : Nat} {p4 : List W32} :
    Keeps a (State.resyncBulk s p1 p2 p3 p4) := by
  unfold State.resyncBulk
  extract_lets v1
  split
  · exact h
  · apply Keeps.compareCopies
    exact h.modLane

theorem Keeps.compareDeltas {a s : State} (h : Keeps a s) {p1 : Lane} {p2 : W48} :
    Keeps a (State.compareDeltas s p1 p2) := by
  unfold State.compareDeltas
  extract_lets v1
  split
  · split
    · exact h
    · split
      · exact h.resyncFails
      · apply Keeps.emitAll
        exact h.modLane
  · exact h

theorem Keeps.resyncDelta {a s : State} (h : Keeps a s) {p1 : Lane} {p2 : Lane} {p3 : W48} {p4 : List W32} :
    Keeps a (State.resyncDelta s p1 p2 p3 p4) := by
  unfold State.resyncDelta
  split
  · apply Keeps.compareDeltas
    exact h.modLane
  · exact h

theorem Keeps.resyncDone {a s : State} (h : Keeps a s) {p1 : Lane} : Keeps a (State.resyncDone s p1) := by
  unfold State.resyncDone
  split
  · exact h.modLane
  · exact h

theorem Keeps.restartTimer {a s : State} (h : Keeps a s) {p1 : Lane} : Keeps a (State.restartTimer s p1) := by
  unfold State.restartTimer
  extract_lets v1
  split
  · split
    · exact h
    · split
      · exact h.modLane
      · split
        · exact h.modLane
        · exact h
  · exact h

theorem Keeps.flagEdge {a s : State} (h : Keeps a s) : Keeps a (State.flagEdge s) := by
  unfold State.flagEdge
  apply Keeps.note
  exact h.other

theorem Keeps.alignTo {a s : State} (h : Keeps a s) {p1 : Int} : Keeps a (State.alignTo s p1) := by
  unfold State.alignTo
  extract_lets v1 v2 v3 v4
  exact h.other

theorem Keeps.referenceBoundary {a s : State} (h : Keeps a s) : Keeps a (State.referenceBoundary s) := by
  unfold State.referenceBoundary
  split
  · exact h
  · extract_lets v1 v2 v3
    split
    · exact h.alignTo
    · split
      · exact h.flagEdge
      · exact h.other

theorem Keeps.syncEdge {a s : State} (h : Keeps a s) {p1 : Nat} {p2 : Nat} : Keeps a (State.syncEdge s p1 p2) := by
  unfold State.syncEdge
  split
  · exact h
  · extract_lets v1 v2 v3 v4
    have hv4 : Keeps a v4 := by
      unfold v4
      exact h.other
    clear_value v4
    split
    · split
      · exact hv4.flagEdge
      · exact hv4
    · exact hv4.referenceBoundary

theorem Keeps.ptpBoundary {a s : State} (h : Keeps a s) : Keeps a (State.ptpBoundary s) := by
  unfold State.ptpBoundary
  split
  · exact h.referenceBoundary
  · exact h

theorem Keeps.setPtp {a s : State} (h : Keeps a s) {p1 : Bool} {p2 : Byte} : Keeps a (State.setPtp s p1 p2) := by
  unfold State.setPtp
  apply Keeps.event
  exact h.other

theorem Keeps.dropPtp {a s : State} (h : Keeps a s) {p1 : Byte} : Keeps a (State.dropPtp s p1) := by
  unfold State.dropPtp
  split
  · exact h.setPtp
  · exact h.other

theorem Keeps.selectMaster {a s : State} (h : Keeps a s) {p1 : List (Nat × Nat)} :
    Keeps a (State.selectMaster s p1) := by
  unfold State.selectMaster
  extract_lets v1 v2 v3
  exact h.other

theorem Keeps.syncInterval {a s : State} (h : Keeps a s) {p1 : PtpMsg} : Keeps a (State.syncInterval s p1) := by
  unfold State.syncInterval
  extract_lets v1 v2 v3 v4 v5 v6
  have hv3 : Keeps a v3 := by
    unfold v3
    exact h.other
  clear_value v3
  split
  · exact hv3.dropPtp
  · split
    · exact hv3.dropPtp
    · split
      · exact hv3.other
      · split
        · apply Keeps.judgeSchedule
          exact hv3.setPtp
        · exact hv3.other

theorem Keeps.ptpTraffic {a s : State} (h : Keeps a s) {p1 : PtpMsg} : Keeps a (State.ptpTraffic s p1) := by
  unfold State.ptpTraffic
  split
  · exact h
  · split
    · exact h.selectMaster
    · split
      · exact h.syncInterval
      · exact h

theorem Keeps.announceLost {a s : State} (h : Keeps a s) {p1 : Nat} : Keeps a (State.announceLost s p1) := by
  unfold State.announceLost
  extract_lets v1 v2
  have hv2 : Keeps a v2 := by
    unfold v2
    exact h.selectMaster
  clear_value v2
  split
  · exact hv2.dropPtp
  · exact hv2

theorem Keeps.sampleTick {a s : State} (h : Keeps a s) {p1 : Lane} : Keeps a (State.sampleTick s p1) := by
  unfold State.sampleTick
  split
  · exact h.modLane
  · exact h

theorem Keeps.measure {a s : State} (h : Keeps a s) {p1 : Nat} : Keeps a (State.measure s p1) := by
  unfold State.measure
  extract_lets v1 v2 v3
  exact h.other

theorem Keeps.leaveReset {a s : State} (h : Keeps a s) {p1 : Feed} {p2 : BitVec 2} {p3 : Bool} {p4 : Nat} :
    Keeps a (State.leaveReset s p1 p2 p3 p4) := by
  unfold State.leaveReset
  extract_lets v1 v2 v3
  have hv3 : Keeps a v3 := by
    unfold v3
    exact h.other
  clear_value v3
  apply Keeps.emit
  exact hv3.measure

theorem Keeps.powerOn {a s : State} (h : Keeps a s) {p1 : Feed} {p2 : BitVec 2} {p3 : Bool} {p4 : Nat} :
    Keeps a (State.powerOn s p1 p2 p3 p4) := by
  unfold State.powerOn
  split
  · exact h.leaveReset
  · exact h.other

theorem Keeps.holdUpReady {a s : State} (h : Keeps a s) {p1 : Nat} : Keeps a (State.holdUpReady s p1) := by
  unfold State.holdUpReady
  split
  · extract_lets v1 v2 v3 v4
    have hv1 : Keeps a v1 := by
      unfold v1
      exact h.measure
    clear_value v1
    split
    · exact hv1.other
    · exact hv1
  · exact h

theorem Keeps.takeSeal {a s : State} (h : Keeps a s) : Keeps a s.takeSeal := by
  unfold State.takeSeal
  split
  · rename_i c hc
    split
    · apply Keeps.storeSeal
      exact h.trusted fun x => ⟨x.2 c hc, fun d e => nomatch e⟩
    · exact h.trusted fun x => ⟨x.1, fun d e => nomatch e⟩
  · exact h

theorem Keeps.judgeSlot {a s : State} (h : Keeps a s) : Keeps a (State.judgeSlot s) := by
  unfold State.judgeSlot
  split
  · exact h.modOfferSlot
  · exact h

theorem Keeps.chosen {a s : State} (h : Keeps a s) : Keeps a (State.chosen s) := by
  unfold State.chosen
  extract_lets v1 v2
  (refine h.upd ?_; constructor <;> dsimp only)

theorem Keeps.bootFrom {a s : State} (h : Keeps a s) {p1 : BitVec 2} : Keeps a (State.bootFrom s p1) := by
  unfold State.bootFrom
  apply Keeps.chosen
  apply Keeps.chooseSlot
  apply Keeps.takeSeal
  apply Keeps.bootWrite
  · exact h.readSeal
  · exact Nat.le_refl _
  · exact Nat.le_refl _

theorem Keeps.kBooted {a s : State} (h : Keeps a s) {p1 : BitVec 2} {p2 : BitVec 2} :
    Keeps a (State.kBooted s p1 p2) := by
  unfold State.kBooted
  split
  · exact h
  · split
    · exact h.other
    · extract_lets v1 v2 v3 v4 v5 v6 v7
      have hv1 : Keeps a v1 := by
        unfold v1
        apply Keeps.bootFrom
        exact h.readBoot (by assumption)
      clear_value v1
      have hv4 : Keeps a v4 := by
        unfold v4
        apply Keeps.stopPrints
        exact hv1.judgeSlot
      clear_value v4
      have hv5 : Keeps a v5 := by
        unfold v5
        apply Keeps.setDie
        exact hv4.setDie
      clear_value v5
      split
      · exact hv1.other
      · exact hv5.other

theorem Keeps.startRecord {a s : State} (h : Keeps a s) : Keeps a (State.startRecord s) := by
  unfold State.startRecord
  exact h.record

theorem Keeps.refusedCages {a s : State} (h : Keeps a s) : Keeps a (State.refusedCages s) := by
  unfold State.refusedCages
  extract_lets v1
  refine Keeps.foldl ?_ ?_
  · exact h
  · intro x2 b4 k3
    exact k3.event

theorem Keeps.startRole {a s : State} (h : Keeps a s) : Keeps a (State.startRole s) := by
  unfold State.startRole
  split
  · (refine h.upd ?_; constructor <;> dsimp only)
  · split
    · extract_lets v1 v2
      have hv1 : Keeps a v1 := by
        unfold v1
        exact h.raiseEpoch
      clear_value v1
      (refine hv1.upd ?_; constructor <;> dsimp only)
    · exact h

theorem Keeps.startNotes {a s : State} (h : Keeps a s) : Keeps a (State.startNotes s) := by
  unfold State.startNotes
  extract_lets v1 v2 v3 v4 v5
  have hv1 : Keeps a v1 := by
    unfold v1
    split
    · exact h.retire
    · exact h
  clear_value v1
  have hv2 : Keeps a v2 := by
    unfold v2
    split
    · exact hv1.note
    · exact hv1
  clear_value v2
  have hv3 : Keeps a v3 := by
    unfold v3
    split
    · exact hv2.note
    · exact hv2
  clear_value v3
  have hv4 : Keeps a v4 := by
    unfold v4
    split
    · exact hv3.note
    · exact hv3
  clear_value v4
  have hv5 : Keeps a v5 := by
    unfold v5
    split
    · exact hv4.enterSafelight
    · exact hv4
  clear_value v5
  exact hv5.judge

theorem Keeps.firstBoundary {a s : State} (h : Keeps a s) : Keeps a (State.firstBoundary s) := by
  unfold State.firstBoundary
  extract_lets v1 v2 v3 v4 v5 v6 v7 v8 v9 v10 v11
  have hv3 : Keeps a v3 := by
    unfold v3
    exact h.readLamp
  clear_value v3
  have hv4 : Keeps a v4 := by
    unfold v4
    exact hv3.modLanes
  clear_value v4
  have hv8 : Keeps a v8 := by
    unfold v8
    exact hv4.other
  clear_value v8
  have hv9 : Keeps a v9 := by
    unfold v9
    split
    · exact hv8.emit
    · exact hv8
  clear_value v9
  have hv10 : Keeps a v10 := by
    unfold v10
    apply Keeps.wantSignature
    apply Keeps.refusedCages
    exact hv9.startRecord
  clear_value v10
  have hv11 : Keeps a v11 := by
    unfold v11
    apply Keeps.pulseOut
    apply Keeps.startNotes
    exact hv10.startRole
  clear_value v11
  split
  · exact h
  · refine Keeps.foldl ?_ ?_
    · exact hv11
    · intro x12 b14 k13
      exact k13.freeze

theorem Keeps.feedLost {a s : State} (h : Keeps a s) {p1 : Feed} : Keeps a (State.feedLost s p1) := by
  unfold State.feedLost
  split
  · apply Keeps.note
    exact h.other
  · exact h

theorem Keeps.goDown {a s : State} (h : Keeps a s) : Keeps a (State.goDown s) := by
  unfold State.goDown
  exact h.resetDies

theorem Keeps.powerFailStop {a s : State} (h : Keeps a s) : Keeps a (State.powerFailStop s) := by
  unfold State.powerFailStop
  extract_lets v1 v2 v3 v4 v5 v6 v7 v8
  have hv3 : Keeps a v3 := by
    unfold v3
    split
    · exact h.record
    · exact h.enterSafelight
  clear_value v3
  have hv4 : Keeps a v4 := by
    unfold v4
    split
    · apply Keeps.sendReplies
      apply Keeps.sendTelegrams
      exact hv3.fence
    · exact hv3
  clear_value v4
  have hv5 : Keeps a v5 := by
    unfold v5
    exact hv4.record
  clear_value v5
  have hv6 : Keeps a v6 := by
    unfold v6
    exact hv5.writeAll
  clear_value v6
  have hv8 : Keeps a v8 := by
    unfold v8
    apply Keeps.signHead
    (refine hv6.upd ?_; constructor <;> dsimp only)
  clear_value v8
  apply Keeps.goDown
  exact hv8.writeAll

theorem Keeps.bothLost {a s : State} (h : Keeps a s) {p1 : Nat} : Keeps a (State.bothLost s p1) := by
  unfold State.bothLost
  extract_lets v1 v2 v3
  have hv1 : Keeps a v1 := by
    unfold v1
    apply Keeps.measure
    apply Keeps.feedLost
    exact h.feedLost
  clear_value v1
  split
  · exact hv1
  · exact hv1
  · exact hv1
  · split
    · exact hv1.powerFailStop
    · exact hv1.other
  · exact hv1.goDown

theorem Keeps.feedBack {a s : State} (h : Keeps a s) {p1 : Feed} : Keeps a (State.feedBack s p1) := by
  unfold State.feedBack
  extract_lets v1 v2 v3 v4
  have hv2 : Keeps a v2 := by
    unfold v2
    exact h.other
  split
  · exact hv2.other
  · exact hv2

theorem Keeps.rideEnd {a s : State} (h : Keeps a s) {p1 : Nat} : Keeps a (State.rideEnd s p1) := by
  unfold State.rideEnd
  split
  · extract_lets v1
    have hv1 : Keeps a v1 := by
      unfold v1
      exact h.measure
    clear_value v1
    split
    · exact hv1.powerFailStop
    · exact hv1
  · exact h

theorem Keeps.restartAfterFail {a s : State} (h : Keeps a s) {p1 : Feed} {p2 : BitVec 2} {p3 : Bool} {p4 : Nat}
    :
    Keeps a (State.restartAfterFail s p1 p2 p3 p4) := by
  unfold State.restartAfterFail
  split
  · exact h.leaveReset
  · exact h

theorem Keeps.lowSupplyChange {a s : State} (h : Keeps a s) {p1 : Nat} {p2 : Bool} :
    Keeps a (State.lowSupplyChange s p1 p2) := by
  unfold State.lowSupplyChange
  split
  · exact h
  · extract_lets v1 v2 v3
    have hv3 : Keeps a v3 := by
      unfold v3
      apply Keeps.measure
      exact h.other
    clear_value v3
    split
    · exact hv3.note
    · exact hv3

theorem Keeps.presence {a s : State} (h : Keeps a s) {p1 : Bool} : Keeps a (State.presence s p1) := by
  unfold State.presence
  split
  · exact h
  · exact h.other

theorem Keeps.sfp {a s : State} (h : Keeps a s) {p1 : Port} {p2 : Bool} : Keeps a (State.sfp s p1 p2) := by
  unfold State.sfp
  split
  · exact h
  · extract_lets v1
    have hv1 : Keeps a v1 := by
      unfold v1
      exact h.modPort
    clear_value v1
    split
    · exact hv1
    · exact hv1.event

theorem Keeps.hostLink {a s : State} (h : Keeps a s) {p1 : Port} {p2 : Bool} :
    Keeps a (State.hostLink s p1 p2) := by
  unfold State.hostLink
  split
  · exact h
  · extract_lets v1 v2
    exact h.modPort

end Sys2Proof.Machine
end

