-- ==== Sys2Proof/Laws/KeepsExec.lean ====
section
/-! SUPPORT. `Keeps` for every operation of what the meanings call: one lemma per operation. -/

namespace Sys2Proof.Machine

theorem Keeps.exposeEnds {a s : State} (h : Keeps a s) : Keeps a (State.exposeEnds s) := by
  unfold State.exposeEnds
  split
  · exact h.closeExpose
  · exact h

theorem Keeps.developDeadlinePasses {a s : State} (h : Keeps a s) : Keeps a (State.developDeadlinePasses s) := by
  unfold State.developDeadlinePasses
  split
  · apply Keeps.developLate
    exact h.developMissed
  · exact h

theorem Keeps.mirrorDeadlinePasses {a s : State} (h : Keeps a s) : Keeps a (State.mirrorDeadlinePasses s) := by
  unfold State.mirrorDeadlinePasses
  split
  · exact h.mirrorEnd
  · exact h

theorem Keeps.windowEnds {a s : State} (h : Keeps a s) : Keeps a (State.windowEnds s) := by
  unfold State.windowEnds
  split
  · exact h.voteInstant
  · exact h.reVote

theorem Keeps.fixLatestPasses {a s : State} (h : Keeps a s) : Keeps a (State.fixLatestPasses s) := by
  unfold State.fixLatestPasses
  split
  · exact h.fixLatest
  · exact h

theorem Keeps.tardyBoundary {a s : State} (h : Keeps a s) {p1 : Lane} : Keeps a (State.tardyBoundary s p1) := by
  unfold State.tardyBoundary
  split
  · exact h.lateOut
  · exact h

theorem Keeps.expireEntry {a s : State} (h : Keeps a s) {p1 : W32} : Keeps a (State.expireEntry s p1) := by
  unfold State.expireEntry
  (refine h.upd ?_; constructor <;> dsimp only)

theorem Keeps.period {a s : State} (h : Keeps a s) {p1 : Lane} {p2 : State → State} (hf : ∀ x, Keeps a x → Keeps
    a (p2 x)) :
    Keeps a (State.period s p1 p2) := by
  unfold State.period
  split
  · extract_lets v1
    have hv1 : Keeps a v1 := by
      unfold v1
      exact hf _ h
    clear_value v1
    split
    · exact hv1.sendFrame
    · exact hv1
  · exact h

theorem Keeps.onBoard {a s : State} (h : Keeps a s) {p1 : Lane} {p2 : Board → Board} :
    Keeps a (State.onBoard s p1 p2) := by
  unfold State.onBoard
  split
  · exact h.modLane
  · exact h

theorem Keeps.debounceEnds {a s : State} (h : Keeps a s) {p1 : Lane} {p2 : Nat} :
    Keeps a (State.debounceEnds s p1 p2) := by
  unfold State.debounceEnds
  split
  · exact h.modLane
  · exact h

theorem Keeps.closeField {a s : State} (h : Keeps a s) {p1 : Nat} : Keeps a (State.closeField s p1) := by
  unfold State.closeField
  split
  · split
    · exact h.modSession
    · exact h
  · exact h

theorem Keeps.telegramArrives {a s : State} (h : Keeps a s) {p1 : FieldMsg} :
    Keeps a (State.telegramArrives s p1) := by
  unfold State.telegramArrives
  extract_lets v1 v2
  have hv2 : Keeps a v2 := by
    unfold v2
    exact h.receiveTelegram
  clear_value v2
  split
  · split
    · exact hv2
    · exact hv2.tallyPartner
  · exact hv2

theorem Keeps.partnerGone {a s : State} (h : Keeps a s) {p1 : Nat} : Keeps a (State.partnerGone s p1) := by
  unfold State.partnerGone
  split
  · split
    · exact h.declareLost
    · exact h
  · exact h

theorem Keeps.unknownOpcode {a s : State} (h : Keeps a s) {p1 : W16} {p2 : Pkt} :
    Keeps a (State.unknownOpcode s p1 p2) := by
  unfold State.unknownOpcode
  split
  · exact h.discard
  · split
    · split
      · split
        · (apply h.passChecks.1; assumption)
        · apply Keeps.refuseIn
          (apply h.passChecks.2; assumption)
      · exact h.badSession
    · exact h.badSession

theorem Keeps.strayDatagram {a s : State} (h : Keeps a s) {p1 : Port} {p2 : BadDatagram} :
    Keeps a (State.strayDatagram s p1 p2) := by
  unfold State.strayDatagram
  split
  · exact h.lose
  · split
    · split
      · exact h
      · exact h.unknownOpcode
    · exact h.discard

theorem Keeps.leaseEnds {a s : State} (h : Keeps a s) : Keeps a (State.leaseEnds s) := by
  unfold State.leaseEnds
  split
  · split
    · exact h.lapsedCycle
    · exact h
  · split
    · exact h.lapsedCycle
    · exact h
  · exact h.lapse
  · exact h.lapse
  · exact h

theorem Keeps.expire {a s : State} (h : Keeps a s) {p1 : Ticks → Bool} : Keeps a (State.expire s p1) := by
  unfold State.expire
  split
  · exact h.other
  · exact h

theorem Keeps.activationPoint {a s : State} (h : Keeps a s) : Keeps a (State.activationPoint s) := by
  unfold State.activationPoint
  split
  · exact h.activationDue
  · exact h

end Sys2Proof.Machine
end

