-- ==== Sys2Proof/Laws/KeepsAll.lean ====
section
/-! SUPPORT. What every command keeps: the lemmas of the operations, put together for exec and for step. -/

namespace Sys2Proof.Machine

/-- Every command is answered with a next state that keeps what the state at its instant had. -/
theorem Keeps.answered (c : Instr) (s : State) : ∃ u, exec c s = .next u ∧ Keeps (s.begin c.time) u := by
  cases c with
  | setRoute => exact ⟨_, rfl, (Keeps.refl _).receive⟩
  | cancelRoute => exact ⟨_, rfl, (Keeps.refl _).receive⟩
  | emergencyReleaseStep1 => exact ⟨_, rfl, (Keeps.refl _).receive⟩
  | emergencyReleaseStep2 => exact ⟨_, rfl, (Keeps.refl _).receive⟩
  | pointMove => exact ⟨_, rfl, (Keeps.refl _).receive⟩
  | pointBlock => exact ⟨_, rfl, (Keeps.refl _).receive⟩
  | signalBlock => exact ⟨_, rfl, (Keeps.refl _).receive⟩
  | sectionReset => exact ⟨_, rfl, (Keeps.refl _).receive⟩
  | blockRestore => exact ⟨_, rfl, (Keeps.refl _).receive⟩
  | zoneGrant => exact ⟨_, rfl, (Keeps.refl _).receive⟩
  | queryState => exact ⟨_, rfl, (Keeps.refl _).receive⟩
  | subscribe => exact ⟨_, rfl, (Keeps.refl _).receive⟩
  | unsubscribe => exact ⟨_, rfl, (Keeps.refl _).receive⟩
  | open1 => exact ⟨_, rfl, (Keeps.refl _).receiveOpen1⟩
  | open3 => exact ⟨_, rfl, (Keeps.refl _).receiveOpen3⟩
  | sessionClose => exact ⟨_, rfl, (Keeps.refl _).receive⟩
  | sessionKeepalive => exact ⟨_, rfl, (Keeps.refl _).receive⟩
  | modeSetRun => exact ⟨_, rfl, (Keeps.refl _).receive⟩
  | modeSetStop => exact ⟨_, rfl, (Keeps.refl _).receive⟩
  | modeSetHold => exact ⟨_, rfl, (Keeps.refl _).receive⟩
  | cycleSet => exact ⟨_, rfl, (Keeps.refl _).receive⟩
  | holdStep => exact ⟨_, rfl, (Keeps.refl _).receive⟩
  | testStripRun => exact ⟨_, rfl, (Keeps.refl _).receive⟩
  | negativeReadRecords => exact ⟨_, rfl, (Keeps.refl _).receive⟩
  | negativeReadChainHead => exact ⟨_, rfl, (Keeps.refl _).receive⟩
  | counterRead => exact ⟨_, rfl, (Keeps.refl _).receive⟩
  | counterSet => exact ⟨_, rfl, (Keeps.refl _).receive⟩
  | faultClear => exact ⟨_, rfl, (Keeps.refl _).receive⟩
  | lockoutRelease => exact ⟨_, rfl, (Keeps.refl _).receive⟩
  | faultInject => exact ⟨_, rfl, (Keeps.refl _).receive⟩
  | updateOffer => exact ⟨_, rfl, (Keeps.refl _).receive⟩
  | updateSchedule => exact ⟨_, rfl, (Keeps.refl _).receive⟩
  | updateScheduleCancel => exact ⟨_, rfl, (Keeps.refl _).receive⟩
  | updateConfirm => exact ⟨_, rfl, (Keeps.refl _).receive⟩
  | sealProposeNonce => exact ⟨_, rfl, (Keeps.refl _).receive⟩
  | sealProposePart => exact ⟨_, rfl, (Keeps.refl _).receive⟩
  | sealProposeWithdraw => exact ⟨_, rfl, (Keeps.refl _).receive⟩
  | sealApprove => exact ⟨_, rfl, (Keeps.refl _).receive⟩
  | lifecycleSetNonce => exact ⟨_, rfl, (Keeps.refl _).receive⟩
  | lifecycleSetPart => exact ⟨_, rfl, (Keeps.refl _).receive⟩
  | lifecycleSetWithdraw => exact ⟨_, rfl, (Keeps.refl _).receive⟩
  | lampStatus => exact ⟨_, rfl, (Keeps.refl _).receive⟩
  | lampRelease => exact ⟨_, rfl, (Keeps.refl _).receive⟩
  | pairSet => exact ⟨_, rfl, (Keeps.refl _).receive⟩
  | logicLoad => exact ⟨_, rfl, (Keeps.refl _).receive⟩
  | logicSwitch => exact ⟨_, rfl, (Keeps.refl _).receive⟩
  | event => exact ⟨_, rfl, (Keeps.refl _).receiveEvent⟩
  | partnerTelegram => exact ⟨_, rfl, (Keeps.refl _).telegramArrives⟩
  | hello => exact ⟨_, rfl, (Keeps.refl _).receiveHello⟩
  | fieldLinkUp => exact ⟨_, rfl, (Keeps.refl _).linkUp⟩
  | fieldLinkDown => exact ⟨_, rfl, (Keeps.refl _).linkDown⟩
  | challengeRepeat => exact ⟨_, rfl, (Keeps.refl _).challengeAgain⟩
  | openingAbandoned => exact ⟨_, rfl, (Keeps.refl _).abandonOpening⟩
  | quarantineEnd => exact ⟨_, rfl, (Keeps.refl _).endQuarantine⟩
  | sessionAliveExpiry => exact ⟨_, rfl, (Keeps.refl _).aliveExpiry⟩
  | fieldSessionCloseTimeout => exact ⟨_, rfl, (Keeps.refl _).closeField⟩
  | delta => exact ⟨_, rfl, (Keeps.refl _).takeDelta⟩
  | renew => exact ⟨_, rfl, (Keeps.refl _).takeRenew⟩
  | ack => exact ⟨_, rfl, (Keeps.refl _).takeAck⟩
  | release => exact ⟨_, rfl, (Keeps.refl _).takeRelease⟩
  | bulk => exact ⟨_, rfl, (Keeps.refl _).takeBulk⟩
  | bulkTimeout => exact ⟨_, rfl, (Keeps.refl _).bulkTimeout⟩
  | announce => exact ⟨_, rfl, (Keeps.refl _).takeAnnounce⟩
  | leaseLapse => exact ⟨_, rfl, (Keeps.refl _).overdue.leaseEnds⟩
  | guardCycleStart => exact ⟨_, rfl, (Keeps.refl _).guardStart⟩
  | takeLamp => exact ⟨_, rfl, (Keeps.refl _).takeLamp⟩
  | settlePeriodEnd => exact ⟨_, rfl, (Keeps.refl _).endSettle⟩
  | startSettlePeriodEnd => exact ⟨_, rfl, (Keeps.refl _).endSettle⟩
  | essentialSupplyLost => exact ⟨_, rfl, (Keeps.refl _).essentialDue⟩
  | pairPresenceChange => exact ⟨_, rfl, (Keeps.refl _).presence⟩
  | pairListenEnd => exact ⟨_, rfl, (Keeps.refl _).endListening⟩
  | runPoint => exact ⟨_, rfl, (Keeps.refl _).runPoint⟩
  | cycleBoundary => exact ⟨_, rfl, (Keeps.refl _).cycleBoundary⟩
  | inputImage => exact ⟨_, rfl, (Keeps.refl _).takeInput⟩
  | exposeClose => exact ⟨_, rfl, (Keeps.refl _).overdue.exposeEnds⟩
  | set => exact ⟨_, rfl, (Keeps.refl _).overdue.takeSet.setsHeld⟩
  | setWaitExpiry => exact ⟨_, rfl, (Keeps.refl _).overdue.setsDue⟩
  | developComplete => exact ⟨_, rfl, (Keeps.refl _).overdue.developDone⟩
  | developDeadline => exact ⟨_, rfl, (Keeps.refl _).developDeadlinePasses⟩
  | mirrorDeadline => exact ⟨_, rfl, (Keeps.refl _).mirrorDeadlinePasses⟩
  | outputImage => exact ⟨_, rfl, (Keeps.refl _).overdue.outputArrives⟩
  | rendezvousWindowExpiry => exact ⟨_, rfl, (Keeps.refl _).windowEnds⟩
  | fixLatestDeadline => exact ⟨_, rfl, (Keeps.refl _).overdue.fixLatestPasses⟩
  | lateOutputImage => exact ⟨_, rfl, (Keeps.refl _).overdue.lateArrives⟩
  | tardyLaneBoundary => exact ⟨_, rfl, (Keeps.refl _).overdue.tardyBoundary⟩
  | skipLimitExceeded => exact ⟨_, rfl, (Keeps.refl _).skipLimit⟩
  | tardyWithdrawal => exact ⟨_, rfl, (Keeps.refl _).tardyOut⟩
  | inputMinorityFault => exact ⟨_, rfl, (Keeps.refl _).minorityOut⟩
  | timedPromiseExpired => exact ⟨_, rfl, (Keeps.refl _).expireEntry⟩
  | holdTimeout => exact ⟨_, rfl, (Keeps.refl _).holdExpired⟩
  | safeStateRelease => exact ⟨_, rfl, (Keeps.refl _).overdue.safeRelease⟩
  | syncInEdge => exact ⟨_, rfl, (Keeps.refl _).syncEdge⟩
  | syncLoss => exact ⟨_, rfl, (Keeps.refl _).syncLoss⟩
  | ptpMessage => exact ⟨_, rfl, (Keeps.refl _).ptpTraffic⟩
  | ptpAnnounceTimeout => exact ⟨_, rfl, (Keeps.refl _).announceLost⟩
  | timebase => exact ⟨_, rfl, (Keeps.refl _).timebases⟩
  | paceSample => exact ⟨_, rfl, (Keeps.refl _).paceSample⟩
  | coreSupplyLow => exact ⟨_, rfl, (Keeps.refl _).coreSupply⟩
  | corePairMismatch => exact ⟨_, rfl, (Keeps.refl _).corePair⟩
  | loupeProbe => exact ⟨_, rfl, (Keeps.refl _).loupeProbe⟩
  | latentBufferFault => exact ⟨_, rfl, (Keeps.refl _).consumeLatent⟩
  | sramReadError => exact ⟨_, rfl, (Keeps.refl _).sramRead⟩
  | cacheParityError => exact ⟨_, rfl, (Keeps.refl _).refill⟩
  | crossLaneWordRejected => exact ⟨_, rfl, (Keeps.refl _).wordRejected⟩
  | channelFaulted => exact ⟨_, rfl, (Keeps.refl _).faultChannel⟩
  | hash => exact ⟨_, rfl, (Keeps.refl _).takeHash⟩
  | resyncBulk => exact ⟨_, rfl, (Keeps.refl _).resyncBulk⟩
  | resyncDelta => exact ⟨_, rfl, (Keeps.refl _).resyncDelta⟩
  | stopBathOccurrence => exact ⟨_, rfl, (Keeps.refl _).occurrence⟩
  | blockResetComplete => exact ⟨_, rfl, (Keeps.refl _).resetComplete⟩
  | blockResetBoundExpiry => exact ⟨_, rfl, (Keeps.refl _).resetOverdue⟩
  | networkDieResetCheck => exact ⟨_, rfl, (Keeps.refl _).dieChecked⟩
  | laneReleasedFromReset => exact ⟨_, rfl, (Keeps.refl _).releaseLane⟩
  | laneLoadComplete => exact ⟨_, rfl, (Keeps.refl _).laneLoaded⟩
  | laneJoinCheck => exact ⟨_, rfl, (Keeps.refl _).joinCheck⟩
  | resyncComplete => exact ⟨_, rfl, (Keeps.refl _).resyncDone⟩
  | laneRestartTimer => exact ⟨_, rfl, (Keeps.refl _).restartTimer⟩
  | joinTimeout => exact ⟨_, rfl, (Keeps.refl _).joinTimeout⟩
  | inboundFieldFrame => exact ⟨_, rfl, (Keeps.refl _).period fun _ h => h.inbound⟩
  | staleFrame => exact ⟨_, rfl, (Keeps.refl _).period fun _ h => h.staleFrame⟩
  | fieldBoardWatchdog => exact ⟨_, rfl, (Keeps.refl _).onBoard⟩
  | outboundFieldFrame => exact ⟨_, rfl, (Keeps.refl _).onBoard⟩
  | debounceExpiry => exact ⟨_, rfl, (Keeps.refl _).debounceEnds⟩
  | darkPulse => exact ⟨_, rfl, (Keeps.refl _).darkPulse⟩
  | groupFeedRecovery => exact ⟨_, rfl, (Keeps.refl _).groupRecovery⟩
  | cutoffStuck => exact ⟨_, rfl, (Keeps.refl _).cutoffStuck⟩
  | pairedNoDark => exact ⟨_, rfl, (Keeps.refl _).pairedNoDark⟩
  | partnerLost => exact ⟨_, rfl, (Keeps.refl _).partnerGone⟩
  | tLossExpiry => exact ⟨_, rfl, (Keeps.refl _).expire⟩
  | pointMoveTimeout => exact ⟨_, rfl, (Keeps.refl _).expire⟩
  | signalProvingTimeout => exact ⟨_, rfl, (Keeps.refl _).expire⟩
  | sectionClearDelay => exact ⟨_, rfl, (Keeps.refl _).expire⟩
  | crossingTimerExpiry => exact ⟨_, rfl, (Keeps.refl _).expire⟩
  | overlapReleaseTimer => exact ⟨_, rfl, (Keeps.refl _).expire⟩
  | approachReleaseTimer => exact ⟨_, rfl, (Keeps.refl _).expire⟩
  | emergencyTimerExpiry => exact ⟨_, rfl, (Keeps.refl _).expire⟩
  | confirmationWindowEnd => exact ⟨_, rfl, (Keeps.refl _).expire⟩
  | waitLimitExpiry => exact ⟨_, rfl, (Keeps.refl _).expire⟩
  | folquelTimerExpiry => exact ⟨_, rfl, (Keeps.refl _).expire⟩
  | safelightExit => exact ⟨_, rfl, (Keeps.refl _).leaveSafelight⟩
  | safeStateNotReached => exact ⟨_, rfl, (Keeps.refl _).safeStateNotReached⟩
  | injectionDisarm => exact ⟨_, rfl, (Keeps.refl _).disarm⟩
  | engineSelfCheck => exact ⟨_, rfl, (Keeps.refl _).selfCheck⟩
  | staticRegionScanEnd => exact ⟨_, rfl, (Keeps.refl _).scanEnd⟩
  | negativeRecordWrite => exact ⟨_, rfl, (Keeps.refl _).scribeWrites⟩
  | chainHeadSign => exact ⟨_, rfl, (Keeps.refl _).signDueHead⟩
  | recordNumbersExhausted => exact ⟨_, rfl, (Keeps.refl _).numbersExhausted⟩
  | counterSaturation => exact ⟨_, rfl, (Keeps.refl _).saturate⟩
  | proposalExpiry => exact ⟨_, rfl, (Keeps.refl _).expireProposal⟩
  | firmwareImageVerified => exact ⟨_, rfl, (Keeps.refl _).firmwareVerified⟩
  | logicImageVerified => exact ⟨_, rfl, (Keeps.refl _).logicVerified⟩
  | partialImageDiscard => exact ⟨_, rfl, (Keeps.refl _).discardPartial⟩
  | printRetry => exact ⟨_, rfl, (Keeps.refl _).retryPrint⟩
  | printTimeout => exact ⟨_, rfl, (Keeps.refl _).timeOutPrint⟩
  | printPartReply => exact ⟨_, rfl, (Keeps.refl _).printReply⟩
  | activationBoundary => exact ⟨_, rfl, (Keeps.refl _).activationPoint⟩
  | deferredActivationTimeout => exact ⟨_, rfl, (Keeps.refl _).deferredTimeout⟩
  | conversionFailedRestart => exact ⟨_, rfl, (Keeps.refl _).conversionRestart⟩
  | powerOn => exact ⟨_, rfl, (Keeps.refl _).powerOn⟩
  | holdUpReady => exact ⟨_, rfl, (Keeps.refl _).holdUpReady⟩
  | kBootComplete => exact ⟨_, rfl, (Keeps.refl _).kBooted⟩
  | firstBoundary => exact ⟨_, rfl, (Keeps.refl _).firstBoundary⟩
  | feedLoss => exact ⟨_, rfl, (Keeps.refl _).feedLost⟩
  | bothFeedsLost => exact ⟨_, rfl, (Keeps.refl _).bothLost⟩
  | feedReturn => exact ⟨_, rfl, (Keeps.refl _).feedBack⟩
  | rideThroughEnd => exact ⟨_, rfl, (Keeps.refl _).rideEnd⟩
  | restartAfterPowerFail => exact ⟨_, rfl, (Keeps.refl _).restartAfterFail⟩
  | sfpInserted => exact ⟨_, rfl, (Keeps.refl _).sfp⟩
  | hostLinkChange => exact ⟨_, rfl, (Keeps.refl _).hostLink⟩
  | ptpReferenceBoundary => exact ⟨_, rfl, (Keeps.refl _).ptpBoundary⟩
  | lowSupplyChange => exact ⟨_, rfl, (Keeps.refl _).lowSupplyChange⟩
  | densitometerSampleTick => exact ⟨_, rfl, (Keeps.refl _).sampleTick⟩
  | supervisorBoundary => exact ⟨_, rfl, (Keeps.refl _).supervisorBoundary⟩
  | printSessionReply => exact ⟨_, rfl, (Keeps.refl _).printSession⟩
  | unrecognisedDatagram => exact ⟨_, rfl, (Keeps.refl _).strayDatagram⟩

theorem Keeps.exec {c : Instr} {s u : State} (h : exec c s = .next u) : Keeps (s.begin c.time) u := by
  obtain ⟨v, hv, k⟩ := Keeps.answered c s
  rw [hv] at h
  cases h
  exact k

/-- A step keeps all that `Keeps` speaks of, but for the queue and the instant. -/
theorem Keeps.step {s u : State} (h : step s = .next u) :
    u = s ∨ ∃ c rest, s.pending = c :: rest ∧ Keeps (State.begin { s with pending := rest } c.time) u := by
  unfold Machine.step at h
  split at h
  · cases h; exact .inl rfl
  · next c rest e => exact .inr ⟨c, rest, e, Keeps.exec h⟩

end Sys2Proof.Machine
end

