-- ==== Sys2Proof/Laws/State.lean ====
section
/-! SUPPORT. What the named updates of State leave alone: one lemma per field, so that no proof unfolds an update. -/

namespace Sys2Proof.Machine

variable (s : State)

/-! s.begin t -/

@[simp] theorem State.begin_pending (t : Time) : (s.begin t).pending = s.pending := rfl
@[simp] theorem State.begin_freeCtr (t : Time) : (s.begin t).freeCtr = s.freeCtr := rfl
@[simp] theorem State.begin_v (t : Time) : (s.begin t).v = s.v := rfl
@[simp] theorem State.begin_m (t : Time) : (s.begin t).m = s.m := rfl
@[simp] theorem State.begin_dies (t : Time) : (s.begin t).dies = s.dies := rfl
@[simp] theorem State.begin_laneA (t : Time) : (s.begin t).laneA = s.laneA := rfl
@[simp] theorem State.begin_laneB (t : Time) : (s.begin t).laneB = s.laneB := rfl
@[simp] theorem State.begin_laneC (t : Time) : (s.begin t).laneC = s.laneC := rfl
@[simp] theorem State.begin_chanAB (t : Time) : (s.begin t).chanAB = s.chanAB := rfl
@[simp] theorem State.begin_chanBC (t : Time) : (s.begin t).chanBC = s.chanBC := rfl
@[simp] theorem State.begin_chanCA (t : Time) : (s.begin t).chanCA = s.chanCA := rfl
@[simp] theorem State.begin_cyc (t : Time) : (s.begin t).cyc = s.cyc := rfl
@[simp] theorem State.begin_rail (t : Time) : (s.begin t).rail = s.rail := rfl
@[simp] theorem State.begin_fio (t : Time) : (s.begin t).fio = s.fio := rfl
@[simp] theorem State.begin_net (t : Time) : (s.begin t).net = s.net := rfl
@[simp] theorem State.begin_logic (t : Time) : (s.begin t).logic = s.logic := rfl
@[simp] theorem State.begin_pair (t : Time) : (s.begin t).pair = s.pair := rfl
@[simp] theorem State.begin_flt (t : Time) : (s.begin t).flt = s.flt := rfl
@[simp] theorem State.begin_neg (t : Time) : (s.begin t).neg = s.neg := rfl
@[simp] theorem State.begin_trust (t : Time) : (s.begin t).trust = s.trust := rfl
@[simp] theorem State.begin_upd (t : Time) : (s.begin t).upd = s.upd := rfl
@[simp] theorem State.begin_test (t : Time) : (s.begin t).test = s.test := rfl

/-! s.emit o -/

@[simp] theorem State.emit_pending (o : Out) : (s.emit o).pending = s.pending := rfl
@[simp] theorem State.emit_now (o : Out) : (s.emit o).now = s.now := rfl
@[simp] theorem State.emit_freeCtr (o : Out) : (s.emit o).freeCtr = s.freeCtr := rfl
@[simp] theorem State.emit_v (o : Out) : (s.emit o).v = s.v := rfl
@[simp] theorem State.emit_m (o : Out) : (s.emit o).m = s.m := rfl
@[simp] theorem State.emit_dies (o : Out) : (s.emit o).dies = s.dies := rfl
@[simp] theorem State.emit_laneA (o : Out) : (s.emit o).laneA = s.laneA := rfl
@[simp] theorem State.emit_laneB (o : Out) : (s.emit o).laneB = s.laneB := rfl
@[simp] theorem State.emit_laneC (o : Out) : (s.emit o).laneC = s.laneC := rfl
@[simp] theorem State.emit_chanAB (o : Out) : (s.emit o).chanAB = s.chanAB := rfl
@[simp] theorem State.emit_chanBC (o : Out) : (s.emit o).chanBC = s.chanBC := rfl
@[simp] theorem State.emit_chanCA (o : Out) : (s.emit o).chanCA = s.chanCA := rfl
@[simp] theorem State.emit_cyc (o : Out) : (s.emit o).cyc = s.cyc := rfl
@[simp] theorem State.emit_rail (o : Out) : (s.emit o).rail = s.rail := rfl
@[simp] theorem State.emit_fio (o : Out) : (s.emit o).fio = s.fio := rfl
@[simp] theorem State.emit_net (o : Out) : (s.emit o).net = s.net := rfl
@[simp] theorem State.emit_logic (o : Out) : (s.emit o).logic = s.logic := rfl
@[simp] theorem State.emit_pair (o : Out) : (s.emit o).pair = s.pair := rfl
@[simp] theorem State.emit_flt (o : Out) : (s.emit o).flt = s.flt := rfl
@[simp] theorem State.emit_neg (o : Out) : (s.emit o).neg = s.neg := rfl
@[simp] theorem State.emit_trust (o : Out) : (s.emit o).trust = s.trust := rfl
@[simp] theorem State.emit_upd (o : Out) : (s.emit o).upd = s.upd := rfl
@[simp] theorem State.emit_test (o : Out) : (s.emit o).test = s.test := rfl

/-! s.emitAll l -/

@[simp] theorem State.emitAll_pending (l : List Out) : (s.emitAll l).pending = s.pending := rfl
@[simp] theorem State.emitAll_now (l : List Out) : (s.emitAll l).now = s.now := rfl
@[simp] theorem State.emitAll_freeCtr (l : List Out) : (s.emitAll l).freeCtr = s.freeCtr := rfl
@[simp] theorem State.emitAll_v (l : List Out) : (s.emitAll l).v = s.v := rfl
@[simp] theorem State.emitAll_m (l : List Out) : (s.emitAll l).m = s.m := rfl
@[simp] theorem State.emitAll_dies (l : List Out) : (s.emitAll l).dies = s.dies := rfl
@[simp] theorem State.emitAll_laneA (l : List Out) : (s.emitAll l).laneA = s.laneA := rfl
@[simp] theorem State.emitAll_laneB (l : List Out) : (s.emitAll l).laneB = s.laneB := rfl
@[simp] theorem State.emitAll_laneC (l : List Out) : (s.emitAll l).laneC = s.laneC := rfl
@[simp] theorem State.emitAll_chanAB (l : List Out) : (s.emitAll l).chanAB = s.chanAB := rfl
@[simp] theorem State.emitAll_chanBC (l : List Out) : (s.emitAll l).chanBC = s.chanBC := rfl
@[simp] theorem State.emitAll_chanCA (l : List Out) : (s.emitAll l).chanCA = s.chanCA := rfl
@[simp] theorem State.emitAll_cyc (l : List Out) : (s.emitAll l).cyc = s.cyc := rfl
@[simp] theorem State.emitAll_rail (l : List Out) : (s.emitAll l).rail = s.rail := rfl
@[simp] theorem State.emitAll_fio (l : List Out) : (s.emitAll l).fio = s.fio := rfl
@[simp] theorem State.emitAll_net (l : List Out) : (s.emitAll l).net = s.net := rfl
@[simp] theorem State.emitAll_logic (l : List Out) : (s.emitAll l).logic = s.logic := rfl
@[simp] theorem State.emitAll_pair (l : List Out) : (s.emitAll l).pair = s.pair := rfl
@[simp] theorem State.emitAll_flt (l : List Out) : (s.emitAll l).flt = s.flt := rfl
@[simp] theorem State.emitAll_neg (l : List Out) : (s.emitAll l).neg = s.neg := rfl
@[simp] theorem State.emitAll_trust (l : List Out) : (s.emitAll l).trust = s.trust := rfl
@[simp] theorem State.emitAll_upd (l : List Out) : (s.emitAll l).upd = s.upd := rfl
@[simp] theorem State.emitAll_test (l : List Out) : (s.emitAll l).test = s.test := rfl

/-! s.modLane l f -/

@[simp] theorem State.modLane_pending (l : Lane) (f : LaneRec → LaneRec) : (s.modLane l f).pending = s.pending := by cases l <;> rfl
@[simp] theorem State.modLane_now (l : Lane) (f : LaneRec → LaneRec) : (s.modLane l f).now = s.now := by cases l <;> rfl
@[simp] theorem State.modLane_outbox (l : Lane) (f : LaneRec → LaneRec) : (s.modLane l f).outbox = s.outbox := by cases l <;> rfl
@[simp] theorem State.modLane_freeCtr (l : Lane) (f : LaneRec → LaneRec) : (s.modLane l f).freeCtr = s.freeCtr := by cases l <;> rfl
@[simp] theorem State.modLane_v (l : Lane) (f : LaneRec → LaneRec) : (s.modLane l f).v = s.v := by cases l <;> rfl
@[simp] theorem State.modLane_m (l : Lane) (f : LaneRec → LaneRec) : (s.modLane l f).m = s.m := by cases l <;> rfl
@[simp] theorem State.modLane_dies (l : Lane) (f : LaneRec → LaneRec) : (s.modLane l f).dies = s.dies := by cases l <;> rfl
@[simp] theorem State.modLane_chanAB (l : Lane) (f : LaneRec → LaneRec) : (s.modLane l f).chanAB = s.chanAB := by cases l <;> rfl
@[simp] theorem State.modLane_chanBC (l : Lane) (f : LaneRec → LaneRec) : (s.modLane l f).chanBC = s.chanBC := by cases l <;> rfl
@[simp] theorem State.modLane_chanCA (l : Lane) (f : LaneRec → LaneRec) : (s.modLane l f).chanCA = s.chanCA := by cases l <;> rfl
@[simp] theorem State.modLane_cyc (l : Lane) (f : LaneRec → LaneRec) : (s.modLane l f).cyc = s.cyc := by cases l <;> rfl
@[simp] theorem State.modLane_rail (l : Lane) (f : LaneRec → LaneRec) : (s.modLane l f).rail = s.rail := by cases l <;> rfl
@[simp] theorem State.modLane_fio (l : Lane) (f : LaneRec → LaneRec) : (s.modLane l f).fio = s.fio := by cases l <;> rfl
@[simp] theorem State.modLane_net (l : Lane) (f : LaneRec → LaneRec) : (s.modLane l f).net = s.net := by cases l <;> rfl
@[simp] theorem State.modLane_logic (l : Lane) (f : LaneRec → LaneRec) : (s.modLane l f).logic = s.logic := by cases l <;> rfl
@[simp] theorem State.modLane_pair (l : Lane) (f : LaneRec → LaneRec) : (s.modLane l f).pair = s.pair := by cases l <;> rfl
@[simp] theorem State.modLane_flt (l : Lane) (f : LaneRec → LaneRec) : (s.modLane l f).flt = s.flt := by cases l <;> rfl
@[simp] theorem State.modLane_neg (l : Lane) (f : LaneRec → LaneRec) : (s.modLane l f).neg = s.neg := by cases l <;> rfl
@[simp] theorem State.modLane_trust (l : Lane) (f : LaneRec → LaneRec) : (s.modLane l f).trust = s.trust := by cases l <;> rfl
@[simp] theorem State.modLane_upd (l : Lane) (f : LaneRec → LaneRec) : (s.modLane l f).upd = s.upd := by cases l <;> rfl
@[simp] theorem State.modLane_test (l : Lane) (f : LaneRec → LaneRec) : (s.modLane l f).test = s.test := by cases l <;> rfl

/-! s.modLanes f -/

@[simp] theorem State.modLanes_pending (f : Lane → LaneRec → LaneRec) : (s.modLanes f).pending = s.pending := rfl
@[simp] theorem State.modLanes_now (f : Lane → LaneRec → LaneRec) : (s.modLanes f).now = s.now := rfl
@[simp] theorem State.modLanes_outbox (f : Lane → LaneRec → LaneRec) : (s.modLanes f).outbox = s.outbox := rfl
@[simp] theorem State.modLanes_freeCtr (f : Lane → LaneRec → LaneRec) : (s.modLanes f).freeCtr = s.freeCtr := rfl
@[simp] theorem State.modLanes_v (f : Lane → LaneRec → LaneRec) : (s.modLanes f).v = s.v := rfl
@[simp] theorem State.modLanes_m (f : Lane → LaneRec → LaneRec) : (s.modLanes f).m = s.m := rfl
@[simp] theorem State.modLanes_dies (f : Lane → LaneRec → LaneRec) : (s.modLanes f).dies = s.dies := rfl
@[simp] theorem State.modLanes_chanAB (f : Lane → LaneRec → LaneRec) : (s.modLanes f).chanAB = s.chanAB := rfl
@[simp] theorem State.modLanes_chanBC (f : Lane → LaneRec → LaneRec) : (s.modLanes f).chanBC = s.chanBC := rfl
@[simp] theorem State.modLanes_chanCA (f : Lane → LaneRec → LaneRec) : (s.modLanes f).chanCA = s.chanCA := rfl
@[simp] theorem State.modLanes_cyc (f : Lane → LaneRec → LaneRec) : (s.modLanes f).cyc = s.cyc := rfl
@[simp] theorem State.modLanes_rail (f : Lane → LaneRec → LaneRec) : (s.modLanes f).rail = s.rail := rfl
@[simp] theorem State.modLanes_fio (f : Lane → LaneRec → LaneRec) : (s.modLanes f).fio = s.fio := rfl
@[simp] theorem State.modLanes_net (f : Lane → LaneRec → LaneRec) : (s.modLanes f).net = s.net := rfl
@[simp] theorem State.modLanes_logic (f : Lane → LaneRec → LaneRec) : (s.modLanes f).logic = s.logic := rfl
@[simp] theorem State.modLanes_pair (f : Lane → LaneRec → LaneRec) : (s.modLanes f).pair = s.pair := rfl
@[simp] theorem State.modLanes_flt (f : Lane → LaneRec → LaneRec) : (s.modLanes f).flt = s.flt := rfl
@[simp] theorem State.modLanes_neg (f : Lane → LaneRec → LaneRec) : (s.modLanes f).neg = s.neg := rfl
@[simp] theorem State.modLanes_trust (f : Lane → LaneRec → LaneRec) : (s.modLanes f).trust = s.trust := rfl
@[simp] theorem State.modLanes_upd (f : Lane → LaneRec → LaneRec) : (s.modLanes f).upd = s.upd := rfl
@[simp] theorem State.modLanes_test (f : Lane → LaneRec → LaneRec) : (s.modLanes f).test = s.test := rfl

/-! s.modChan c f -/

@[simp] theorem State.modChan_pending (c : Chan) (f : ChanRec → ChanRec) : (s.modChan c f).pending = s.pending := by cases c <;> rfl
@[simp] theorem State.modChan_now (c : Chan) (f : ChanRec → ChanRec) : (s.modChan c f).now = s.now := by cases c <;> rfl
@[simp] theorem State.modChan_outbox (c : Chan) (f : ChanRec → ChanRec) : (s.modChan c f).outbox = s.outbox := by cases c <;> rfl
@[simp] theorem State.modChan_freeCtr (c : Chan) (f : ChanRec → ChanRec) : (s.modChan c f).freeCtr = s.freeCtr := by cases c <;> rfl
@[simp] theorem State.modChan_v (c : Chan) (f : ChanRec → ChanRec) : (s.modChan c f).v = s.v := by cases c <;> rfl
@[simp] theorem State.modChan_m (c : Chan) (f : ChanRec → ChanRec) : (s.modChan c f).m = s.m := by cases c <;> rfl
@[simp] theorem State.modChan_dies (c : Chan) (f : ChanRec → ChanRec) : (s.modChan c f).dies = s.dies := by cases c <;> rfl
@[simp] theorem State.modChan_laneA (c : Chan) (f : ChanRec → ChanRec) : (s.modChan c f).laneA = s.laneA := by cases c <;> rfl
@[simp] theorem State.modChan_laneB (c : Chan) (f : ChanRec → ChanRec) : (s.modChan c f).laneB = s.laneB := by cases c <;> rfl
@[simp] theorem State.modChan_laneC (c : Chan) (f : ChanRec → ChanRec) : (s.modChan c f).laneC = s.laneC := by cases c <;> rfl
@[simp] theorem State.modChan_cyc (c : Chan) (f : ChanRec → ChanRec) : (s.modChan c f).cyc = s.cyc := by cases c <;> rfl
@[simp] theorem State.modChan_rail (c : Chan) (f : ChanRec → ChanRec) : (s.modChan c f).rail = s.rail := by cases c <;> rfl
@[simp] theorem State.modChan_fio (c : Chan) (f : ChanRec → ChanRec) : (s.modChan c f).fio = s.fio := by cases c <;> rfl
@[simp] theorem State.modChan_net (c : Chan) (f : ChanRec → ChanRec) : (s.modChan c f).net = s.net := by cases c <;> rfl
@[simp] theorem State.modChan_logic (c : Chan) (f : ChanRec → ChanRec) : (s.modChan c f).logic = s.logic := by cases c <;> rfl
@[simp] theorem State.modChan_pair (c : Chan) (f : ChanRec → ChanRec) : (s.modChan c f).pair = s.pair := by cases c <;> rfl
@[simp] theorem State.modChan_flt (c : Chan) (f : ChanRec → ChanRec) : (s.modChan c f).flt = s.flt := by cases c <;> rfl
@[simp] theorem State.modChan_neg (c : Chan) (f : ChanRec → ChanRec) : (s.modChan c f).neg = s.neg := by cases c <;> rfl
@[simp] theorem State.modChan_trust (c : Chan) (f : ChanRec → ChanRec) : (s.modChan c f).trust = s.trust := by cases c <;> rfl
@[simp] theorem State.modChan_upd (c : Chan) (f : ChanRec → ChanRec) : (s.modChan c f).upd = s.upd := by cases c <;> rfl
@[simp] theorem State.modChan_test (c : Chan) (f : ChanRec → ChanRec) : (s.modChan c f).test = s.test := by cases c <;> rfl

/-! s.setDie d x -/

@[simp] theorem State.setDie_pending (d : Die) (x : DieState) : (s.setDie d x).pending = s.pending := by cases d <;> rfl
@[simp] theorem State.setDie_now (d : Die) (x : DieState) : (s.setDie d x).now = s.now := by cases d <;> rfl
@[simp] theorem State.setDie_outbox (d : Die) (x : DieState) : (s.setDie d x).outbox = s.outbox := by cases d <;> rfl
@[simp] theorem State.setDie_freeCtr (d : Die) (x : DieState) : (s.setDie d x).freeCtr = s.freeCtr := by cases d <;> rfl
@[simp] theorem State.setDie_v (d : Die) (x : DieState) : (s.setDie d x).v = s.v := by cases d <;> rfl
@[simp] theorem State.setDie_m (d : Die) (x : DieState) : (s.setDie d x).m = s.m := by cases d <;> rfl
@[simp] theorem State.setDie_laneA (d : Die) (x : DieState) : (s.setDie d x).laneA = s.laneA := by cases d <;> rfl
@[simp] theorem State.setDie_laneB (d : Die) (x : DieState) : (s.setDie d x).laneB = s.laneB := by cases d <;> rfl
@[simp] theorem State.setDie_laneC (d : Die) (x : DieState) : (s.setDie d x).laneC = s.laneC := by cases d <;> rfl
@[simp] theorem State.setDie_chanAB (d : Die) (x : DieState) : (s.setDie d x).chanAB = s.chanAB := by cases d <;> rfl
@[simp] theorem State.setDie_chanBC (d : Die) (x : DieState) : (s.setDie d x).chanBC = s.chanBC := by cases d <;> rfl
@[simp] theorem State.setDie_chanCA (d : Die) (x : DieState) : (s.setDie d x).chanCA = s.chanCA := by cases d <;> rfl
@[simp] theorem State.setDie_cyc (d : Die) (x : DieState) : (s.setDie d x).cyc = s.cyc := by cases d <;> rfl
@[simp] theorem State.setDie_rail (d : Die) (x : DieState) : (s.setDie d x).rail = s.rail := by cases d <;> rfl
@[simp] theorem State.setDie_fio (d : Die) (x : DieState) : (s.setDie d x).fio = s.fio := by cases d <;> rfl
@[simp] theorem State.setDie_net (d : Die) (x : DieState) : (s.setDie d x).net = s.net := by cases d <;> rfl
@[simp] theorem State.setDie_logic (d : Die) (x : DieState) : (s.setDie d x).logic = s.logic := by cases d <;> rfl
@[simp] theorem State.setDie_pair (d : Die) (x : DieState) : (s.setDie d x).pair = s.pair := by cases d <;> rfl
@[simp] theorem State.setDie_flt (d : Die) (x : DieState) : (s.setDie d x).flt = s.flt := by cases d <;> rfl
@[simp] theorem State.setDie_neg (d : Die) (x : DieState) : (s.setDie d x).neg = s.neg := by cases d <;> rfl
@[simp] theorem State.setDie_trust (d : Die) (x : DieState) : (s.setDie d x).trust = s.trust := by cases d <;> rfl
@[simp] theorem State.setDie_upd (d : Die) (x : DieState) : (s.setDie d x).upd = s.upd := by cases d <;> rfl
@[simp] theorem State.setDie_test (d : Die) (x : DieState) : (s.setDie d x).test = s.test := by cases d <;> rfl

/-! s.modLink i f -/

@[simp] theorem State.modLink_pending (i : Nat) (f : LinkRec → LinkRec) : (s.modLink i f).pending = s.pending := rfl
@[simp] theorem State.modLink_now (i : Nat) (f : LinkRec → LinkRec) : (s.modLink i f).now = s.now := rfl
@[simp] theorem State.modLink_outbox (i : Nat) (f : LinkRec → LinkRec) : (s.modLink i f).outbox = s.outbox := rfl
@[simp] theorem State.modLink_freeCtr (i : Nat) (f : LinkRec → LinkRec) : (s.modLink i f).freeCtr = s.freeCtr := rfl
@[simp] theorem State.modLink_v (i : Nat) (f : LinkRec → LinkRec) : (s.modLink i f).v = s.v := rfl
@[simp] theorem State.modLink_m (i : Nat) (f : LinkRec → LinkRec) : (s.modLink i f).m = s.m := rfl
@[simp] theorem State.modLink_dies (i : Nat) (f : LinkRec → LinkRec) : (s.modLink i f).dies = s.dies := rfl
@[simp] theorem State.modLink_laneA (i : Nat) (f : LinkRec → LinkRec) : (s.modLink i f).laneA = s.laneA := rfl
@[simp] theorem State.modLink_laneB (i : Nat) (f : LinkRec → LinkRec) : (s.modLink i f).laneB = s.laneB := rfl
@[simp] theorem State.modLink_laneC (i : Nat) (f : LinkRec → LinkRec) : (s.modLink i f).laneC = s.laneC := rfl
@[simp] theorem State.modLink_chanAB (i : Nat) (f : LinkRec → LinkRec) : (s.modLink i f).chanAB = s.chanAB := rfl
@[simp] theorem State.modLink_chanBC (i : Nat) (f : LinkRec → LinkRec) : (s.modLink i f).chanBC = s.chanBC := rfl
@[simp] theorem State.modLink_chanCA (i : Nat) (f : LinkRec → LinkRec) : (s.modLink i f).chanCA = s.chanCA := rfl
@[simp] theorem State.modLink_cyc (i : Nat) (f : LinkRec → LinkRec) : (s.modLink i f).cyc = s.cyc := rfl
@[simp] theorem State.modLink_rail (i : Nat) (f : LinkRec → LinkRec) : (s.modLink i f).rail = s.rail := rfl
@[simp] theorem State.modLink_fio (i : Nat) (f : LinkRec → LinkRec) : (s.modLink i f).fio = s.fio := rfl
@[simp] theorem State.modLink_logic (i : Nat) (f : LinkRec → LinkRec) : (s.modLink i f).logic = s.logic := rfl
@[simp] theorem State.modLink_pair (i : Nat) (f : LinkRec → LinkRec) : (s.modLink i f).pair = s.pair := rfl
@[simp] theorem State.modLink_flt (i : Nat) (f : LinkRec → LinkRec) : (s.modLink i f).flt = s.flt := rfl
@[simp] theorem State.modLink_neg (i : Nat) (f : LinkRec → LinkRec) : (s.modLink i f).neg = s.neg := rfl
@[simp] theorem State.modLink_trust (i : Nat) (f : LinkRec → LinkRec) : (s.modLink i f).trust = s.trust := rfl
@[simp] theorem State.modLink_upd (i : Nat) (f : LinkRec → LinkRec) : (s.modLink i f).upd = s.upd := rfl
@[simp] theorem State.modLink_test (i : Nat) (f : LinkRec → LinkRec) : (s.modLink i f).test = s.test := rfl

/-! s.modPort p f -/

@[simp] theorem State.modPort_pending (p : Port) (f : PortRec → PortRec) : (s.modPort p f).pending = s.pending := by cases p <;> rfl
@[simp] theorem State.modPort_now (p : Port) (f : PortRec → PortRec) : (s.modPort p f).now = s.now := by cases p <;> rfl
@[simp] theorem State.modPort_outbox (p : Port) (f : PortRec → PortRec) : (s.modPort p f).outbox = s.outbox := by cases p <;> rfl
@[simp] theorem State.modPort_freeCtr (p : Port) (f : PortRec → PortRec) : (s.modPort p f).freeCtr = s.freeCtr := by cases p <;> rfl
@[simp] theorem State.modPort_v (p : Port) (f : PortRec → PortRec) : (s.modPort p f).v = s.v := by cases p <;> rfl
@[simp] theorem State.modPort_m (p : Port) (f : PortRec → PortRec) : (s.modPort p f).m = s.m := by cases p <;> rfl
@[simp] theorem State.modPort_dies (p : Port) (f : PortRec → PortRec) : (s.modPort p f).dies = s.dies := by cases p <;> rfl
@[simp] theorem State.modPort_laneA (p : Port) (f : PortRec → PortRec) : (s.modPort p f).laneA = s.laneA := by cases p <;> rfl
@[simp] theorem State.modPort_laneB (p : Port) (f : PortRec → PortRec) : (s.modPort p f).laneB = s.laneB := by cases p <;> rfl
@[simp] theorem State.modPort_laneC (p : Port) (f : PortRec → PortRec) : (s.modPort p f).laneC = s.laneC := by cases p <;> rfl
@[simp] theorem State.modPort_chanAB (p : Port) (f : PortRec → PortRec) : (s.modPort p f).chanAB = s.chanAB := by cases p <;> rfl
@[simp] theorem State.modPort_chanBC (p : Port) (f : PortRec → PortRec) : (s.modPort p f).chanBC = s.chanBC := by cases p <;> rfl
@[simp] theorem State.modPort_chanCA (p : Port) (f : PortRec → PortRec) : (s.modPort p f).chanCA = s.chanCA := by cases p <;> rfl
@[simp] theorem State.modPort_cyc (p : Port) (f : PortRec → PortRec) : (s.modPort p f).cyc = s.cyc := by cases p <;> rfl
@[simp] theorem State.modPort_rail (p : Port) (f : PortRec → PortRec) : (s.modPort p f).rail = s.rail := by cases p <;> rfl
@[simp] theorem State.modPort_fio (p : Port) (f : PortRec → PortRec) : (s.modPort p f).fio = s.fio := by cases p <;> rfl
@[simp] theorem State.modPort_logic (p : Port) (f : PortRec → PortRec) : (s.modPort p f).logic = s.logic := by cases p <;> rfl
@[simp] theorem State.modPort_pair (p : Port) (f : PortRec → PortRec) : (s.modPort p f).pair = s.pair := by cases p <;> rfl
@[simp] theorem State.modPort_flt (p : Port) (f : PortRec → PortRec) : (s.modPort p f).flt = s.flt := by cases p <;> rfl
@[simp] theorem State.modPort_neg (p : Port) (f : PortRec → PortRec) : (s.modPort p f).neg = s.neg := by cases p <;> rfl
@[simp] theorem State.modPort_trust (p : Port) (f : PortRec → PortRec) : (s.modPort p f).trust = s.trust := by cases p <;> rfl
@[simp] theorem State.modPort_upd (p : Port) (f : PortRec → PortRec) : (s.modPort p f).upd = s.upd := by cases p <;> rfl
@[simp] theorem State.modPort_test (p : Port) (f : PortRec → PortRec) : (s.modPort p f).test = s.test := by cases p <;> rfl

/-! s.setBank b x -/

@[simp] theorem State.setBank_pending (b : Bool) (x : LogicBank) : (s.setBank b x).pending = s.pending := by cases b <;> rfl
@[simp] theorem State.setBank_now (b : Bool) (x : LogicBank) : (s.setBank b x).now = s.now := by cases b <;> rfl
@[simp] theorem State.setBank_outbox (b : Bool) (x : LogicBank) : (s.setBank b x).outbox = s.outbox := by cases b <;> rfl
@[simp] theorem State.setBank_freeCtr (b : Bool) (x : LogicBank) : (s.setBank b x).freeCtr = s.freeCtr := by cases b <;> rfl
@[simp] theorem State.setBank_v (b : Bool) (x : LogicBank) : (s.setBank b x).v = s.v := by cases b <;> rfl
@[simp] theorem State.setBank_m (b : Bool) (x : LogicBank) : (s.setBank b x).m = s.m := by cases b <;> rfl
@[simp] theorem State.setBank_dies (b : Bool) (x : LogicBank) : (s.setBank b x).dies = s.dies := by cases b <;> rfl
@[simp] theorem State.setBank_laneA (b : Bool) (x : LogicBank) : (s.setBank b x).laneA = s.laneA := by cases b <;> rfl
@[simp] theorem State.setBank_laneB (b : Bool) (x : LogicBank) : (s.setBank b x).laneB = s.laneB := by cases b <;> rfl
@[simp] theorem State.setBank_laneC (b : Bool) (x : LogicBank) : (s.setBank b x).laneC = s.laneC := by cases b <;> rfl
@[simp] theorem State.setBank_chanAB (b : Bool) (x : LogicBank) : (s.setBank b x).chanAB = s.chanAB := by cases b <;> rfl
@[simp] theorem State.setBank_chanBC (b : Bool) (x : LogicBank) : (s.setBank b x).chanBC = s.chanBC := by cases b <;> rfl
@[simp] theorem State.setBank_chanCA (b : Bool) (x : LogicBank) : (s.setBank b x).chanCA = s.chanCA := by cases b <;> rfl
@[simp] theorem State.setBank_cyc (b : Bool) (x : LogicBank) : (s.setBank b x).cyc = s.cyc := by cases b <;> rfl
@[simp] theorem State.setBank_rail (b : Bool) (x : LogicBank) : (s.setBank b x).rail = s.rail := by cases b <;> rfl
@[simp] theorem State.setBank_fio (b : Bool) (x : LogicBank) : (s.setBank b x).fio = s.fio := by cases b <;> rfl
@[simp] theorem State.setBank_net (b : Bool) (x : LogicBank) : (s.setBank b x).net = s.net := by cases b <;> rfl
@[simp] theorem State.setBank_pair (b : Bool) (x : LogicBank) : (s.setBank b x).pair = s.pair := by cases b <;> rfl
@[simp] theorem State.setBank_flt (b : Bool) (x : LogicBank) : (s.setBank b x).flt = s.flt := by cases b <;> rfl
@[simp] theorem State.setBank_neg (b : Bool) (x : LogicBank) : (s.setBank b x).neg = s.neg := by cases b <;> rfl
@[simp] theorem State.setBank_trust (b : Bool) (x : LogicBank) : (s.setBank b x).trust = s.trust := by cases b <;> rfl
@[simp] theorem State.setBank_upd (b : Bool) (x : LogicBank) : (s.setBank b x).upd = s.upd := by cases b <;> rfl
@[simp] theorem State.setBank_test (b : Bool) (x : LogicBank) : (s.setBank b x).test = s.test := by cases b <;> rfl

/-! s.modSession sid f -/

@[simp] theorem State.modSession_pending (sid : Nat) (f : Session → Session) : (s.modSession sid f).pending = s.pending := rfl
@[simp] theorem State.modSession_now (sid : Nat) (f : Session → Session) : (s.modSession sid f).now = s.now := rfl
@[simp] theorem State.modSession_outbox (sid : Nat) (f : Session → Session) : (s.modSession sid f).outbox = s.outbox := rfl
@[simp] theorem State.modSession_freeCtr (sid : Nat) (f : Session → Session) : (s.modSession sid f).freeCtr = s.freeCtr := rfl
@[simp] theorem State.modSession_v (sid : Nat) (f : Session → Session) : (s.modSession sid f).v = s.v := rfl
@[simp] theorem State.modSession_m (sid : Nat) (f : Session → Session) : (s.modSession sid f).m = s.m := rfl
@[simp] theorem State.modSession_dies (sid : Nat) (f : Session → Session) : (s.modSession sid f).dies = s.dies := rfl
@[simp] theorem State.modSession_laneA (sid : Nat) (f : Session → Session) : (s.modSession sid f).laneA = s.laneA := rfl
@[simp] theorem State.modSession_laneB (sid : Nat) (f : Session → Session) : (s.modSession sid f).laneB = s.laneB := rfl
@[simp] theorem State.modSession_laneC (sid : Nat) (f : Session → Session) : (s.modSession sid f).laneC = s.laneC := rfl
@[simp] theorem State.modSession_chanAB (sid : Nat) (f : Session → Session) : (s.modSession sid f).chanAB = s.chanAB := rfl
@[simp] theorem State.modSession_chanBC (sid : Nat) (f : Session → Session) : (s.modSession sid f).chanBC = s.chanBC := rfl
@[simp] theorem State.modSession_chanCA (sid : Nat) (f : Session → Session) : (s.modSession sid f).chanCA = s.chanCA := rfl
@[simp] theorem State.modSession_cyc (sid : Nat) (f : Session → Session) : (s.modSession sid f).cyc = s.cyc := rfl
@[simp] theorem State.modSession_rail (sid : Nat) (f : Session → Session) : (s.modSession sid f).rail = s.rail := rfl
@[simp] theorem State.modSession_fio (sid : Nat) (f : Session → Session) : (s.modSession sid f).fio = s.fio := rfl
@[simp] theorem State.modSession_logic (sid : Nat) (f : Session → Session) : (s.modSession sid f).logic = s.logic := rfl
@[simp] theorem State.modSession_pair (sid : Nat) (f : Session → Session) : (s.modSession sid f).pair = s.pair := rfl
@[simp] theorem State.modSession_flt (sid : Nat) (f : Session → Session) : (s.modSession sid f).flt = s.flt := rfl
@[simp] theorem State.modSession_neg (sid : Nat) (f : Session → Session) : (s.modSession sid f).neg = s.neg := rfl
@[simp] theorem State.modSession_trust (sid : Nat) (f : Session → Session) : (s.modSession sid f).trust = s.trust := rfl
@[simp] theorem State.modSession_upd (sid : Nat) (f : Session → Session) : (s.modSession sid f).upd = s.upd := rfl
@[simp] theorem State.modSession_test (sid : Nat) (f : Session → Session) : (s.modSession sid f).test = s.test := rfl

/-- A record changes the Negative only (R388). -/
theorem State.record_eq (r : Record) : s.record r = { s with neg := (s.record r).neg } := by
  unfold State.record
  dsimp only
  split
  · rfl
  · split
    · split <;> rfl
    · rfl

/-! s.record r -/

@[simp] theorem State.record_pending (r : Record) : (s.record r).pending = s.pending := by rw [State.record_eq]
@[simp] theorem State.record_now (r : Record) : (s.record r).now = s.now := by rw [State.record_eq]
@[simp] theorem State.record_outbox (r : Record) : (s.record r).outbox = s.outbox := by rw [State.record_eq]
@[simp] theorem State.record_freeCtr (r : Record) : (s.record r).freeCtr = s.freeCtr := by rw [State.record_eq]
@[simp] theorem State.record_v (r : Record) : (s.record r).v = s.v := by rw [State.record_eq]
@[simp] theorem State.record_m (r : Record) : (s.record r).m = s.m := by rw [State.record_eq]
@[simp] theorem State.record_dies (r : Record) : (s.record r).dies = s.dies := by rw [State.record_eq]
@[simp] theorem State.record_laneA (r : Record) : (s.record r).laneA = s.laneA := by rw [State.record_eq]
@[simp] theorem State.record_laneB (r : Record) : (s.record r).laneB = s.laneB := by rw [State.record_eq]
@[simp] theorem State.record_laneC (r : Record) : (s.record r).laneC = s.laneC := by rw [State.record_eq]
@[simp] theorem State.record_chanAB (r : Record) : (s.record r).chanAB = s.chanAB := by rw [State.record_eq]
@[simp] theorem State.record_chanBC (r : Record) : (s.record r).chanBC = s.chanBC := by rw [State.record_eq]
@[simp] theorem State.record_chanCA (r : Record) : (s.record r).chanCA = s.chanCA := by rw [State.record_eq]
@[simp] theorem State.record_cyc (r : Record) : (s.record r).cyc = s.cyc := by rw [State.record_eq]
@[simp] theorem State.record_rail (r : Record) : (s.record r).rail = s.rail := by rw [State.record_eq]
@[simp] theorem State.record_fio (r : Record) : (s.record r).fio = s.fio := by rw [State.record_eq]
@[simp] theorem State.record_net (r : Record) : (s.record r).net = s.net := by rw [State.record_eq]
@[simp] theorem State.record_logic (r : Record) : (s.record r).logic = s.logic := by rw [State.record_eq]
@[simp] theorem State.record_pair (r : Record) : (s.record r).pair = s.pair := by rw [State.record_eq]
@[simp] theorem State.record_flt (r : Record) : (s.record r).flt = s.flt := by rw [State.record_eq]
@[simp] theorem State.record_trust (r : Record) : (s.record r).trust = s.trust := by rw [State.record_eq]
@[simp] theorem State.record_upd (r : Record) : (s.record r).upd = s.upd := by rw [State.record_eq]
@[simp] theorem State.record_test (r : Record) : (s.record r).test = s.test := by rw [State.record_eq]

/-! s.event code data -/

@[simp] theorem State.event_pending (code : Nat) (data : List Byte) : (s.event code data).pending = s.pending := State.record_pending _ _
@[simp] theorem State.event_now (code : Nat) (data : List Byte) : (s.event code data).now = s.now := State.record_now _ _
@[simp] theorem State.event_outbox (code : Nat) (data : List Byte) : (s.event code data).outbox = s.outbox := State.record_outbox _ _
@[simp] theorem State.event_freeCtr (code : Nat) (data : List Byte) : (s.event code data).freeCtr = s.freeCtr := State.record_freeCtr _ _
@[simp] theorem State.event_v (code : Nat) (data : List Byte) : (s.event code data).v = s.v := State.record_v _ _
@[simp] theorem State.event_m (code : Nat) (data : List Byte) : (s.event code data).m = s.m := State.record_m _ _
@[simp] theorem State.event_dies (code : Nat) (data : List Byte) : (s.event code data).dies = s.dies := State.record_dies _ _
@[simp] theorem State.event_laneA (code : Nat) (data : List Byte) : (s.event code data).laneA = s.laneA := State.record_laneA _ _
@[simp] theorem State.event_laneB (code : Nat) (data : List Byte) : (s.event code data).laneB = s.laneB := State.record_laneB _ _
@[simp] theorem State.event_laneC (code : Nat) (data : List Byte) : (s.event code data).laneC = s.laneC := State.record_laneC _ _
@[simp] theorem State.event_chanAB (code : Nat) (data : List Byte) : (s.event code data).chanAB = s.chanAB := State.record_chanAB _ _
@[simp] theorem State.event_chanBC (code : Nat) (data : List Byte) : (s.event code data).chanBC = s.chanBC := State.record_chanBC _ _
@[simp] theorem State.event_chanCA (code : Nat) (data : List Byte) : (s.event code data).chanCA = s.chanCA := State.record_chanCA _ _
@[simp] theorem State.event_cyc (code : Nat) (data : List Byte) : (s.event code data).cyc = s.cyc := State.record_cyc _ _
@[simp] theorem State.event_rail (code : Nat) (data : List Byte) : (s.event code data).rail = s.rail := State.record_rail _ _
@[simp] theorem State.event_fio (code : Nat) (data : List Byte) : (s.event code data).fio = s.fio := State.record_fio _ _
@[simp] theorem State.event_net (code : Nat) (data : List Byte) : (s.event code data).net = s.net := State.record_net _ _
@[simp] theorem State.event_logic (code : Nat) (data : List Byte) : (s.event code data).logic = s.logic := State.record_logic _ _
@[simp] theorem State.event_pair (code : Nat) (data : List Byte) : (s.event code data).pair = s.pair := State.record_pair _ _
@[simp] theorem State.event_flt (code : Nat) (data : List Byte) : (s.event code data).flt = s.flt := State.record_flt _ _
@[simp] theorem State.event_trust (code : Nat) (data : List Byte) : (s.event code data).trust = s.trust := State.record_trust _ _
@[simp] theorem State.event_upd (code : Nat) (data : List Byte) : (s.event code data).upd = s.upd := State.record_upd _ _
@[simp] theorem State.event_test (code : Nat) (data : List Byte) : (s.event code data).test = s.test := State.record_test _ _

/-! Lanes and channels -/

@[simp] theorem State.lane_modLane_self (l : Lane) (f : LaneRec → LaneRec) : (s.modLane l f).lane l = f (s.lane l) := by
  cases l <;> rfl

theorem State.lane_modLane_ne {k l : Lane} (h : k ≠ l) (f : LaneRec → LaneRec) : (s.modLane l f).lane k = s.lane k := by
  cases k <;> cases l <;> first | rfl | exact absurd rfl h

theorem State.lane_modLane (k l : Lane) (f : LaneRec → LaneRec) :
    (s.modLane l f).lane k = if k = l then f (s.lane l) else s.lane k := by
  split
  · next h => subst h; exact s.lane_modLane_self k f
  · next h => exact s.lane_modLane_ne h f

@[simp] theorem State.lane_modLanes (l : Lane) (f : Lane → LaneRec → LaneRec) : (s.modLanes f).lane l = f l (s.lane l) := by
  cases l <;> rfl

@[simp] theorem State.chan_modChan_self (c : Chan) (f : ChanRec → ChanRec) : (s.modChan c f).chan c = f (s.chan c) := by
  cases c <;> rfl

theorem State.chan_modChan_ne {k c : Chan} (h : k ≠ c) (f : ChanRec → ChanRec) : (s.modChan c f).chan k = s.chan k := by
  cases k <;> cases c <;> first | rfl | exact absurd rfl h

@[simp] theorem State.lane_begin (t : Time) (k : Lane) : (s.begin t).lane k = s.lane k := by cases k <;> simp [State.lane]
@[simp] theorem State.lane_emit (o : Out) (k : Lane) : (s.emit o).lane k = s.lane k := by cases k <;> simp [State.lane]
@[simp] theorem State.lane_emitAll (l : List Out) (k : Lane) : (s.emitAll l).lane k = s.lane k := by cases k <;> simp [State.lane]
@[simp] theorem State.lane_modChan (c : Chan) (f : ChanRec → ChanRec) (k : Lane) : (s.modChan c f).lane k = s.lane k := by cases k <;> simp [State.lane]
@[simp] theorem State.lane_setDie (d : Die) (x : DieState) (k : Lane) : (s.setDie d x).lane k = s.lane k := by cases k <;> simp [State.lane]
@[simp] theorem State.lane_modPort (p : Port) (f : PortRec → PortRec) (k : Lane) : (s.modPort p f).lane k = s.lane k := by cases k <;> simp [State.lane]
@[simp] theorem State.lane_modSession (sid : Nat) (f : Session → Session) (k : Lane) : (s.modSession sid f).lane k = s.lane k := by cases k <;> simp [State.lane]
@[simp] theorem State.lane_record (r : Record) (k : Lane) : (s.record r).lane k = s.lane k := by cases k <;> simp [State.lane]
@[simp] theorem State.lane_event (code : Nat) (data : List Byte) (k : Lane) : (s.event code data).lane k = s.lane k := by cases k <;> simp [State.lane]
@[simp] theorem State.chan_begin (t : Time) (c : Chan) : (s.begin t).chan c = s.chan c := by cases c <;> simp [State.chan]
@[simp] theorem State.chan_emit (o : Out) (c : Chan) : (s.emit o).chan c = s.chan c := by cases c <;> simp [State.chan]
@[simp] theorem State.chan_modLane (l : Lane) (f : LaneRec → LaneRec) (c : Chan) : (s.modLane l f).chan c = s.chan c := by cases c <;> simp [State.chan]
@[simp] theorem State.chan_record (r : Record) (c : Chan) : (s.record r).chan c = s.chan c := by cases c <;> simp [State.chan]

/-- A state is the same with its lanes put back. -/
theorem State.modLane_eq (l : Lane) (f : LaneRec → LaneRec) :
    s.modLane l f = { s with laneA := (s.modLane l f).laneA, laneB := (s.modLane l f).laneB, laneC := (s.modLane l f).laneC } := by
  cases l <;> rfl

@[simp] theorem State.begin_now (t : Time) : (s.begin t).now = max s.now t := rfl

@[simp] theorem State.begin_outbox (t : Time) : (s.begin t).outbox = [] := rfl

@[simp] theorem State.emit_outbox (o : Out) : (s.emit o).outbox = s.outbox ++ [o] := rfl

end Sys2Proof.Machine
end

