-- ==== Sys2Proof/Laws/Reports.lean ====
section
/-! SUPPORT. What a report does in full where it acts at its class's baseline level. -/

namespace Sys2Proof.Machine

/-- The Stop Bath after an occurrence at a level (R370, R380). -/
def StopBath.struck (b : StopBath) (n v : Nat) : StopBath :=
  { b with sticky := b.sticky ||| srcBit n, shadowed := b.shadowed &&& ~~~srcBit n, levels := setKey b.levels n v }

theorem classOf_mem {n : Nat} {c : SrcClass} (h : classOf n = some c) : c.sources.getLsbD n = true := by
  simpa using List.find?_some h

theorem StopBath.levelOf_clear {b : StopBath} {c : SrcClass} (n : Nat) (h : b.sticky &&& ~~~b.shadowed &&& c.sources = 0) :
    b.levelOf c n = c.base := by
  unfold StopBath.levelOf; rw [h]; simp

/-- An occurrence at the baseline level (R377, R380). -/
theorem StopBath.report_clear {b : StopBath} {n : Nat} {c : SrcClass} (hc : classOf n = some c)
    (h : b.sticky &&& ~~~b.shadowed &&& c.sources = 0) : b.report c n false = (b.struck n c.base, some c.base) := by
  have hb : (b.sticky.getLsbD n && !b.shadowed.getLsbD n) = false := by
    have hn := classOf_mem hc
    have lt : n < 512 := Nat.lt_of_not_le fun q => by rw [BitVec.getLsbD_of_ge _ _ q] at hn; cases hn
    have := congrArg (fun v => v.getLsbD n) h
    simp only [BitVec.getLsbD_and, BitVec.getLsbD_not, hn, lt, decide_true, Bool.true_and,
      Bool.and_true] at this
    rw [this]; exact BitVec.getLsbD_zero
  simp only [StopBath.report, StopBath.levelOf_clear n h, hb, StopBath.struck]
  rfl

theorem State.modLane_congr {s : State} {l : Lane} {f g : LaneRec → LaneRec} (h : f (s.lane l) = g (s.lane l)) :
    s.modLane l f = s.modLane l g := by
  unfold State.modLane; rw [h]

theorem State.noteFound_eq (s : State) (n : Nat) (seen : List Lane) :
    s.noteFound n seen = { s with test := (s.noteFound n seen).test } := rfl

theorem State.repeatReport_eq (s : State) (n : Nat) (lanes : List Lane) :
    s.repeatReport n lanes = { s with neg := (s.repeatReport n lanes).neg } := by
  unfold State.repeatReport
  dsimp only
  split
  · split
    · rw [State.record_eq]
    · rfl
  · rfl

/-- With no call and no lack of votes, judging changes nothing (R373, R382). -/
theorem State.judge_calm {s : State} (src : Nat) (h1 : ∀ l, (s.lane l).calls = 0) (h2 : s.bothDiesLost = false)
    (h3 : s.alive = false ∨ s.flt.safelight.on = true ∨ 2 ≤ s.votes) : s.judge src = s := by
  have hc : s.calledLevel = 0 := by
    have f3 : (s.voting.filter fun l => decide (3 ≤ (s.lane l).calls)) = [] := by simp [h1]
    have f4 : (s.voting.filter fun l => decide (4 ≤ (s.lane l).calls)) = [] := by simp [h1]
    simp [State.calledLevel, f3, f4]
  unfold State.judge
  have h0 : (3 ≤ 0) = False := by simp
  simp only [h2, hc, Bool.false_eq_true, if_false, h0]
  rw [if_neg]
  rcases h3 with h | h | h
  · simp [h]
  · simp [h]
  · simp [Nat.not_lt.mpr h]

theorem exists_class {n code base : Nat} (h : rankOf n = some (code, base)) :
    ∃ c, classOf n = some c ∧ c.code = code ∧ c.base = base := by
  unfold rankOf at h
  cases e : classOf n with
  | none => rw [e] at h; cases h
  | some c => rw [e] at h; cases h; exact ⟨c, rfl, rfl, rfl⟩

theorem State.votes_of {x s : State} (h : ∀ l, (x.lane l).phase = (s.lane l).phase) : x.votes = s.votes := by
  have : x.isVoting = s.isVoting := funext fun l => by simp only [State.isVoting, h]
  simp only [State.votes, State.voting, this]

@[simp] theorem State.startRepeats_lane (x : State) (n : Nat) (k : Lane) : (x.startRepeats n).lane k = x.lane k := by
  cases k <;> rfl

@[simp] theorem State.noteFound_lane (x : State) (n : Nat) (l : List Lane) (k : Lane) :
    (x.noteFound n l).lane k = x.lane k := by
  cases k <;> rfl

/-- What judging looks at has not changed since a calm state. -/
theorem State.judge_like {s x : State} (n : Nat) (hc : s.calm) (hh : s.heldWithout none)
    (h1 : ∀ l, (x.lane l).calls = 0) (h2 : x.votes = s.votes) (h3 : x.dies = s.dies) (h4 : x.v = s.v) (h5 : x.flt = s.flt) :
    x.judge n = x := by
  have ha : x.alive = s.alive := by simp [State.alive, h4]
  refine State.judge_calm n h1 ?_ ?_
  · rw [← hc.2.1]; simp [State.bothDiesLost, State.dieOut, ha, h3, h5]
  · rw [ha, h5, h2]; rw [State.heldWithout, List.filter_eq_self.2 (by simp)] at hh; exact hh

/-- The FAULT record of a report. -/
def faultRecord (n level : Nat) (c : SrcClass) (lanes : List Lane) (escalated : Bool) (det : List Byte) : Record :=
  { kind := 1, level := level, source := BitVec.ofNat 16 n, cls := BitVec.ofNat 8 c.code, lanes := laneMask lanes,
    escalated := escalated, detail := det }

/-- A lane's own source names no channel (R16, R27). -/
theorem channelVictim_own {n : Nat} (h : ownLane n = true) : channelVictim n = none := by
  unfold channelVictim
  split
  · subst_vars; cases h
  split
  · subst_vars; cases h
  split
  · subst_vars; cases h
  · rfl

/-- A lane's own source stands in no other lane (R16). -/
theorem State.markAside_own {s : State} {n : Nat} {c : SrcClass} (h : ownLane n = true) : s.markAside c n = s := by
  unfold State.markAside; rw [if_pos h]

/-- Without a bit set already, an own source withdraws no lane again (R182). -/
theorem State.withdrawAgain_none {s : State} {n : Nat} (h : ownLane n = true) : s.withdrawAgain n [] = s := by
  unfold State.withdrawAgain; simp [channelVictim_own h, h]

/-- A report of one lane's source at its baseline level, whole (R370, R372, R390). -/
theorem State.report_own {s : State} {n : Nat} {l : Lane} {c : SrcClass} (det : List Byte) (hc : classOf n = some c)
    (ho : ownLane n = true) (hl : (s.lane l).phase.live = true) (hb : s.baseline l n) (hi : s.flt.injection = none) :
    s.report n [l] det =
      let s1 := (s.noteFound n [l]).modLane l fun r => { r with bath := r.bath.struck n c.base }
      let fourth : Bool := c.base = 1 && match blockOf n l with
        | some b => s1.fourthReset b
        | none => false
      let s2 := s1.record (faultRecord n (if fourth then 2 else c.base) c [l] fourth det)
      ((s2.reactLane n c.base c.base l).startRepeats n).judge n := by
  have hr := StopBath.report_clear hc (hb.2 c hc)
  have e1 : ((s.noteFound n [l]).lane l) = s.lane l := by cases l <;> rfl
  have e2 : ∀ k, (s.noteFound n [l]).shadowMask k = s.shadowMask k := fun k => rfl
  have inj : s.injected n [l] = false := by simp [State.injected, hi]
  unfold State.report
  rw [hc]
  simp only [ho, if_true, List.filter_cons, hl, List.filter_nil, inj, State.markAside_own ho, List.foldl_cons,
    List.foldl_nil, e2, hb.1, Bool.false_eq_true, if_false, List.map_cons, List.map_nil]
  have e3 : ((s.noteFound n [l]).modLane l fun r => r) = s.noteFound n [l] := by cases l <;> rfl
  simp only [e3, e1, e2, hb.1, hr]
  rw [State.modLane_congr (s := s.noteFound n [l]) (g := fun r => { r with bath := r.bath.struck n c.base }) (by rw [e1])]
  simp [faultRecord, State.withdrawAgain_none ho] <;> rfl

/-! Records -/

/-- A record outside the bucket joins the queue unless the Negative is closed (R393). -/
theorem State.record_unlimited {s : State} {r : Record} (hc : s.neg.closed = false) (hr : r.limited = false) :
    s.record r = { s with neg := { s.neg.refilled s.now with queue := s.neg.queue ++ [s.fillRecord r] } } := by
  have h : (s.neg.refilled s.now).closed = false := hc
  unfold State.record
  dsimp only
  rw [if_neg (by simp [h]), if_neg (by simp [hr])]
  rfl

/-- A record that draws on the bucket joins the queue while there is a token and room (R393). -/
theorem State.record_limited {s : State} {r : Record} (h : s.recording s.now) (hr : r.limited = true) :
    s.record r = { s with neg := { s.neg.refilled s.now with
      tokens := (s.neg.refilled s.now).tokens - 1, queue := s.neg.queue ++ [s.fillRecord r] } } := by
  have h1 : (s.neg.refilled s.now).closed = false := h.1
  have h2 : (s.neg.refilled s.now).queue = s.neg.queue := rfl
  unfold State.record
  dsimp only
  rw [if_neg (by simp [h1]), if_pos hr, if_neg]
  · rfl
  · have := h.2.1
    have := h.2.2
    simp only [h2, Bool.or_eq_true, decide_eq_true_eq]
    omega

theorem State.queue_limited {s : State} {r : Record} (h : s.recording s.now) (hr : r.limited = true) :
    (s.record r).neg.queue = s.neg.queue ++ [s.fillRecord r] := by rw [State.record_limited h hr]

theorem State.queue_unlimited {s : State} {r : Record} (h : s.neg.closed = false) (hr : r.limited = false) :
    (s.record r).neg.queue = s.neg.queue ++ [s.fillRecord r] := by rw [State.record_unlimited h hr]

theorem fill_isFault (s : State) (n level : Nat) (c : SrcClass) (lanes : List Lane) (esc : Bool) (det : List Byte) :
    (s.fillRecord (faultRecord n level c lanes esc det)).isFault n level (laneMask lanes) := ⟨rfl, rfl, rfl, rfl⟩

/-! Withdrawal -/

/-- What a withdrawal does in full to a lane (R182, R199). -/
theorem State.withdrawOne_live {s : State} {l : Lane} (src : Nat) (h : (s.lane l).phase.live = true) :
    s.withdrawOne l src = (s.withdrawalRecord l src).modLane l (stopLane src s.now) := by
  unfold State.withdrawOne; rw [if_pos h]

/-- Two states that differ in their lanes and in the Negative only. -/
def State.alikeBut (s u : State) : Prop :=
  u = { s with laneA := u.laneA, laneB := u.laneB, laneC := u.laneC, neg := u.neg }

theorem State.alikeBut.trans {a b c : State} (h : a.alikeBut b) (k : b.alikeBut c) : a.alikeBut c := by
  unfold State.alikeBut at *
  rw [k, h]

theorem State.alikeBut_modLane (s : State) (l : Lane) (f : LaneRec → LaneRec) : s.alikeBut (s.modLane l f) := by
  cases l <;> rfl

theorem State.alikeBut_record (s : State) (r : Record) : s.alikeBut (s.record r) := by
  unfold State.alikeBut; rw [State.record_eq]

theorem State.alikeBut_withdrawOne (s : State) (l : Lane) (n : Nat) : s.alikeBut (s.withdrawOne l n) := by
  unfold State.withdrawOne
  split
  · exact (State.alikeBut_record _ _).trans (State.alikeBut_modLane _ _ _)
  · rfl

theorem State.alikeBut_loseSource (s : State) (k : Lane) : s.alikeBut (s.loseSource k) := by
  unfold State.loseSource
  split
  · dsimp only
    exact ((State.alikeBut_modLane s k _).trans (State.alikeBut_record _ _)).trans (State.alikeBut_withdrawOne _ _ _)
  · rfl

/-- A lane that loses its source stops; another lane stays as it is (R199, R202). -/
theorem State.lane_loseSource (s : State) (j k : Lane) :
    (s.loseSource k).lane j = s.lane j ∨
      (j = k ∧ (s.lane j).phase = .resync ∧ ((s.loseSource k).lane j).phase = .withdrawn ∧ ((s.loseSource k).lane j).calls = 0) := by
  unfold State.loseSource
  split
  · next h =>
    dsimp only
    have hl : ((State.record (s.modLane k fun r => { r with
      bath.sticky := r.bath.sticky ||| srcBit 0x044, bath.levels := setKey r.bath.levels 0x044 2 })
      { kind := 1, level := 2, source := 0x044, cls := 0x10, lanes := laneMask [k], detail := codeDetail 0 0 }).lane k).phase.live = true := by
      simp [h, LanePhase.live]
    rw [State.withdrawOne_live _ hl]
    by_cases e : j = k
    · subst e; right; simp [State.withdrawalRecord, h, stopLane]
    · left; simp [State.lane_modLane_ne _ e, State.withdrawalRecord]
  · exact .inl rfl

/-- The scribe's queue only grows (R388). -/
theorem State.queue_record (s : State) (r : Record) : ∃ x, (s.record r).neg.queue = s.neg.queue ++ x := by
  unfold State.record
  have h : (s.neg.refilled s.now).queue = s.neg.queue := rfl
  dsimp only
  split
  · exact ⟨[], by simp⟩
  split
  · split
    · exact ⟨[], by simp [h]⟩
    · exact ⟨_, by simp [h]; rfl⟩
  · exact ⟨_, by simp [h]; rfl⟩

theorem State.queue_loseSource (s : State) (k : Lane) : ∃ x, (s.loseSource k).neg.queue = s.neg.queue ++ x := by
  unfold State.loseSource
  split
  · dsimp only
    unfold State.withdrawOne
    obtain ⟨x, hx⟩ := State.queue_record (s.modLane k fun r => { r with
      bath.sticky := r.bath.sticky ||| srcBit 0x044, bath.levels := setKey r.bath.levels 0x044 2 })
      { kind := 1, level := 2, source := 0x044, cls := 0x10, lanes := laneMask [k], detail := codeDetail 0 0 }
    split
    · rw [State.modLane_neg]
      unfold State.withdrawalRecord
      obtain ⟨y, hy⟩ := State.queue_record (State.record (s.modLane k fun r => { r with
        bath.sticky := r.bath.sticky ||| srcBit 0x044, bath.levels := setKey r.bath.levels 0x044 2 })
        { kind := 1, level := 2, source := 0x044, cls := 0x10, lanes := laneMask [k], detail := codeDetail 0 0 }) _
      exact ⟨x ++ y, by rw [hy, hx]; simp⟩
    · exact ⟨x, by rw [hx]; simp⟩
  · exact ⟨[], by simp⟩

/-- A withdrawal, whole (R182, R199, R202). -/
theorem State.withdraw_live {s : State} {l : Lane} (n : Nat) (h : (s.lane l).phase.live = true) :
    s.alikeBut (s.withdraw l n) ∧ (s.withdraw l n).lane l = stopLane n s.now (s.lane l) ∧
    (∀ k, k ≠ l → (s.withdraw l n).lane k = s.lane k ∨
      ((s.lane k).phase = .resync ∧ ((s.withdraw l n).lane k).phase = .withdrawn ∧ ((s.withdraw l n).lane k).calls = 0)) ∧
    (∃ x, (s.withdraw l n).neg.queue = (s.withdrawalRecord l n).neg.queue ++ x) := by
  have key : ∀ u : State, s.alikeBut u → u.lane l = stopLane n s.now (s.lane l) →
      (∀ k, k ≠ l → u.lane k = s.lane k ∨
        ((s.lane k).phase = .resync ∧ (u.lane k).phase = .withdrawn ∧ (u.lane k).calls = 0)) →
      (∃ x, u.neg.queue = (s.withdrawalRecord l n).neg.queue ++ x) → ∀ j, 
      s.alikeBut (u.loseSource j) ∧ (u.loseSource j).lane l = stopLane n s.now (s.lane l) ∧
      (∀ k, k ≠ l → (u.loseSource j).lane k = s.lane k ∨
        ((s.lane k).phase = .resync ∧ ((u.loseSource j).lane k).phase = .withdrawn ∧ ((u.loseSource j).lane k).calls = 0)) ∧
      (∃ x, (u.loseSource j).neg.queue = (s.withdrawalRecord l n).neg.queue ++ x) := by
    intro u h1 h2 h3 ⟨x, h4⟩ j
    refine ⟨h1.trans (u.alikeBut_loseSource j), ?_, fun k hk => ?_, ?_⟩
    · rcases u.lane_loseSource l j with q | ⟨-, q, -⟩
      · rw [q, h2]
      · rw [h2] at q; cases q
    · rcases u.lane_loseSource k j with q | ⟨-, q, q2, q3⟩
      · rw [q]; exact h3 k hk
      · rcases h3 k hk with p | ⟨p, -⟩
        · rw [p] at q; exact .inr ⟨q, q2, q3⟩
        · exact .inr ⟨p, q2, q3⟩
    · obtain ⟨y, hy⟩ := u.queue_loseSource j
      exact ⟨x ++ y, by rw [hy, h4]; simp⟩
  have base : s.alikeBut (s.withdrawOne l n) ∧ (s.withdrawOne l n).lane l = stopLane n s.now (s.lane l) ∧
      (∀ k, k ≠ l → (s.withdrawOne l n).lane k = s.lane k ∨
        ((s.lane k).phase = .resync ∧ ((s.withdrawOne l n).lane k).phase = .withdrawn ∧ ((s.withdrawOne l n).lane k).calls = 0)) ∧
      (∃ x, (s.withdrawOne l n).neg.queue = (s.withdrawalRecord l n).neg.queue ++ x) := by
    rw [State.withdrawOne_live n h]
    refine ⟨(State.alikeBut_record _ _).trans (State.alikeBut_modLane _ _ _), ?_, fun k hk => .inl ?_, ⟨[], by simp⟩⟩
    · simp [State.withdrawalRecord]
    · rw [State.lane_modLane_ne _ hk]; simp [State.withdrawalRecord]
  unfold State.withdraw
  dsimp only
  split
  · obtain ⟨a1, a2, a3, a4⟩ := base
    obtain ⟨b1, b2, b3, b4⟩ := key _ a1 a2 a3 a4 .a
    obtain ⟨c1, c2, c3, c4⟩ := key _ b1 b2 b3 b4 .b
    exact key _ c1 c2 c3 c4 .c
  · exact base

end Sys2Proof.Machine
end

