-- ==== Sys2Proof/Tests/Slice0.lean ====
section
/-! SUPPORT. Own tests: what well-formedness refuses, values that the manual gives, and for every statement with
hypotheses a state and operands that meet them together. -/

namespace Sys2Proof.Tests

-- one theorem at a time: the kernel's evaluations here do not share the machine
set_option Elab.async false

open Sys2Proof Sys2Proof.Machine

/-! States and small facts for the witnesses -/

theorem lanes {P : Lane → Prop} (h : P .a ∧ P .b ∧ P .c) : ∀ l, P l
  | .a => h.1
  | .b => h.2.1
  | .c => h.2.2

theorem chans {P : Chan → Prop} (h : P .ab ∧ P .bc ∧ P .ca) : ∀ l, P l
  | .ab => h.1
  | .bc => h.2.1
  | .ca => h.2.2

/-- Nothing is called for, armed, lost or remembered by any Stop Bath, and no block is in reset. -/
def clean (s : State) : Bool :=
  Lane.all.all (fun l => (s.lane l).calls = 0 && (s.lane l).bath.sticky = 0) && !s.bothDiesLost && s.flt.injection.isNone &&
  s.dies.resets.isEmpty && s.test.isNone && s.neg.queue.isEmpty && !s.neg.closed && 0 < (s.neg.refilled s.now).tokens

/-- A lane of a module in RUN. -/
def lane (phase : LanePhase) : LaneRec := { phase := phase, pi := 80, boundary := 1000000000 }

/-- An unpaired module in COMMISSIONING, 1 s after its start, at the boundary of cycle 20. -/
def up : State :=
  { now := 1000000000, laneA := lane .voting, laneB := lane .voting, laneC := lane .voting,
    v := { power := { phase := .running, feedA := true, feedB := true, charge := 100, lowSupply := false, within := some 0 } },
    dies := { kUp := true, die1 := .up, die2 := .up },
    cyc := { cycle := 20, phase := .expose, start := 1000000000, visit := 7 },
    pair := { epochKnown := 1, epochOwn := 1, roleSettled := true },
    trust := { cfg := { lifecycle := .commissioning } }, upd := { boot := { committedHash := 77 } },
    flt := { persistent := { epoch := 1 } },
    m := { boot1 := { committedHash := 77 }, boot2 := { committedHash := 77 }, lamp1 := { epoch := 1 }, lamp2 := { epoch := 1 } } }

/-- The instant after it. -/
def t1 : Time := 1000000001

theorem calm_of {s : State} (h : clean s = true) : s.calm := by
  simp only [clean, Lane.all, List.all_cons, List.all_nil, Bool.and_eq_true, decide_eq_true_eq, Bool.not_eq_true',
    Option.isNone_iff_eq_none] at h
  obtain ⟨⟨⟨⟨⟨⟨⟨⟨ha, hb, hc, _⟩, hd⟩, hi⟩, _⟩, _⟩, _⟩, _⟩, _⟩ := h
  exact ⟨lanes ⟨ha.1, hb.1, hc.1⟩, hd, hi⟩

theorem shadow_none {s : State} (h : s.dies.resets = []) (l : Lane) (n : Nat) : (s.shadowMask l).getLsbD n = false := by
  rw [State.shadowMask, h]; simp

theorem baseline_of {s : State} (h : clean s = true) (l : Lane) (n : Nat) : s.baseline l n := by
  simp only [clean, Lane.all, List.all_cons, List.all_nil, Bool.and_eq_true, decide_eq_true_eq, Bool.not_eq_true',
    Option.isNone_iff_eq_none, List.isEmpty_iff] at h
  obtain ⟨⟨⟨⟨⟨⟨⟨⟨ha, hb, hc, _⟩, _⟩, _⟩, hr⟩, _⟩, _⟩, _⟩, _⟩ := h
  have hs : (s.lane l).bath.sticky = 0 := lanes (P := fun l => (s.lane l).bath.sticky = 0) ⟨ha.2, hb.2, hc.2⟩ l
  exact ⟨shadow_none hr l n, fun c _ => by rw [hs]; simp⟩

theorem held_of {s : State} (h : s.voting = Lane.all) (gone : Option Lane) : s.heldWithout gone := by
  refine .inr (.inr ?_)
  rw [h]
  rcases gone with _ | _ | _ | _ <;> decide

theorem baseline_at {s : State} {l : Lane} (hs : (s.lane l).bath.sticky = 0) (hr : s.dies.resets = []) (n : Nat) : s.baseline l n :=
  ⟨shadow_none hr l n, fun c _ => by rw [hs]; simp⟩

theorem hash_ne (h : Hash) : h + 1 ≠ h := by bv_omega

/-- A logic image with an output, an input and a paired output, active in bank 0. -/
def img : Image := { channels := [{ mode := .output }, { mode := .input }, { mode := .paired }] }

def loaded : State := { up with logic := { bank0 := { state := .active, image := img } } }

/-! The queue; checkers within a lane -/

theorem witness_StepRunsFrontCommand :
    ∃ (c : Instr) (rest : List Instr) (s : State), s.pending = c :: rest :=
  ⟨.exposeClose 5, [.joinTimeout 6], { up with pending := [.exposeClose 5, .joinTimeout 6] }, rfl⟩

theorem witness_EmptyQueueIdles : up.pending = [] := rfl

/-- A word whose check bits do not match is found by its read, at one of the sources of R17, whatever the code is. -/
theorem sram_found (s : State) (t : Time) (l : Lane) (a : BitVec 22) (w : W64) :
    ∃ n ∈ [0x010, 0x011, 0x012], s.finding (.sramReadError t l ⟨a, w, Config.sramCheck w a + 1⟩) = some (l, n) := by
  have h : Config.sramCheck w a + 1 ≠ Config.sramCheck w a := by bv_omega
  simp only [State.finding, sramOutcome, h, if_false]
  split
  · exact ⟨0x010, by decide, rfl⟩
  · split
    · exact ⟨0x011, by decide, rfl⟩
    · exact ⟨0x012, by decide, rfl⟩

theorem witness_LaneErrorNoted :
    ∃ (s : State) (l : Lane) (c : Instr), s.finding c = some (l, 0x013) ∧ (s.lane l).phase.live = true ∧ (∀ n, s.baseline l n) ∧
      s.calm ∧ s.heldWithout none ∧ (∀ t, t ≤ s.now → s.recording (max s.now t)) :=
  ⟨up, .a, .cacheParityError 0 .a ⟨true, false⟩ 5, rfl, rfl, baseline_of (by decide +kernel) .a, calm_of (by decide +kernel),
    .inr (.inr (by decide +kernel)), fun t h => by rw [Nat.max_eq_left h]; exact ⟨rfl, by decide +kernel, by decide +kernel⟩⟩

theorem witness_LaneFaultWithdraws :
    ∃ (s : State) (l : Lane), (s.lane l).phase.live = true ∧ (∀ n, s.baseline l n) ∧ s.calm ∧ s.heldWithout (some l) ∧
      (∀ t, t ≤ s.now → s.recording (max s.now t)) ∧
      s.finding (.coreSupplyLow 1 l 10001) = some (l, 0x022) ∧
      s.finding (.corePairMismatch 1 l .word .mismatch .mismatch) = some (l, 0x003) ∧
      s.finding (.corePairMismatch 1 l .store .matched .mismatch) = some (l, 0x004) ∧
      s.finding (.loupeProbe 1 l .mismatch .matched false) = some (l, 0x005) ∧
      s.finding (.latentBufferFault 1 l { value := 0, index := 3, check := 0 } 4) = some (l, 0x006) ∧
      s.finding (.staticRegionScanEnd 1 l true 6) = some (l, 0x011) :=
  ⟨{ up with laneB := { lane .voting with refLogic := some 5 } }, .b, rfl, baseline_of (by decide +kernel) .b,
    calm_of (by decide +kernel), .inr (.inr (by decide +kernel)),
    fun t h => by rw [Nat.max_eq_left h]; exact ⟨rfl, by decide +kernel, by decide +kernel⟩,
    rfl, rfl, rfl, rfl, by simp [State.finding], by decide +kernel⟩

theorem witness_CheckersThatPass :
    (∃ e : LatentEntry, e.check = Config.latentCheck e.value e.index) ∧ (10000 ≤ 10000) ∧
    (∃ a w, sramOutcome a w (Config.sramCheck w a) = .matches) ∧ (∃ w : RailWord, w.data.isSome = true) ∧
    (∃ w : RailWord, w.data = none) ∧
    ∃ (s : State) (v w : W64) (l : Lane) (count : Nat), (s.lane l).refLogic = some v ∧ (s.lane l).refFirmware = some w ∧
      s.flt.injection = none ∧ (s.lane l).phase ≠ .down ∧ 64 ≤ min 255 (64 * count / Config.cFloor l) :=
  ⟨⟨{ value := 7, index := 1, check := Config.latentCheck 7 1 }, rfl⟩, Nat.le_refl _, ⟨3, 5, by simp [sramOutcome]⟩,
    ⟨railWord 5, by simp [RailWord.data, railWord]⟩, ⟨{ railWord 5 with dataTrue := 0xFFFFFFFF }, by decide +kernel⟩,
    { up with laneA := { lane .voting with refLogic := some 5, refFirmware := some 6 } }, 5, 6, .a, Config.cFloor .a, rfl, rfl, rfl,
    by decide +kernel, by
      rw [show 64 * Config.cFloor .a / Config.cFloor .a = 64 from Nat.mul_div_cancel 64 (Nat.succ_pos _)]; decide⟩

theorem witness_PaceAndTimebase :
    (∃ (s : State) (l k : Lane), min 255 (64 * 0 / Config.cFloor l) < 64 ∧ min 255 (64 * 0 / Config.cFloor k) < 64 ∧
      (s.lane l).phase.live = true ∧ (s.lane k).phase.live = true ∧ s.calm ∧ 2 ≤ (s.lane l).piLow ∧ s.baseline l 0x021 ∧
      s.heldWithout (some l) ∧ (s.lane k).piLow < 2 ∧ s.baseline k 0x020 ∧ s.heldWithout none) ∧
    (∃ (s : State) (l : Lane) (x : Lane → Ticks), s.calm ∧ s.heldWithout (some l) ∧ (∀ k, (s.lane k).phase = .voting) ∧
      s.baseline l 0x024 ∧ (∀ k, k ≠ l → 500 < (x l - x k) + (x k - x l)) ∧
      ∀ j k, j ≠ l → k ≠ l → (x j - x k) + (x k - x j) ≤ 500) ∧
    (∃ (s : State) (x : Lane → Ticks) (j k : Lane), s.voting = [j, k] ∧ s.alive = true ∧ s.flt.safelight.on = false ∧
      (∀ l, (s.lane l).phase ≠ .probation) ∧ 500 < (x j - x k) + (x k - x j)) :=
  ⟨⟨{ up with laneA := { lane .voting with piLow := 2 }, laneB := { lane .voting with piLow := 1 } }, .a, .b,
      by simp, by simp, rfl, rfl, calm_of (by decide +kernel), by decide +kernel, baseline_of (by decide +kernel) _ _,
      .inr (.inr (by decide +kernel)), by decide +kernel, baseline_of (by decide +kernel) _ _, .inr (.inr (by decide +kernel))⟩,
    ⟨up, .a, fun l => match l with | .a => 501 | .b => 0 | .c => 0, calm_of (by decide +kernel), .inr (.inr (by decide +kernel)),
      lanes (by decide +kernel), baseline_of (by decide +kernel) _ _, lanes (by decide +kernel),
      lanes ⟨lanes (by decide +kernel), lanes (by decide +kernel), lanes (by decide +kernel)⟩⟩,
    ⟨{ up with laneC := lane .withdrawn }, fun l => match l with | .a => 1001 | .b => 500 | .c => 0, .a, .b, by decide +kernel,
      by decide +kernel, rfl, lanes (by decide +kernel), by decide +kernel⟩⟩

theorem witness_EngineFaultResetsEngine :
    ∃ (s : State) (l : Lane) (wrong : BitVec 5), wrong ≠ 0 ∧ (s.lane l).phase.live = true ∧ s.baseline l 0x030 ∧
      s.baseline l 0x031 ∧ s.calm ∧ s.heldWithout none ∧ (s.begin t1).fourthReset (.engine l false) = false ∧
      (s.begin t1).fourthReset (.engine l true) = false :=
  ⟨up, .c, 16, by decide, rfl, baseline_of (by decide +kernel) _ _, baseline_of (by decide +kernel) _ _,
    calm_of (by decide +kernel), .inr (.inr (by decide +kernel)), by decide +kernel, by decide +kernel⟩

theorem witness_ChannelErrors :
    (∃ (s : State) (ch : Chan), (s.chan ch).error = false ∧ s.calm ∧ s.heldWithout none ∧
      ∀ l, (s.lane l).phase.live = true ∧ s.baseline l (0x060 + Chan.idx ch)) ∧
    (∃ (s : State), ∀ (ch : Chan) (victim : Lane), (ch, victim) ∈ [(Chan.ab, Lane.b), (Chan.bc, Lane.c), (Chan.ca, Lane.a)] →
      (s.chan ch).faulted = false ∧ 2 ≤ (s.chan ch).run ∧ (s.chan ch).error = true ∧ s.calm ∧
      s.heldWithout (some victim) ∧ ∀ l, (s.lane l).phase = .voting ∧ s.baseline l (0x063 + Chan.idx ch)) :=
  ⟨⟨up, .ab, rfl, calm_of (by decide +kernel), .inr (.inr (by decide +kernel)),
      fun l => ⟨by cases l <;> rfl, baseline_of (by decide +kernel) _ _⟩⟩,
    ⟨{ up with chanAB := { error := true, run := 2 }, chanBC := { error := true, run := 2 }, chanCA := { error := true, run := 2 } },
      fun ch victim _ => ⟨by cases ch <;> rfl, by cases ch <;> decide, by cases ch <;> rfl, calm_of (by decide +kernel),
        held_of (by decide +kernel) _, fun l => ⟨by cases l <;> rfl, baseline_of (by decide +kernel) _ _⟩⟩⟩⟩

/-! Lanes coming back -/

/-- Lane C resynchronises from two others, its snapshot of two words taken and compared no further than it says. -/
def coming (x : Resync) : State := { up with laneC := { lane .resync with resync := { x with snapped := true, snapshot := 1, words := [7, 8] } } }

theorem witness_LaneComesBack :
    (∃ (s : State) (t : Time) (l : Lane), s.alive = true ∧ (s.begin t).suppliesGood = true ∧ (s.lane l).phase = .down ∧ s.loads = true) ∧
    (∃ (s : State) (t : Time) (l : Lane), s.v.power.phase = .joining ∧ (s.begin t).suppliesGood = true ∧ (s.lane l).phase = .down) ∧
    (∃ (s : State) (l : Lane), s.loads = true ∧ (s.lane l).phase = .loading) ∧
    (∃ (s : State) (l k : Lane), k ≠ l ∧ s.joins l k = true ∧ s.loads = true ∧ (s.lane l).phase.live = true ∧ (s.lane k).phase.live = true) ∧
    (∃ (s : State) (l k : Lane) (w : List W32), (s.lane l).phase = .resync ∧ (s.lane l).resync.snapped = true ∧
      (s.lane l).resync.agreed = false ∧ ((s.lane l).resync.copy k).length = 0 ∧ k ∈ s.voting ∧
      0 + w.length < (s.lane l).resync.words.length) ∧
    (∃ (s : State) (l j k : Lane) (v w : List W32), (s.lane l).phase = .resync ∧ (s.lane l).resync.snapped = true ∧
      (s.lane l).resync.agreed = false ∧ ((s.lane l).resync.copy k).length = 1 ∧ j ≠ k ∧ s.voting = [j, k] ∧
      (s.lane l).resync.words.length ≤ ((s.lane l).resync.copy j).length ∧ (s.lane l).resync.words.length ≤ 1 + w.length ∧
      (s.lane l).resync.copy k ++ w = (s.lane l).resync.copy j ∧ (s.lane l).resync.copy k ++ v ≠ (s.lane l).resync.copy j ∧
      (s.lane l).resync.words.length ≤ 1 + v.length ∧ (s.lane l).resync.askedOnce = false) ∧
    (∃ (s : State) (l j k : Lane) (c : W48) (x y : List W32), (s.lane l).phase = .resync ∧ (s.lane l).resync.snapped = true ∧ j ≠ k ∧
      s.voting = [j, k] ∧ (s.lane l).resync.deltaFrom = [(j, c, x)] ∧ x ≠ y ∧ (s.lane l).resync.deltaAsked = false) ∧
    (∃ (s : State) (l k : Lane) (c : W48), (s.lane l).phase = .resync ∧ (s.lane l).resync.snapped = true ∧ k ∈ s.voting ∧
      ∀ x ∈ (s.lane l).resync.deltaFrom, x.2.1 = c → x.1 = k) ∧
    (∃ (s : State) (l : Lane), (s.lane l).phase = .resync ∧ (s.lane l).resync.agreed = true ∧ ∀ k ∈ s.voting, s.caughtUp l k = true) :=
  ⟨⟨{ up with laneC := lane .down }, t1, .c, by decide +kernel⟩,
    ⟨{ up with laneC := lane .down, v := { up.v with power := { up.v.power with phase := .joining } } }, t1, .c, by decide +kernel⟩,
    ⟨{ up with laneC := lane .loading }, .c, by decide +kernel⟩,
    ⟨{ up with laneA := lane .joining }, .a, .b, by decide +kernel⟩,
    ⟨coming {}, .c, .b, [7], by decide +kernel⟩, ⟨coming { copies := [(.a, [7, 8]), (.b, [7])] }, .c, .a, .b, [9], [8], by decide +kernel⟩,
    ⟨coming { deltaFrom := [(.a, 20, [1])] }, .c, .a, .b, 20, [1], [2], by decide +kernel⟩, ⟨coming {}, .c, .b, 20, by decide +kernel⟩,
    ⟨{ coming { agreed := true, deltaFrom := [(.a, 20, []), (.b, 20, [])] } with cyc := { up.cyc with lastFix := 20 } }, .c,
      by decide +kernel⟩⟩

theorem witness_LaneRestarts :
    (∃ (s : State) (t w : Time) (l : Lane), s.alive = true ∧ s.cyc.start = max s.now t ∧ (s.lane l).phase = .withdrawn ∧
      (s.lane l).withdrawnAt = some w ∧ w + 100000000 ≤ t ∧ (s.lane l).restarts.length < 3 ∧ s.restartable l = true) ∧
    (∃ (s : State) (t w : Time) (l : Lane), s.alive = true ∧ s.cyc.start = max s.now t ∧ (s.lane l).phase = .withdrawn ∧
      (s.lane l).withdrawnAt = some w ∧ w + 100000000 ≤ t ∧ 3 ≤ (s.lane l).restarts.length ∧
      ∀ x ∈ (s.lane l).restarts, max s.now t < x + 86400000000000) :=
  ⟨⟨{ up with laneC := { lane .withdrawn with withdrawnAt := some 900000000, restarts := [5, 6] } }, 1000000000, 900000000, .c,
      by decide +kernel⟩,
    ⟨{ up with laneC := { lane .withdrawn with withdrawnAt := some 900000000, restarts := [5, 6, 7] },
               cyc := { up.cyc with start := 86400000000004 } }, 86400000000004, 900000000, .c, by decide +kernel⟩⟩

theorem witness_LanesJoin :
    (∃ (s : State) (l k : Lane) (fw logic : Hash), k ≠ l ∧ s.v.power.phase = .joining ∧ s.upd.onTrial = false ∧
      (s.lane l).phase = .joining ∧ (s.lane l).joined = false ∧ fw = s.laneImage ∧
      (s.lane k).phase = .joining ∧ (s.lane k).joined = false ∧ (s.lane k).refFirmware.isSome = true ∧
      (s.lane k).fwHash = some fw ∧ (s.lane k).logicHash = some logic ∧ (∀ j, j ≠ l → j ≠ k → (s.lane j).phase = .down) ∧
      (s.lane l).refFirmware = none) ∧
    (∃ (s : State) (l : Lane) (fw : Hash), (s.lane l).phase = .joining ∧ (s.lane l).joined = false ∧
      fw ≠ s.laneImage ∧ s.baseline l 0x044 ∧ s.calm ∧ s.heldWithout (some l)) ∧
    (∃ (s : State) (t w : Time), s.v.power.phase = .joining ∧ s.v.power.loadedAt = some w ∧ w + 1000000000 ≤ t ∧
      s.joinedLanes.length < 2 ∧ s.voting = [] ∧ s.flt.safelight.on = false) :=
  ⟨⟨{ up with v := { power := { phase := .joining } }, laneA := lane .joining, laneC := lane .down,
              laneB := { lane .joining with refFirmware := some 1, fwHash := some (up.laneImage),
                                            logicHash := some 9 } }, .a, .b, up.laneImage, 9,
      by decide +kernel, rfl, rfl, rfl, rfl, rfl, rfl, rfl, rfl, rfl, rfl, lanes (by decide +kernel), rfl⟩,
    ⟨{ up with v := { power := { phase := .joining } }, laneA := lane .joining }, .a,
      up.laneImage + 1, rfl, rfl, hash_ne _, baseline_of (by decide +kernel) _ _,
      calm_of (by decide +kernel), .inl rfl⟩,
    ⟨{ up with v := { power := { phase := .joining, loadedAt := some 1 } }, laneA := { lane .joining with joined := true },
               laneB := lane .joining, laneC := lane .down }, 1000000001, 1, by decide +kernel⟩⟩

/-! The Stop Bath -/

theorem witness_OccurrenceInLane :
    ∃ (s : State) (l : Lane), (s.lane l).phase.live = true ∧ (∀ n, s.baseline l n) ∧ s.calm ∧ s.heldWithout none ∧
      s.heldWithout (some l) ∧ ownLane 0x051 = true ∧ rankOf 0x051 = some (0x01, 0) ∧ ownLane 0x15F = true ∧
      rankOf 0x15F = some (0x04, 0) ∧ ownLane 0x005 = true ∧ rankOf 0x005 = some (0x0D, 2) ∧
      ∃ (s' : State) (n : Fin 512), ownLane n.val = true ∧ n.val ≠ 0x022 ∧ n.val ≠ 0x023 ∧ (s'.lane l).phase.live = true ∧
        (classOf n.val).isSome = true ∧ (s'.lane l).bath.sticky.getLsbD n.val = true ∧
        (s'.lane l).bath.shadowed.getLsbD n.val = false ∧ (s'.shadowMask l).getLsbD n.val = false ∧ s'.calm ∧ s'.heldWithout (some l) ∧
        (s'.lane l).bath.sticky.getLsbD 0x005 = true ∧ (s'.lane l).bath.shadowed.getLsbD 0x005 = false ∧
        (s'.shadowMask l).getLsbD 0x005 = false :=
  ⟨up, .b, rfl, baseline_of (by decide +kernel) .b, calm_of (by decide +kernel), held_of (by decide +kernel) _,
    held_of (by decide +kernel) _, by decide +kernel, by decide +kernel, by decide +kernel, by decide +kernel, by decide +kernel,
    by decide +kernel, { up with laneB := { lane .voting with bath := { sticky := srcBit 0x100 ||| srcBit 0x005 } } }, 0x100,
    by decide, by decide, by decide, rfl, by decide +kernel, by decide +kernel, by decide +kernel, by decide +kernel,
    ⟨lanes (by decide +kernel), by decide +kernel, rfl⟩, held_of (by decide +kernel) _, by decide +kernel⟩

theorem witness_Escalation :
    (∃ (s : State) (n m : Fin 512) (l : Lane), ownLane n.val = true ∧ n.val ≠ 0x022 ∧ n.val ≠ 0x023 ∧
      (classOf n.val).map (·.base) = some 2 ∧ classOf m.val = classOf n.val ∧ n ≠ m ∧ (s.lane l).phase = .voting ∧
      (s.lane l).bath.sticky.getLsbD m.val = true ∧ (s.lane l).bath.shadowed.getLsbD m.val = false ∧
      (s.lane l).bath.sticky.getLsbD n.val = false ∧ (s.shadowMask l).getLsbD n.val = false ∧ s.calm ∧ s.heldWithout none) ∧
    (∃ (s : State) (n : Fin 512), rankOf n.val = some (0x13, 3) ∧ s.calm ∧ 2 ≤ s.votes ∧
      (∀ l, (s.lane l).phase.live = true → s.baseline l n.val) ∧ s.flt.safelight.on = false ∧ s.neg.closed = false) :=
  ⟨⟨{ up with laneA := { lane .voting with bath := { sticky := srcBit 0x001 } } }, 0x000, 0x001, .a, by decide +kernel, by decide,
      by decide, by decide +kernel, by decide +kernel, by decide, rfl, by decide +kernel, by decide +kernel, by decide +kernel,
      by decide +kernel, ⟨lanes (by decide +kernel), by decide +kernel, rfl⟩, held_of (by decide +kernel) _⟩,
    ⟨up, 0x072, by decide +kernel, calm_of (by decide +kernel), by decide +kernel, fun l _ => baseline_of (by decide +kernel) l _,
      rfl, rfl⟩⟩

theorem witness_LockoutSources :
    (∃ (s : State) (t : Time) (l k : Lane) (ch : Fin 96), k ≠ l ∧ (s.lane l).phase = .voting ∧ (s.lane k).phase = .voting ∧
      4 ≤ (s.lane k).calls ∧ s.flt.safelight.on = true ∧ s.flt.safelight.lockout = false ∧ s.flt.persistent.lockout = false ∧
      s.flt.safelight.since + 10000000 ≤ t ∧ (s.image.channel ch.val).mode = .output ∧ (s.lane l).board.raw.getLsbD ch.val = true ∧
      (∀ j ∈ s.voting, (s.lane j).board.cmdSwitches = 0) ∧ s.baseline l 0x16C ∧ s.flt.injection = none ∧ s.bothDiesLost = false) ∧
    (∃ (s : State), s.neg.next = 0xFFFFFFFF ∧ s.neg.closed = false ∧ s.neg.queue ≠ [] ∧ 2 ≤ s.votes ∧ s.flt.injection = none ∧
      s.flt.safelight.lockout = false ∧ s.bothDiesLost = false ∧ (∀ l, (s.lane l).phase.live = true → s.baseline l 0x1E3) ∧
      s.flt.safelight.on = false) :=
  ⟨⟨{ loaded with laneA := { lane .voting with board := { raw := chBit 0 } }, laneB := { lane .voting with calls := 4 },
                  flt := { safelight := { on := true, since := 990000001 } } }, t1, .a, .b, 0, by decide, rfl, rfl, by decide, rfl, rfl,
      rfl, by decide, by decide +kernel, by decide +kernel, by decide +kernel, baseline_at rfl rfl _, rfl, by decide +kernel⟩,
    ⟨{ up with neg := { next := 0xFFFFFFFF, queue := [{ kind := 4 }] } }, rfl, rfl, by decide, by decide +kernel, rfl, rfl,
      by decide +kernel, fun l _ => baseline_at (by cases l <;> rfl) rfl _, rfl⟩⟩

theorem witness_SafelightEnds :
    (∃ (s : State) (t : Time), s.alive = true ∧ s.flt.safelight.on = true ∧ s.flt.safelight.lockout = false ∧
      s.flt.safelight.since + 1000000000 ≤ t ∧ 2 ≤ s.votes ∧
      (∀ l ∈ s.voting, ∀ x ∈ (s.lane l).bath.levels, 3 ≤ x.2 → (s.lane l).bath.sticky.getLsbD x.1 = false) ∧
      (s.begin t).boundaryCycle.isSome = true ∧ s.neg.closed = false) ∧
    (∃ (s : State) (t : Time), max s.now t < s.flt.safelight.since + 1000000000) ∧ (∃ s : State, s.votes < 2) ∧
    (∃ s : State, s.flt.safelight.lockout = true) ∧
    (∃ s : State, ∃ l ∈ s.voting, ∃ x ∈ (s.lane l).bath.levels, 3 ≤ x.2 ∧ (s.lane l).bath.sticky.getLsbD x.1 = true) :=
  ⟨⟨{ up with flt := { safelight := { on := true, since := 50000000 } }, cyc := { up.cyc with start := 1050000000 },
              laneA := { lane .voting with bath := { levels := [(0x072, 3)] } } }, 1050000000, by decide +kernel⟩,
    ⟨{ up with flt := { safelight := { on := true, since := 50000000 } } }, 1049999999, by decide +kernel⟩,
    ⟨State.reset, by decide +kernel⟩, ⟨{ up with flt := { safelight := { on := true, lockout := true } } }, rfl⟩,
    ⟨{ up with laneA := { lane .voting with bath := { sticky := srcBit 0x072, levels := [(0x072, 3)] } } }, .a, by decide +kernel,
      (0x072, 3), by decide +kernel⟩⟩

theorem witness_BlockResets :
    (∃ (s : State) (w : Time) (l : Lane) (second : Bool), s.dies.resets = [(.engine l second, w)] ∧
      ∀ k, (s.lane k).bath.reporting &&& rangeMask 0x030 2 = 0) ∧
    (∃ (s : State) (w : Time) (l : Lane), s.dies.resets = [(.crossing l, w)] ∧
      ∀ k, (s.lane k).bath.reporting &&& (rangeMask 0x050 2 ||| rangeMask 0x100 96 ||| rangeMask 0x160 12) = 0) ∧
    (∃ (s : State) (t w : Time) (l : Lane), s.dies.resets = [(.engine l false, w)] ∧
      s.dies.resetHistory = [(.engine l false, w)] ∧ (s.lane l).phase.live = true ∧ (s.lane l).bath.sticky.getLsbD 0x030 = true ∧
      (s.lane l).bath.reporting.getLsbD 0x030 = true ∧ (s.lane l).bath.reporting.getLsbD 0x031 = false ∧
      (s.lane l).bath.sticky.getLsbD 0x031 = false ∧ s.calm ∧ s.heldWithout none ∧ s.recording (max s.now t)) :=
  ⟨⟨{ up with dies := { up.dies with resets := [(.engine .b true, 1000000000)] } }, 1000000000, .b, true, rfl,
      lanes (by decide +kernel)⟩,
    ⟨{ up with dies := { up.dies with resets := [(.crossing .b, 1000000000)] } }, 1000000000, .b, rfl, lanes (by decide +kernel)⟩,
    ⟨{ up with dies := { up.dies with resets := [(.engine .b false, 1000000000)], resetHistory := [(.engine .b false, 1000000000)] },
               laneB := { lane .voting with bath := { sticky := srcBit 0x030, reporting := srcBit 0x030 } } }, t1, 1000000000, .b,
      rfl, rfl, rfl, by decide +kernel, by decide +kernel, by decide +kernel, by decide +kernel,
      ⟨lanes (by decide +kernel), by decide +kernel, rfl⟩, held_of (by decide +kernel) _,
      ⟨rfl, by decide +kernel, by decide +kernel⟩⟩⟩

theorem witness_ResetsThatFail :
    (∃ (s : State) (t w : Time), s.dies.resets = [(.engine .a true, w)] ∧ w + Block.bound (.engine .a true) ≤ t ∧ s.calm ∧
      s.recording (max s.now t) ∧ (∀ k, (s.lane k).bath.reporting = 0) ∧ (s.lane .a).phase.live = true ∧ s.heldWithout (some .a)) ∧
    (∃ (s : State) (t w : Time), s.dies.resets = [(.crossing .c, w)] ∧ w + Block.bound (.crossing .c) ≤ t ∧ s.calm ∧
      s.recording (max s.now t) ∧ (∀ k, (s.lane k).bath.reporting = 0) ∧ (s.lane .c).phase.live = true ∧ s.heldWithout (some .c)) ∧
    (∃ (s : State) (t w : Time) (p : Port), s.dies.resets = [(.port p, w)] ∧ w + Block.bound (.port p) ≤ t ∧ s.calm ∧
      s.recording (max s.now t) ∧ (∀ k, (s.lane k).bath.reporting = 0) ∧ s.tabled ∧ s.heldWithout none) ∧
    (∃ (s : State) (w : Time) (d : Die) (h h' : Hash), s.dies.resets = [(.die d, w)] ∧ (∀ k, (s.lane k).bath.reporting = 0) ∧
      h = s.netImage ∧ h' ≠ s.netImage ∧
      (∀ e, e ≠ d → s.dieOut e = false) ∧ s.calm ∧ s.heldWithout none ∧
      ∀ l, (s.lane l).phase.live = true → (s.lane l).bath.sticky &&& (srcBit 0x184 ||| srcBit 0x1A4) = 0) :=
  ⟨⟨{ up with dies := { up.dies with resets := [(.engine .a true, 999000000)] } }, 1000000000, 999000000, rfl, by decide,
      ⟨lanes (by decide +kernel), by decide +kernel, rfl⟩, ⟨rfl, by decide +kernel, by decide +kernel⟩, lanes (by decide +kernel),
      rfl, held_of (by decide +kernel) _⟩,
    ⟨{ up with dies := { up.dies with resets := [(.crossing .c, 998000000)] } }, 1000000000, 998000000, rfl, by decide,
      ⟨lanes (by decide +kernel), by decide +kernel, rfl⟩, ⟨rfl, by decide +kernel, by decide +kernel⟩, lanes (by decide +kernel),
      rfl, held_of (by decide +kernel) _⟩,
    ⟨{ up with dies := { up.dies with resets := [(.port (.m 1), 950000000)] } }, 1000000000, 950000000, .m 1, rfl, by decide,
      ⟨lanes (by decide +kernel), by decide +kernel, rfl⟩, ⟨rfl, by decide +kernel, by decide +kernel⟩, lanes (by decide +kernel),
      ⟨rfl, rfl, rfl⟩, held_of (by decide +kernel) _⟩,
    ⟨{ up with dies := { up.dies with die1 := .inReset, resets := [(.die .n1, 900000000)] } }, 900000000, .n1,
      up.netImage, up.netImage + 1, rfl, lanes (by decide +kernel), rfl,
      hash_ne _, fun e h => by cases e <;> first | exact absurd rfl h | rfl, ⟨lanes (by decide +kernel), by decide +kernel, rfl⟩,
      held_of (by decide +kernel) _, lanes (by decide +kernel)⟩⟩

theorem witness_TimeLimitsOfTools :
    (∃ (s : State) (t : Time) (j : Injection), s.flt.injection = some j ∧ j.at_ + 60000000000 ≤ t ∧ s.neg.closed = false) ∧
    (∃ (s : State) (t : Time) (p : Proposal), s.trust.proposal = some p ∧ p.complete = none ∧ p.openedAt + 600000000000 ≤ t) ∧
    (∃ (s : State) (t : Time) (p : Proposal) (w : Time), s.trust.proposal = some p ∧ p.complete = some w ∧
      max s.now t < w + 86400000000000 ∧ w + 86400000000000 ≤ t + 1) :=
  ⟨⟨{ up with flt := { injection := some { source := 0x004, lane := 0, left := 1, at_ := 5 } } }, 60000000005, _, rfl, by decide, rfl⟩,
    ⟨{ up with trust := { proposal := some { id := 1, nonce := 0, lifecycleChange := false, sid := 1, openedAt := 5 } } },
      600000000005, _, rfl, rfl, by decide⟩,
    ⟨{ up with trust := { proposal := some { id := 1, nonce := 0, lifecycleChange := false, sid := 1, openedAt := 5, complete := some 9 } } },
      86400000000008, _, 9, rfl, rfl, by decide, by decide⟩⟩

/-! The Negative and the Densitometer -/

theorem witness_NegativeWritten :
    (∃ (s : State) (r q : Record) (rest : List Record), s.neg.queue = r :: q :: rest ∧ s.scribe.isSome = true ∧
      s.neg.closed = false ∧ s.neg.next ≠ 0xFFFFFFFF ∧ s.writable 0 1 = true ∧ s.writable 0 2 = true ∧ r.kind = 1 ∧ 3 ≤ r.level ∧
      s.neg.bank1.pinned.length < 4096 ∧ s.neg.bank2.pinned.length < 4096 ∧ q.kind = 1 ∧ q.level < 3) ∧
    (∃ (s : State) (r q : Record), s.neg.closed = false ∧ (s.neg.refilled s.now).tokens = 0 ∧ s.neg.suppressed ≠ 0xFFFF ∧
      r.kind = 1 ∧ r.level ≤ 2 ∧ ¬((q.kind = 1 ∧ q.level ≤ 2) ∨ q.kind = 2 ∨ q.kind = 3)) ∧
    (∃ (s : State) (reason : Byte) (rest : List Byte), s.neg.reasons = reason :: rest ∧ s.kWorks = true ∧
      s.trust.erased = false ∧ s.neg.closed = false ∧ s.neg.next.toNat + s.neg.queue.length + 19 < 0xFFFFFFFF ∧
      s.neg.next = s.neg.headNumber + 1) :=
  ⟨⟨{ up with neg := { next := 0xFFFFFFFE, queue := [{ kind := 1, level := 3 }, { kind := 1, level := 2 }] } }, _, _, _, rfl, rfl, rfl,
      by decide, by decide +kernel, by decide +kernel, rfl, by decide, by decide, by decide, rfl, by decide⟩,
    ⟨{ up with neg := { tokens := 0, refill := 1000000000 } }, { kind := 1, level := 2 }, { kind := 1, level := 3 }, rfl,
      by decide +kernel, by decide, rfl, by decide, by decide⟩,
    ⟨{ up with neg := { next := 0x10, headNumber := 0x0F, reasons := [2], queue := [{ kind := 5 }] } }, 2, [], rfl, by decide +kernel,
      rfl, rfl, by decide, rfl⟩⟩

theorem witness_CountersCount :
    (∃ (s : State) (l : Lane) (i j : Fin 32) (cs : List Counter), i ≤ j ∧ (s.lane l).counters = cs ∧ cs.length = 32 ∧
      (∀ k c, i.val ≤ k → k ≤ j.val → cs[k]? = some c → c.value = 0xFFFFFFFFFFFF) ∧
      (∀ k c, i.val ≤ k → k < j.val → cs[k]? = some c → c.chain = true) ∧ (∀ c, cs[j.val]? = some c → c.chain = false) ∧
      (∀ c, cs[i.val]? = some c → c.mode ≠ 0)) ∧
    (∃ (s : State) (l k : Lane), (∀ c ∈ (s.lane l).counters, c.chain = false ∧ c.value ≠ 0xFFFFFFFFFFFF) ∧
      (s.lane l).counters.length = 32 ∧ s.test = none ∧ (s.lane l).phase.live = true ∧ (s.lane k).phase.live = false ∧
      (∀ c ∈ (s.lane k).counters, c.chain = false ∧ c.value ≠ 0xFFFFFFFFFFFF) ∧ (s.lane k).counters.length = 32) :=
  ⟨⟨{ up with laneA := { lane .voting with counters := List.replicate 30 {} ++
        [{ mode := 2, chain := true, value := 0xFFFFFFFFFFFF }, { value := 0xFFFFFFFFFFFF }] } }, .a, 30, 31, _, by decide, rfl, rfl, by
        intro k c h1 h2 h
        obtain rfl | rfl : k = 30 ∨ k = 31 := by change 30 ≤ k at h1; change k ≤ 31 at h2; omega
        all_goals cases h; rfl, by
        intro k c h1 h2 h
        obtain rfl : k = 30 := by change 30 ≤ k at h1; change k < 31 at h2; omega
        cases h; rfl, fun c h => by cases h; rfl, fun c h => by cases h; decide⟩,
    ⟨{ up with laneA := { lane .voting with counters := List.replicate 32 { mode := 1, value := 0xFFFFFFFFFFFE } }, laneB := lane .down },
      .a, .b, by decide +kernel⟩⟩

/-! Local field I/O -/

/-- A frame with its check. -/
def checked (f : InFrame) : InFrame := { f with check := crc32c f.bytes }

/-- A good frame of group 12's supply, at the lowest voltage that is no warning. -/
def goodFrame : InFrame := checked { counter := 8, debounced := 5, raw := 5, supply := 11, voltage := 1950 }

/-- A frame in which group 12 stands just below 17.0 V. -/
def lowFrame : InFrame := checked { supply := 11, voltage := 1699 }

theorem witness_FieldFrames :
    (∃ (s : State) (l : Lane) (f : InFrame), s.crosses l = true ∧ s.test = none ∧ s.flt.injection = none ∧ s.paired = false ∧ f.kind = 0xA5 ∧ f.status = 0 ∧
      f.reserved = 0 ∧ f.supply.toNat < 12 ∧ 1950 ≤ f.voltage.toNat ∧ f.check = crc32c f.bytes ∧
      (∀ c, (s.lane l).board.inCtr = some c → 1 ≤ (f.counter - c).toNat ∧ (f.counter - c).toNat ≤ 3) ∧
      (s.lane l).board.groups.length = 12 ∧
      (∀ g, (s.lane l).board.groups[f.supply.toNat]? = some g → g.state = .normal ∧ g.busLow = false)) ∧
    (∃ (s : State) (l k : Lane) (f : InFrame), s.crosses l = true ∧ s.crosses k = true ∧ f.check ≠ crc32c f.bytes ∧
      (s.lane l).board.stale < 2 ∧ 2 ≤ (s.lane k).board.stale ∧ (s.lane k).board.stale < 250 ∧ s.baseline k 0x050 ∧ s.calm ∧
      s.heldWithout none ∧ (s.begin t1).fourthReset (.crossing k) = false) :=
  ⟨⟨{ up with laneA := { lane .voting with board := { inCtr := some 5 } } }, .a, goodFrame, by decide +kernel, rfl, rfl, by decide +kernel,
      rfl, rfl, rfl, by decide, by decide, by decide +kernel, fun c h => by cases h; decide, rfl, fun g h => by cases h; exact ⟨rfl, rfl⟩⟩,
    ⟨{ up with laneA := { lane .voting with board := { stale := 1 } }, laneB := { lane .voting with board := { stale := 2 } } }, .a, .b, {},
      by decide +kernel, by decide +kernel, by decide +kernel, by decide, by decide, by decide, baseline_of (by decide +kernel) _ _,
      calm_of (by decide +kernel), held_of (by decide +kernel) _, by decide +kernel⟩⟩

theorem witness_BoardFollowsItsLane :
    ∃ (s : State) (t u : Time) (l : Lane) (f g : OutFrame), s.v.power.phase ≠ .off ∧ f.kind = 0x5A ∧ f.reserved1 = 0 ∧
      f.reserved2 = 0 ∧ f.cutoffs &&& 0xF000 = 0 ∧ f.check = crc32c f.bytes ∧
      (∀ c, (s.lane l).board.boardCtr = some c → 1 ≤ (f.counter - c).toNat ∧ (f.counter - c).toNat ≤ 3) ∧ g.check ≠ crc32c g.bytes ∧
      (∀ w, (s.lane l).board.lastRx = some w → w + 100000 ≤ t) ∧ (∀ w, (s.lane l).board.lastRx = some w → max s.now u < w + 100000) :=
  ⟨{ up with laneA := { lane .voting with board := { boardCtr := some 0xFFFF, lastRx := some 999950000 } } }, 1000050000, 1000049999, .a,
    { counter := 2, cutoffs := 0x0FFF, check := crc32c ({ counter := 2, cutoffs := 0x0FFF } : OutFrame).bytes }, {}, by decide, rfl, rfl, rfl,
    by decide, by decide +kernel, fun c h => by cases h; decide, by decide +kernel, fun c h => by cases h; decide,
    fun c h => by cases h; decide⟩

theorem witness_DebounceFollowsRaw :
    (∃ (s : State) (t u since : Time) (l : Lane) (ch : Fin 96), s.crosses l = true ∧
      (s.lane l).board.changing.find? (fun x => x.1 = ch.val) = some (ch.val, since) ∧ (s.begin t).sliceMask.getLsbD ch.val = false ∧
      since + (s.image.channel ch.val).debounce * 1000 ≤ t ∧ max s.now u < since + (s.image.channel ch.val).debounce * 1000) ∧
    (∃ (s : State) (t since : Time) (l : Lane) (ch : Fin 96), s.crosses l = true ∧
      (s.lane l).board.changing.find? (fun x => x.1 = ch.val) = some (ch.val, since) ∧ (s.begin t).sliceMask.getLsbD ch.val = true) :=
  ⟨⟨{ loaded with laneA := { lane .voting with board := { changing := [(1, 995000000)] } } }, 1005000000, 1004999999, 995000000, .a, 1,
      by decide +kernel⟩,
    ⟨{ loaded with laneA := { lane .voting with board := { changing := [(1, 995000000)] } },
                   test := some { target := 2, index := 1, sid := 1, adm := 0, cmdSeq := 1, cycle := 19, sliceEnd := 1005000001 } },
      1005000000, 995000000, .a, 1, by decide +kernel⟩⟩

theorem witness_GroupChecks :
    (∃ (s : State) (l : Lane) (g : Fin 12) (x : Group) (f : InFrame), (s.lane l).board.groups[g.val]? = some x ∧ s.crosses l = true ∧
      s.test = none ∧ s.paired = false ∧ f.kind = 0xA5 ∧ f.status = 0 ∧ f.reserved = 0 ∧ f.supply.toNat = g.val ∧
      f.voltage.toNat < 1700 ∧ f.check = crc32c f.bytes ∧ (s.lane l).board.inCtr = none ∧ x.low170 = 2 ∧ x.state ≠ .sagged ∧
      s.baseline l (0x160 + g.val) ∧ s.calm ∧ s.heldWithout none) ∧
    (∃ (s : State) (t u w : Time) (l : Lane) (g : Fin 12) (x : Group), (s.lane l).board.groups[g.val]? = some x ∧
      x.goodSince = some w ∧ w + 100000000 ≤ t ∧ max s.now u < w + 100000000) ∧
    (∃ (s : State) (t w : Time) (l : Lane) (g : Fin 12) (x : Group), (s.lane l).phase.live = true ∧ s.calm ∧ s.heldWithout none ∧
      (s.lane l).board.groups[g.val]? = some x ∧ (s.lane l).board.cmdCutoffs.getLsbD g.val = false ∧ x.openedAt = some w ∧
      w + 10000000 ≤ t ∧ 500 ≤ x.bus ∧ s.baseline l (0x160 + g.val)) ∧
    (∃ (s : State) (t w : Time) (l : Lane) (ch : Fin 96), (s.lane l).phase.live = true ∧ s.calm ∧ s.heldWithout none ∧
      s.paired = true ∧ s.holdsLamp = false ∧ (s.image.channel ch.val).mode = .paired ∧ s.pair.mirror.lastOut.getLsbD ch.val = true ∧
      (s.lane l).board.raw.getLsbD ch.val = true ∧ (s.lane l).board.lastDark = [(ch.val, w)] ∧ w + 4000000000 ≤ t ∧
      s.baseline l (0x100 + ch.val)) :=
  ⟨⟨{ up with laneC := { lane .voting with board := { groups := List.replicate 11 {} ++ [{ low170 := 2 }] } } }, .c, 11, { low170 := 2 },
      lowFrame, rfl, by decide +kernel, rfl, by decide +kernel, rfl, rfl, rfl, by decide, by decide, by decide +kernel, rfl, rfl, by decide,
      baseline_of (by decide +kernel) _ _, calm_of (by decide +kernel), held_of (by decide +kernel) _⟩,
    ⟨{ up with laneC := { lane .voting with board := { groups := [{ state := .sagged, goodSince := some 950000000 }] } } }, 1050000000,
      1049999999, 950000000, .c, 0, _, rfl, rfl, by decide, by decide⟩,
    ⟨{ up with laneC := { lane .voting with board := { groups := [{ openedAt := some 990000001, bus := 500 }] } } }, t1, 990000001, .c, 0, _,
      rfl, calm_of (by decide +kernel), held_of (by decide +kernel) _, rfl, rfl, rfl, by decide, by decide,
      baseline_of (by decide +kernel) _ _⟩,
    ⟨{ loaded with laneC := { lane .voting with board := { raw := chBit 2, lastDark := [(2, 5)] } }, v := { up.v with strap := 2 },
                   pair := { role := .standby, mirror := { lastOut := chBit 2 } } }, 4000000005, 5, .c, 2, rfl, calm_of (by decide +kernel),
      held_of (by decide +kernel) _, by decide +kernel, by decide +kernel, by decide +kernel, by decide +kernel, by decide +kernel, rfl,
      by decide, baseline_of (by decide +kernel) _ _⟩⟩

theorem witness_DarkPulseTests :
    ∃ (s : State) (t from_ : Time) (slot ch : Nat) (a b c d : PulseSamples), s.fio.pulseFrom = some from_ ∧
      from_ + 100000 + 400000 * slot ≤ t ∧ slot < s.pulseSlots ∧ 2 ≤ s.votes ∧ s.pulseNext = some ch ∧ 32 ≤ ch ∧
      (∀ l ∈ s.voting, (samplesOf a b c l).darkHigh = false ∧ (samplesOf a b c l).fell = 0 ∧ (samplesOf a b c l).pathLow = false) ∧
      (∃ l ∈ s.voting, (samplesOf d b c l).darkHigh = true ∧ (∀ k ∈ s.voting, k ≠ l → (samplesOf d b c k).darkHigh = false) ∧
        (∀ k ∈ s.voting, (samplesOf d b c k).fell = 0 ∧ (samplesOf d b c k).pathLow = false) ∧ s.baseline l (0x100 + ch)) ∧
      s.calm ∧ s.heldWithout none :=
  ⟨{ up with logic := { bank0 := { state := .active, image := { channels := List.replicate 95 {} ++ [{ mode := .output }] } } },
             fio := { pulseFrom := some 1000000000, prevOutputs := chBit 95 },
             cyc := { up.cyc with mode := .run, phase := .done, outputs := chBit 95, cons := { values := chBit 95 } } },
    1000900000, 1000000000, 2, 95, {}, {}, {}, { darkHigh := true }, rfl, by decide, by decide +kernel, by decide +kernel,
    by decide +kernel, by decide, by decide +kernel, ⟨.a, by decide +kernel, rfl, by decide +kernel, by decide +kernel,
      baseline_of (by decide +kernel) _ _⟩, calm_of (by decide +kernel), held_of (by decide +kernel) _⟩

/-! Nernel packets -/

/-- A packet in a session with its codes right, tray 5, priority 15. -/
def coded (flags : Byte) (sid op : Nat) (payload : List Byte) : Pkt :=
  let p : Pkt := { flags := flags, session := BitVec.ofNat 8 sid, trayPrio := 0xF5, seq := 64, alive := 1,
                   length := BitVec.ofNat 16 payload.length, payload := payload }
  let p := { p with sc1 := crc64a (p.head op ++ payload) }
  { p with check := crc32c (p.checked op) }

theorem coded_headerOk (flags : Byte) (sid op : Nat) (payload : List Byte) : (coded flags sid op payload).headerOk op = true := by
  simp [Pkt.headerOk, coded, Pkt.checked, Pkt.head]

theorem coded_scOk (flags : Byte) (sid op : Nat) (payload : List Byte) : (coded flags sid op payload).scOk op = true := by
  simp [Pkt.scOk, coded, Pkt.head]

/-- A packet with the tag of its session. -/
def tagged (x : Session) (op : Nat) (p : Pkt) : Pkt :=
  { p with tag := tagOver x.keyIn (p.checked op ++ beBytes 4 p.check.toNat ++ p.payload ++ if p.flag 2 then beBytes 8 p.sc1.toNat else []) }

theorem tagged_tagOk (x : Session) (op : Nat) (p : Pkt) : (tagged x op p).tagOk x op = true := by
  exact decide_eq_true rfl

theorem tag_wrong (x : Session) (op : Nat) (p : Pkt) :
    Pkt.tagOk { tagged x op p with tag := (tagged x op p).tag + 1 } x op = false := by
  refine decide_eq_false fun h => ?_
  have e : (tagged x op p).tag + 1 = (tagged x op p).tag := h
  bv_omega

/-- One of safety class 1. -/
def packet (sid op : Nat) (payload : List Byte) : Pkt := coded 0x05 sid op payload

def hostSession : Session := { sid := 1, pclass := 0, gclass := 1, state := .opened, tray := 5, port := .h 0 }
def serviceSession : Session := { sid := 2, pclass := 3, gclass := 1, state := .opened, tray := 5, port := .h 0 }
def taggedSession : Session := { sid := 3, pclass := 0, gclass := 3, state := .opened, tray := 5, port := .h 0, keyIn := 7 }

/-- The module in RUN with two HOST sessions, of classes 1 and 3, and a SERVICE session. -/
def served : State :=
  { up with cyc := { up.cyc with mode := .run }
            net := { sessions := [hostSession, serviceSession, taggedSession], hostPorts := { up := true } :: List.replicate 3 {} } }

/-- The hypotheses of `CommandAdmitted` but for the tag, as a check. -/
def admits (s : State) (c : Instr) : Bool :=
  match c.nernel with
  | none => false
  | some (op, p) =>
    let s := s.begin c.time
    match s.session? p.sid, opRow op s.ps.lease with
    | some x, some row =>
      match seqCheck x.legacy x.h p.seq,
          s.admission ⟨op, row, p.tray, p.prio, x.gclass = 1 || x.gclass = 3, s.deadlineOf p, lastPart p.payload⟩ p.payload with
      | .accepted _, .inr _ =>
        s.portUsable p.port && p.versionOk && p.headerOk op && s.sessionOk x p op row && (p.flag 4 || x.gclass.toNat < 2) &&
        p.flagsOk op x.gclass && p.scOk op && counterIn 0 15 x.aliveSeen p.alive && s.stampOk x p.stamp &&
        p.length.toNat = p.payload.length && p.reserved = 0 && p.session.toNat < 64 && (offence op p.payload).isNone &&
        !s.modeBars op x.gclass && !s.paired && !x.lastSaid
      | _, _ => false
    | _, _ => false

theorem admits_spec {s : State} {c : Instr} (ha : admits s c = true)
    (ht : ∀ op p x, c.nernel = some (op, p) → (s.begin c.time).session? p.sid = some x → 2 ≤ x.gclass.toNat → p.tagOk x op = true) :
    ∃ op p x row h charges cycle limit, c.nernel = some (op, p) ∧ (s.begin c.time).passes op p x row h ∧
      (s.begin c.time).roomFor op p x row charges cycle limit ∧ x.lastSaid = false := by
  unfold admits at ha
  split at ha
  · cases ha
  · rename_i op p hn
    simp only at ha
    split at ha
    · rename_i x row hx hr
      split at ha
      · rename_i h r hs had
        obtain ⟨charges, cycle, limit⟩ := r
        simp only [Bool.and_eq_true, decide_eq_true_eq, Bool.not_eq_true', Option.isNone_iff_eq_none, Bool.or_eq_true] at ha
        obtain ⟨⟨⟨⟨⟨⟨⟨⟨⟨⟨⟨⟨⟨⟨⟨a1, a2⟩, a3⟩, a4⟩, a5⟩, a7⟩, a8⟩, a9⟩, a10⟩, a11⟩, a12⟩, a13⟩, a14⟩, a15⟩, a16⟩, a17⟩ := ha
        exact ⟨op, p, x, row, h, charges, cycle, limit, hn, ⟨⟨a1, a2, a3⟩, ⟨hx, hr, a4⟩,
          fun hc => ⟨a5.resolve_right (by omega), ht op p x hn hx hc⟩, ⟨a7, fun _ => a8⟩,
          ⟨hs, a9, a10⟩, ⟨a11, a12, a13, a14⟩, a15, fun _ hp => by rw [a16] at hp; cases hp⟩, had, a17⟩
      · cases ha
    · cases ha

/-- One command of every row of a Nernel packet, its payload as the manual lays it out. -/
def nernelCommands : List Instr :=
  let z := fun (n : Nat) => List.replicate n (0 : Byte)
  let host := packet 1
  [.setRoute t1 (host 0x0101 [0x0F, 0xFF, 1, 0, 0, 9, 0x27, 0xC0]), .cancelRoute t1 (host 0x0102 [0, 5, 0, 0]),
   .emergencyReleaseStep1 t1 (host 0x0103 [0, 5, 1, 0]), .emergencyReleaseStep2 t1 (host 0x0103 [0, 5, 2, 0]),
   .pointMove t1 (host 0x0201 [0x3F, 0xFF, 2, 0]), .pointBlock t1 (host 0x0202 [0, 7, 1, 0]), .signalBlock t1 (host 0x0211 [0, 7, 0, 0]),
   .sectionReset t1 (host 0x0221 [0, 7, 0, 0]), .blockRestore t1 (host 0x0231 [0, 7, 0, 0]), .zoneGrant t1 (host 0x0241 [0, 7, 0, 0]),
   .queryState t1 (host 0x0301 [6, 0, 0, 0, 0, 0, 0, 0]), .subscribe t1 (host 0x0302 [4, 1, 0, 0, 0, 0, 0, 1, 255, 0, 0, 0]),
   .unsubscribe t1 (host 0x0303 [255, 0, 0, 0]), .sessionClose t1 (host 0x0402 []), .sessionKeepalive t1 (host 0x0403 []),
   .modeSetRun t1 (host 0x0501 [1, 0, 0, 0]), .modeSetStop t1 (host 0x0501 [0, 0, 0, 0]), .modeSetHold t1 (host 0x0501 [2, 1, 0, 0]),
   .cycleSet t1 (host 0x0502 [3, 0xE8, 80, 85, 90, 3, 2, 0]), .holdStep t1 (host 0x0503 []), .testStripRun t1 (host 0x0601 [2, 12, 0, 0]),
   .negativeReadRecords t1 (host 0x0610 [0, 2, 3, 9, 0, 0, 0, 1]), .negativeReadChainHead t1 (host 0x0610 [1, 0, 0, 0, 0, 0, 0, 1]),
   .counterRead t1 (host 0x0620 [2, 31, 1, 0]), .counterSet t1 (host 0x0621 [7, 31, 2, 2, 0, 127, 0, 0, 0, 0, 0, 0]),
   .faultClear t1 (host 0x0630 [0xFF, 0xFF, 0, 0]), .lockoutRelease t1 (host 0x0630 [0, 0, 1, 0]),
   .faultInject t1 (packet 2 0x0640 [0, 0x06, 2, 16]), .updateOffer t1 (host 0x0701 (z 7 ++ [1, 9])),
   .updateSchedule t1 (host 0x0704 (z 44)), .updateScheduleCancel t1 (host 0x0704 (z 40 ++ [1, 0, 0, 0])),
   .updateConfirm t1 (host 0x0708 (z 32)), .sealProposeNonce t1 (host 0x0801 [1, 0, 0, 0, 0, 0, 0, 0]),
   .sealProposePart t1 (host 0x0801 [2, 0, 1, 0, 0, 0, 0, 1, 9]), .sealProposeWithdraw t1 (host 0x0801 [3, 0, 0, 0, 0, 0, 0, 1]),
   .sealApprove t1 (host 0x0802 [2, 0, 1, 0, 0, 0, 0, 1, 9]), .lifecycleSetNonce t1 (host 0x0810 [1, 0, 0, 0, 0, 0, 0, 0]),
   .lifecycleSetPart t1 (host 0x0810 [2, 0, 1, 0, 0, 0, 0, 1, 9]), .lifecycleSetWithdraw t1 (host 0x0810 [3, 0, 0, 0, 0, 0, 0, 1]),
   .lampStatus t1 (host 0x0901 []), .lampRelease t1 (host 0x0902 [1, 0, 0, 0]), .pairSet t1 (host 0x0903 [16, 0, 0x0F, 0xFF]),
   .logicLoad t1 (host 0x0A01 (z 7 ++ [1, 9])), .logicSwitch t1 (host 0x0A02 (z 32))]

/-- The CANCEL_ROUTE of the tests, and one in class 3 with its tag. -/
def cancel : Pkt := packet 1 0x0102 [0, 5, 0, 0]
def cancelTagged : Pkt := tagged taggedSession 0x0102 (coded 0x17 3 0x0102 [0, 5, 0, 0])

theorem witness_CommandAdmitted : ∀ c ∈ .cancelRoute t1 cancelTagged :: nernelCommands, ∃ op p x row h charges cycle limit,
    c.nernel = some (op, p) ∧ (served.begin c.time).passes op p x row h ∧
    (served.begin c.time).roomFor op p x row charges cycle limit ∧ x.lastSaid = false := by
  have h : nernelCommands.all (admits served) = true := by decide +kernel
  have hp : nernelCommands.all (fun c => (c.nernel.bind fun q => (served.begin c.time).session? q.2.sid).all
    fun x => x.gclass.toNat < 2) = true := by decide +kernel
  intro c hc
  rcases List.mem_cons.mp hc with rfl | hc
  · exact admits_spec (by decide +kernel) fun op p x hn hx _ => by
      cases hn
      have hs : (served.begin t1).session? cancelTagged.sid = some taggedSession := by decide +kernel
      cases hs.symm.trans hx
      exact tagged_tagOk _ _ _
  · refine admits_spec (List.all_eq_true.mp h c hc) fun op p x hn hx h2 => absurd h2 ?_
    have := List.all_eq_true.mp hp c hc
    rw [hn] at this
    simp only [Option.bind_some, hx, Option.all_some, decide_eq_true_eq] at this
    omega

/-- The common hypotheses of `FirstFailedCheckDecides` on a CANCEL_ROUTE, for the session it names. -/
def reaches (q : Pkt) (x : Session) : Prop :=
  (served.begin t1).portUsable q.port = true ∧ q.versionOk = true ∧ q.headerOk 0x0102 = true ∧ served.session? q.sid = some x ∧
  x.lastSaid = false

theorem witness_FirstFailedCheckDecides :
    (∃ q, (Instr.cancelRoute t1 q).nernel = some (0x0102, q) ∧ (served.begin t1).portUsable q.port = true ∧ q.headerOk 0x0102 = false) ∧
    (∃ q : Pkt, (served.begin t1).portUsable q.port = true ∧ q.versionOk = true ∧ q.headerOk 0x0102 = true ∧ served.session? q.sid = none) ∧
    (∃ row, opRow 0x0102 served.ps.lease = some row ∧
      (∃ q x, reaches q x ∧ served.sessionOk x q 0x0102 row = false) ∧
      (∃ q x, reaches q x ∧ served.sessionOk x q 0x0102 row = true ∧ 2 ≤ x.gclass.toNat ∧ q.flag 4 = false) ∧
      (∃ q x, reaches q x ∧ served.sessionOk x q 0x0102 row = true ∧ 2 ≤ x.gclass.toNat ∧ q.tagOk x 0x0102 = false) ∧
      (∃ q x, reaches q x ∧ served.sessionOk x q 0x0102 row = true ∧ x.gclass.toNat < 2 ∧ q.flagsOk 0x0102 x.gclass = false) ∧
      (∃ q x, reaches q x ∧ served.sessionOk x q 0x0102 row = true ∧ x.gclass.toNat < 2 ∧ q.flagsOk 0x0102 x.gclass = true ∧
        q.flag 2 = true ∧ q.scOk 0x0102 = false) ∧
      (∃ q x, reaches q x ∧ served.sessionOk x q 0x0102 row = true ∧ x.gclass.toNat < 2 ∧ q.flagsOk 0x0102 x.gclass = true ∧
        q.scOk 0x0102 = true ∧ seqCheck x.legacy x.h q.seq = .accepted 64 ∧ counterIn 0 15 x.aliveSeen q.alive = true ∧
        (served.begin t1).stampOk x q.stamp = true ∧ q.length.toNat = q.payload.length ∧ q.reserved = 0 ∧ q.session.toNat < 64 ∧
        offence 0x0102 q.payload = none ∧ offence 0x0102 [0, 5, 0, 7] = some 2 ∧ counterIn 0 15 99 q.alive = false ∧
        seqCheck false 64 q.seq = .duplicate ∧ seqCheck false 65 q.seq = .refused ∧ seqCheck false 0xFFFFFF00 0xFFFFFF01 = .wrap)) ∧
    (served.cyc.mode = .run ∧ up.cyc.mode = .stop ∧
      ∃ s : State, s = { served with v := { up.v with strap := 1 }, pair := { role := .ready } } ∧ s.cyc.mode = .run ∧
        s.paired = true ∧ s.pair.role ≠ .active) :=
  ⟨⟨{ cancel with check := cancel.check ^^^ 1 }, rfl, by decide +kernel, by decide +kernel⟩,
    ⟨packet 9 0x0102 [0, 5, 0, 0], by decide +kernel⟩, ⟨_, rfl,
      ⟨packet 3 0x0102 [0, 5, 0, 0], taggedSession, by unfold reaches; decide +kernel, by decide +kernel⟩,
      ⟨coded 0x07 3 0x0102 [0, 5, 0, 0], taggedSession, by unfold reaches; decide +kernel, by decide +kernel⟩,
      ⟨{ cancelTagged with tag := cancelTagged.tag + 1 }, taggedSession, by unfold reaches; decide +kernel, by decide +kernel,
        by decide, tag_wrong _ _ _⟩,
      ⟨coded 0x0D 1 0x0102 [0, 5, 0, 0], hostSession, by unfold reaches; decide +kernel, by decide +kernel⟩,
      ⟨{ cancel with sc1 := 0 }, hostSession, by unfold reaches; decide +kernel, by decide +kernel⟩,
      ⟨cancel, hostSession, by unfold reaches; decide +kernel, by decide +kernel⟩⟩, rfl, rfl, _, rfl, rfl, by decide +kernel⟩


/-! Sessions and field links -/

/-- A part of an opening: class `cls` in its flags, session `sid`, sequence number 64. -/
def part (cls sid : Nat) (payload : List Byte) : Pkt := coded (BitVec.ofNat 8 (4 + cls)) sid 0x0401 payload

/-- The content of an OPEN_1 of class 0 or 1: nonce, node, classes, supervision period, reserved. -/
def open1Bytes (node classes : Byte) : List Byte :=
  [1, 0, 1, 0] ++ List.replicate 32 0xAA ++ [0, 0, node, classes, 0, 50, 0, 0]

/-- A module whose seal permits node 7 as a HOST, in classes 1 to 3, with a key. -/
def sealed (key : Hash) : State :=
  { served with trust := { cfg := { lifecycle := .commissioning, partners :=
    [{ node := 7, pclass := 0, classes := 0b1110, tray := 5, emerg := false, ks := 3, freshMs := 200, keyHash := key }] } } }

/-- An opening of node 7 in class 2 that waits for a part of a message. -/
def opening (step parts : Nat) : Opening :=
  { sid := 4, node := 7, pclass := 0, gclass := 2, port := .h 0, endpoint := 0, since := 5, parts := parts, step := step, h := 63 }

def openingState (key : Hash) (step parts : Nat) : State :=
  { sealed key with net := { (sealed key).net with openings := [opening step parts] } }

/-- Parts of OPEN_1 and OPEN_3 in class 2. -/
def open1Part (k : Byte) (n : Nat) : Pkt := part 2 0 ([1, k, 3, 0] ++ List.replicate n 1)
def open3Part (k : Byte) (n : Nat) : Pkt := part 2 4 ([3, k, 3, 0] ++ List.replicate n 1)
def firstPart : Pkt := part 2 0 ([1, 0, 3, 0] ++ (open1Bytes 7 8).drop 4 ++ List.replicate 980 1)

theorem opens_of {s : State} (cls sid : Nat) (l : List Byte) (hp : (s.begin t1).portUsable (.h 0) = true)
    (ho : (part cls sid l).openFlags = true) : (s.begin t1).opensWith (part cls sid l) :=
  ⟨hp, rfl, coded_headerOk _ _ _ _, ho, coded_scOk _ _ _ _⟩

/-- What the clauses of `SessionOpens` ask of a part for an opening. -/
def continues (s : State) (p : Pkt) (o : Opening) : Prop :=
  (s.begin t1).opensWith p ∧ o ∈ s.net.openings ∧ (∀ x ∈ s.net.openings, x.sid = o.sid → x = o) ∧ p.part = o.parts ∧
  o.accepted = false ∧ seqCheck (p.version = 2) o.h p.seq = .accepted 64 ∧ counterIn 0 15 o.alive p.alive = true ∧
  (s.begin t1).stampFresh (p.version = 2) o.freshMs p.stamp = true

theorem continues_of {key : Hash} {step parts cls sid : Nat} {l : List Byte} (ho : (part cls sid l).openFlags = true)
    (hp : (part cls sid l).part = parts) : continues (openingState key step parts) (part cls sid l) (opening step parts) :=
  ⟨opens_of cls sid l rfl ho, List.mem_singleton.mpr rfl, fun _ h _ => List.mem_singleton.mp h, hp, rfl, rfl,
    show counterIn 0 15 0 1 = true by decide, rfl⟩

theorem witness_SessionOpens :
    (∀ p ∈ [part 1 0 (open1Bytes 7 4), firstPart, part 1 0 (open1Bytes 8 4)], ∃ (node : Node) (pclass gclass : BitVec 2),
      ((sealed 9).begin t1).opensWith p ∧ p.sid = 0 ∧ p.part = 0 ∧ (sealed 9).openingOf p = none ∧
      seqCheck (p.version = 2) 0 p.seq = .accepted 64 ∧
      (∀ n, (sealed 9).openerFresh p = some n → ((sealed 9).begin t1).stampFresh (p.version = 2) n p.stamp = true) ∧
      (2 ≤ p.flags.toNat % 4 → openOffence p 1 3 2536 = none) ∧ (p.flags.toNat % 4 < 2 → openOffence p 1 1 40 = none) ∧
      fieldAt p.payload 36 3 = node.toNat ∧ fieldAt p.payload 39 1 = pclass.toNat + 4 * gclass.toNat ∧ fieldAt p.payload 42 2 = 0 ∧
      gclass.toNat = p.flags.toNat % 4 ∧ p.version ≠ 2 ∧ max (sealed 9).cs.p 10 ≤ fieldAt p.payload 40 2 ∧
      fieldAt p.payload 40 2 ≤ 10000 ∧ (sealed 9).openCount < 4 ∧ (sealed 9).freeId = some 4 ∧
      (((sealed 9).grant p.port node pclass gclass).isSome = true ∨ node = 8 ∧ (sealed 9).grant p.port node pclass gclass = none)) ∧
    (∃ s p o, continues s p o ∧ s.openingOf p = some o ∧ p.sid = 0 ∧ 2 ≤ p.flags.toNat % 4 ∧ 2 ≤ o.gclass.toNat ∧
      openOffence p 1 3 2536 = none ∧ p.part = 1) ∧
    (∃ s p o g, continues s p o ∧ s.openingOf p = some o ∧ p.sid = 0 ∧ 2 ≤ p.flags.toNat % 4 ∧ 2 ≤ o.gclass.toNat ∧
      openOffence p 1 3 2536 = none ∧ p.part = 2 ∧ s.grant o.port o.node o.pclass o.gclass = some g ∧
      g.key = some (Config.sha3 (slice (o.content ++ p.payload.drop 4) 40 1312))) ∧
    (∃ s p o g k, continues s p o ∧ s.openingOf p = some o ∧ p.sid = 0 ∧ 2 ≤ p.flags.toNat % 4 ∧ 2 ≤ o.gclass.toNat ∧
      openOffence p 1 3 2536 = none ∧ p.part = 2 ∧ s.grant o.port o.node o.pclass o.gclass = some g ∧ g.key = some k ∧
      k ≠ Config.sha3 (slice (o.content ++ p.payload.drop 4) 40 1312)) ∧
    (∀ k ∈ [1, 2], ∃ s p o, continues s p o ∧ p.sid = o.sid ∧ o.step = 2 ∧ o.port = p.port ∧ o.endpoint = p.endpoint ∧ o.pclass ≠ 2 ∧
      o.gclass.toNat = p.flags.toNat % 4 ∧ openOffence p 3 3 2420 = none ∧ p.part = k) := by
  refine ⟨?_, ⟨_, open1Part 1 1020, _, continues_of (key := 9) (step := 1) (parts := 1) (by decide +kernel) (by decide +kernel), by decide +kernel⟩,
    ⟨_, open1Part 2 496, _, { tray := 5, emerg := false, ks := 3, freshMs := 200, key := some _ },
      continues_of (key := Config.sha3 (slice ([] ++ (open1Part 2 496).payload.drop 4) 40 1312)) (step := 1) (parts := 2)
        (by decide +kernel) (by decide +kernel), rfl, by decide +kernel, by decide +kernel, by decide, by decide +kernel, by decide +kernel, rfl, rfl⟩,
    ⟨_, open1Part 2 496, _, { tray := 5, emerg := false, ks := 3, freshMs := 200, key := some _ }, _,
      continues_of (key := Config.sha3 (slice ([] ++ (open1Part 2 496).payload.drop 4) 40 1312) + 1) (step := 1) (parts := 2)
        (by decide +kernel) (by decide +kernel), rfl, by decide +kernel, by decide +kernel, by decide, by decide +kernel, by decide +kernel, rfl,
      rfl, hash_ne _⟩, ?_⟩
  · intro p hp
    simp only [List.mem_cons, List.not_mem_nil, or_false] at hp
    obtain rfl | rfl | rfl := hp
    · exact ⟨7, 0, 1, opens_of _ _ _ rfl (by decide +kernel), by decide +kernel, by decide +kernel, by decide +kernel, by decide +kernel,
        fun n _ => rfl, by decide +kernel, by decide +kernel, by decide +kernel⟩
    · exact ⟨7, 0, 2, opens_of _ _ _ rfl (by decide +kernel), by decide +kernel, by decide +kernel, by decide +kernel, by decide +kernel,
        fun n _ => rfl, by decide +kernel, by decide +kernel, by decide +kernel⟩
    · exact ⟨8, 0, 1, opens_of _ _ _ rfl (by decide +kernel), by decide +kernel, by decide +kernel, by decide +kernel, by decide +kernel,
        fun n _ => rfl, by decide +kernel, by decide +kernel, by decide +kernel⟩
  · intro k hk
    simp only [List.mem_cons, List.not_mem_nil, or_false] at hk
    obtain rfl | rfl := hk
    · exact ⟨_, open3Part 1 1020, _, continues_of (key := 9) (step := 2) (parts := 1) (by decide +kernel) (by decide +kernel), by decide +kernel⟩
    · exact ⟨_, open3Part 2 380, _, continues_of (key := 9) (step := 2) (parts := 2) (by decide +kernel) (by decide +kernel), by decide +kernel⟩

/-- An image that expects node 7 on the first field link, with a key. -/
def partnered (key : Hash) : State :=
  { up with net := { links := { port := { up := true } } :: List.replicate 47 {} },
            logic := { bank0 := { state := .active, image := { partners :=
              [{ node := 7, cls := 2, ptype := 3, links := 1, cmdSlots := 1, repSlots := 1, keyHash := key }] } } } }

/-- `partnered` with another record of its first link. -/
def linked (key : Hash) (k : LinkRec) : State :=
  { partnered key with net := { (partnered key).net with links := k :: List.replicate 47 {} } }

/-- A field message with its codes right. -/
def message (kind flags : Byte) (port : Port) (sid node : Nat) (content : List Byte) : FieldMsg :=
  let m : FieldMsg := { port := port, flags := flags, session := BitVec.ofNat 8 sid, node := BitVec.ofNat 24 node, seq := 64, alive := 1,
                        length := BitVec.ofNat 16 content.length, content := content }
  let m := { m with sc1 := crc64a (m.head kind ++ beBytes 4 0 ++ beBytes 2 m.length.toNat ++ content) }
  { m with check := crc32c (m.checked kind) }

theorem message_headerOk (kind flags : Byte) (port : Port) (sid node : Nat) (l : List Byte) :
    (message kind flags port sid node l).headerOk kind = true := by
  simp [FieldMsg.headerOk, message, FieldMsg.checked, FieldMsg.head]

theorem message_scOk (kind flags : Byte) (port : Port) (sid node : Nat) (l : List Byte) :
    (message kind flags port sid node l).scOk kind = true := by
  simp [FieldMsg.scOk, message, FieldMsg.head]

/-- A HELLO in class 2 of node 7, and the parts that bring it. -/
def helloBytes : List Byte := [0, 0, 7, 2, 0, 3, 0, 0] ++ List.replicate 3796 1
def helloPart (n : Nat) : FieldMsg :=
  message 0x04 0x10 (.f 0) 0 7 ([1, BitVec.ofNat 8 n, 4, 0] ++ (helloBytes.drop (1016 * n)).take 1016)

/-- The link with parts of that HELLO before part `n`. -/
def greeting (key : Hash) (n : Nat) : State :=
  linked key { port := { up := true }, challenge := some (5, 6), helloParts := n, helloSince := if n = 0 then none else some 7,
               helloBytes := helloBytes.take (1016 * n), helloSeq := if n = 0 then 0 else 63 }

theorem helloPart_ok (key : Hash) (n : Nat) (h : n ∈ [0, 1, 3]) :
    (helloPart n).helloPart (helloClass ((greeting key n).link 0) (helloPart n)) = true := by
  have hc : ∀ n ∈ [0, 1, 3], fieldAt (helloPart n).content 1 1 = n ∧ (helloPart n).reservedOk = true ∧ (helloPart n).sid = 0 ∧
      bitOf (helloPart n).flags.toNat 4 = true ∧ (helloPart n).length.toNat = (helloPart n).content.length ∧
      helloClass ((greeting 9 n).link 0) (helloPart n) = 2 ∧
      fieldAt (helloPart n).content 2 1 = helloCount 2 ∧ fieldAt (helloPart n).content 3 1 = 0 ∧ n < helloCount 2 ∧
      (helloPart n).content.length = 4 + min 1016 (helloLength 2 - 1016 * n) := by decide +kernel
  obtain ⟨h1, h2, h3, h4, h5, h6, h7, h8, h9, h10⟩ := hc n h
  have hk : helloClass ((greeting key n).link 0) (helloPart n) = 2 := h6
  have hh : (helloPart n).headerOk 0x04 = true := message_headerOk _ _ _ _ _ _
  have hs : (helloPart n).scOk 0x04 = true := message_scOk _ _ _ _ _ _
  simp [FieldMsg.helloPart, hk, h1, h2, h3, h4, h5, h7, h8, h9]
  exact ⟨⟨hh, hs⟩, h10⟩

/-- The verdict on a HELLO whose other checks pass hangs on its signature (R300). -/
theorem hello_verdict {s : State} {i : Fin 48} {c : Hash} {x : Hello} {d : PartnerDecl}
    (hd : s.image.partners.find? (fun d => d.node = x.node) = some d) (hl : d.links.getLsbD i.val = true) (ht : d.ptype = x.ptype)
    (hc : d.cls = x.cls) (hk : d.keyHash = Config.sha3 x.key) (hf : d.fwHash = 0)
    (hs : (s.net.sessions.any fun y => y.pclass = 2 && y.node = x.node && y.port ≠ .f i) = false) (hi : s.freeId.isNone = false) :
    s.helloReason i c x = 0 ∨ s.helloReason i c x = 4 := by
  simp only [State.helloReason, hd, hl, ht, hc, hk, hf, hs, hi]
  cases Config.verifies x.key (Config.sha3 (beBytes 32 c.toNat ++ x.signedPart)) x.signature <;> simp

/-- What the clauses on the parts of a HELLO ask. -/
def greets (s : State) (m : FieldMsg) (n : Nat) : Prop :=
  n = fieldAt m.content 1 1 ∧ s.tabled ∧ (s.begin t1).portUsable (.f 0) = true ∧ (s.link 0).quarantine = none ∧
  (s.link 0).challenge = some (5, 6) ∧ m.helloPart (helloClass (s.link 0) m) = true ∧
  seqCheck false (if n = 0 then 0 else (s.link 0).helloSeq) m.seq = .accepted 64

theorem greets_of (key : Hash) (n : Nat) (h : n ∈ [0, 1, 3]) : greets (greeting key n) (helloPart n) n := by
  have hn : ∀ n ∈ [0, 1, 3], n = fieldAt (helloPart n).content 1 1 := by decide +kernel
  refine ⟨hn n h, ⟨rfl, rfl, rfl⟩, rfl, rfl, rfl, helloPart_ok key n h, ?_⟩
  simp only [List.mem_cons, List.not_mem_nil, or_false] at h
  obtain rfl | rfl | rfl := h <;> rfl

/-- The key that the HELLO brings. -/
def helloKey : Hash := Config.sha3 (hello (helloBytes.take 3048 ++ (helloPart 3).content.drop 4)).key

theorem witness_FieldLinkMoves :
    (∃ (s : State) (i : Fin 48), s.tabled ∧ s.linkHasSession i.val = false ∧ s.test = none ∧ s.dieUp (portDie (.f i)) = true ∧
      (s.link i.val).port.outOfService = false ∧ s.trust.cfg.lifecycle ≠ .blank) ∧
    (∃ (s : State) (t u : Time) (i : Fin 48) (n : Hash) (w : Time), s.tabled ∧ s.linkHasSession i.val = false ∧ s.test = none ∧
      (s.link i.val).challenge = some (n, w) ∧ (s.link i.val).helloSince = none ∧ (s.link i.val).quarantine = none ∧
      w + 200000000 ≤ t ∧ (s.begin t).portUsable (.f i) = true ∧ max s.now u < w + 200000000) ∧
    (∃ (s : State) (t u : Time) (i : Fin 48) (w : Time) (r : Byte), s.tabled ∧ s.linkHasSession i.val = false ∧ s.test = none ∧
      (s.link i.val).quarantine = some (w, r) ∧ w + 60000000000 ≤ t ∧ max s.now u < w + 60000000000) ∧
    (∃ s m, greets s m 0 ∧ s.openCount < 4) ∧
    (∃ s m, greets s m 1 ∧ 1 = (s.link 0).helloParts ∧ (s.link 0).helloSince.isSome = true ∧ 1 + 1 < helloCount (helloClass (s.link 0) m)) ∧
    (∃ s m l, greets s m 3 ∧ 3 = (s.link 0).helloParts ∧ (s.link 0).helloSince.isSome = true ∧
      3 + 1 = helloCount (helloClass (s.link 0) m) ∧ l = (s.link 0).helloBytes ++ m.content.drop 4 ∧ helloReservedOk l = true ∧
      (s.helloReason 0 5 (hello l) = 0 ∨ s.helloReason 0 5 (hello l) = 4) ∧ s.freeId = some 1) ∧
    (∃ s m l, greets s m 3 ∧ 3 = (s.link 0).helloParts ∧ (s.link 0).helloSince.isSome = true ∧
      3 + 1 = helloCount (helloClass (s.link 0) m) ∧ l = (s.link 0).helloBytes ++ m.content.drop 4 ∧ helloReservedOk l = true ∧
      s.helloReason 0 5 (hello l) ≠ 0) := by
  refine ⟨⟨up, 47, ⟨rfl, rfl, rfl⟩, by decide +kernel⟩,
    ⟨linked 9 { port := { up := true }, challenge := some (5, 900000000) }, 1100000000, 1099999999, 0, 5, 900000000, ⟨rfl, rfl, rfl⟩,
      by decide +kernel⟩,
    ⟨linked 9 { port := { up := true }, quarantine := some (900000000, 3) }, 60900000000, 60899999999, 0, 900000000, 3, ⟨rfl, rfl, rfl⟩,
      by decide +kernel⟩,
    ⟨_, _, greets_of 9 0 (by decide), by decide +kernel⟩, ⟨_, _, greets_of 9 1 (by decide), by decide +kernel⟩,
    ⟨greeting helloKey 3, helloPart 3, _, greets_of _ 3 (by decide), rfl, rfl, by decide +kernel, rfl, by decide +kernel, ?_, by decide +kernel⟩,
    ⟨{ greeting 9 3 with logic := {} }, helloPart 3, _, greets_of 9 3 (by decide), rfl, rfl, by decide +kernel, rfl, by decide +kernel,
      by decide +kernel⟩⟩
  exact hello_verdict (d := { node := 7, cls := 2, ptype := 3, links := 1, cmdSlots := 1, repSlots := 1, keyHash := helloKey })
    (List.find?_cons_of_pos (by decide +kernel)) rfl (by decide +kernel) (by decide +kernel) rfl rfl (by decide +kernel) (by decide +kernel)

def fieldSession : Session := { sid := 4, pclass := 2, gclass := 2, state := .opened, tray := 13, port := .f 0, node := 7, missed := 2 }

theorem witness_SessionSupervision :
    (∃ (s : State) (x y z u v w : Session) (t t' : Time), s.session? 1 = some x ∧ x.pclass ≠ 2 ∧ 0 < x.periodMs ∧ 0 < x.ks ∧
      s.session? 4 = some y ∧ y.pclass = 2 ∧ y.lost = false ∧ y.port = .f 0 ∧ s.dieOut (portDie y.port) = false ∧ y.missed < y.ks ∧
      s.session? 5 = some z ∧ z.pclass = 2 ∧ z.lost = false ∧ s.dieOut (portDie z.port) = false ∧ z.ks ≤ z.missed ∧
      s.session? 6 = some u ∧ u.pclass = 2 ∧ u.lost = true ∧ u.port = .f 0 ∧ u.lostSince + 60000000000 ≤ t ∧
      s.session? 7 = some v ∧ v.pclass = 1 ∧ v.lost = false ∧ s.dieOut (portDie v.port) = false ∧
      v.lastQualifiedAt + v.ks * v.periodMs * 1000000 ≤ t ∧ max s.now t' < v.lastQualifiedAt + v.ks * v.periodMs * 1000000 ∧
      s.session? 8 = some w ∧ w.pclass = 2 ∧ w.lost = true ∧ w.port = .f 1 ∧ (s.link 1).downSince = some 5 ∧ 5 + 1000000000 ≤ t' ∧
      (s.link 0).downSince = none ∧ max s.now t' < u.lostSince + 60000000000) :=
  ⟨{ partnered 9 with net := { links := { downSince := none } :: { downSince := some 5 } :: List.replicate 46 {}, sessions := [
      hostSession, fieldSession, { fieldSession with sid := 5, missed := 3 },
      { fieldSession with sid := 6, lost := true, lostSince := 5 },
      { hostSession with sid := 7, pclass := 1, lastQualifiedAt := 900000000 },
      { fieldSession with sid := 8, lost := true, lostSince := 5, port := .f 1 }] } },
    hostSession, fieldSession, { fieldSession with sid := 5, missed := 3 }, { fieldSession with sid := 6, lost := true, lostSince := 5 },
    { hostSession with sid := 7, pclass := 1, lastQualifiedAt := 900000000 },
    { fieldSession with sid := 8, lost := true, lostSince := 5, port := .f 1 }, 60000000005, 1100000000, by decide +kernel⟩

/-- The module with a session of node 7 on its first field link, and one with a neighbour on a host port. -/
def linkedUp : State :=
  { partnered 9 with net := { (partnered 9).net with
    sessions := [fieldSession, { hostSession with sid := 7, pclass := 1, node := 9, telAlive := 0 }],
    hostPorts := { up := true } :: List.replicate 3 {} } }

/-- A telegram of one slot with its epoch, 8. -/
def telegramBytes : List Byte := [0, 0, 0, 9, 0, 0, 0, 8, 0, 1, 0, 0, 0, 0, 0, 5]

theorem witness_FieldMessagesTaken :
    (∃ (m : FieldMsg) (x : Session) (charges : List (Nat × Nat × Nat × Nat)) (cycle : Nat) (limit : Option Time),
      ((linkedUp.begin t1).portUsable m.port = true ∧ linkedUp.quarantined m.port = false ∧ linkedUp.session? m.sid = some x ∧
      x.state = .opened ∧ x.port = m.port ∧ x.node.toNat = m.node.toNat ∧ x.pclass = 2) ∧
      (m.headerOk 0x06 = true ∧ m.scOk 0x06 = true ∧ m.tagOk x 0x06 = true) ∧ seqCheck false x.h m.seq = .accepted 64 ∧
      (m.reservedOk = true ∧ m.content.length = 8 ∧ m.length = 8 ∧ fieldAt m.content 0 2 ≤ 252 ∧ fieldAt m.content 2 2 = 0) ∧
      (linkedUp.begin t1).admission (eventAsk x) m.content = .inr (charges, cycle, limit)) ∧
    (∀ m ∈ [message 0x02 0 (.f 0) 4 7 telegramBytes, message 0x02 0 (.h 0) 7 9 telegramBytes], ∃ x,
      ((linkedUp.begin t1).portUsable m.port = true ∧ linkedUp.quarantined m.port = false ∧ linkedUp.session? m.sid = some x ∧
      x.state = .opened ∧ x.port = m.port ∧ x.node.toNat = m.node.toNat ∧
      (x.pclass = 2 ∨ (x.pclass = 1 ∧ x.carries m.port m.endpoint = true))) ∧ (m.headerOk 0x02 = true ∧ m.reservedOk = true ∧
      m.length.toNat = m.content.length ∧ m.tagOk x 0x02 = true ∧ seqCheck false x.h m.seq = .accepted 64 ∧ x.lastTelAlive = none) ∧
      telegramContent m.content = some (8, [5]) ∧ m.scOk 0x02 = true ∧ x.refused ≠ 0xFFFF ∧
      ({ m with sc1 := 0 } : FieldMsg).headerOk 0x02 = true ∧ ({ m with sc1 := 0 } : FieldMsg).scOk 0x02 = false) ∧
    linkedUp.holdsLamp = true ∧ ({ linkedUp with pair := { role := .standby } } : State).holdsLamp = false ∧ linkedUp.tabled ∧
    (∃ (m : FieldMsg) (x : Session) (op : W16) (p : Pkt), (served.begin t1).portUsable m.port = true ∧
      served.quarantined m.port = false ∧ served.session? m.sid = some x ∧ x.state = .opened ∧ x.port = m.port ∧
      x.node.toNat = m.node.toNat ∧ opRow op.toNat served.ps.lease = none ∧ op ≠ 0x0401 ∧ p.versionOk = true ∧ p.headerOk op.toNat = true ∧
      p.port = m.port ∧ p.sid = m.sid ∧ x.lastSaid = false ∧ x.takes p = true ∧ x.gclass.toNat < 2 ∧
      p.flagsOk op.toNat x.gclass = true ∧ (p.flag 2 = true → p.scOk op.toNat = true) ∧ seqCheck x.legacy x.h p.seq = .accepted 64 ∧
      counterIn 0 15 x.aliveSeen p.alive = true ∧ (served.begin t1).stampOk x p.stamp = true ∧
      ∃ q : Pkt, q.versionOk = true ∧ q.headerOk op.toNat = true ∧ q.port = m.port ∧ q.sid = m.sid ∧ x.takes q = false) :=
  ⟨⟨message 0x06 0 (.f 0) 4 7 [0, 252, 0, 0, 0, 0, 0, 1], fieldSession, [(21, 2, 13, 1)], 21, some 1110000001, by decide +kernel, by decide +kernel,
      by decide +kernel, by decide +kernel, by decide +kernel⟩,
    by
      intro m hm
      simp only [List.mem_cons, List.not_mem_nil, or_false] at hm
      obtain rfl | rfl := hm
      · exact ⟨fieldSession, by decide +kernel, by decide +kernel, by decide +kernel⟩
      · exact ⟨{ hostSession with sid := 7, pclass := 1, node := 9 }, by decide +kernel, by decide +kernel, by decide +kernel⟩, by decide +kernel, by decide +kernel, ⟨rfl, rfl, rfl⟩,
    ⟨message 0x02 0 (.h 0) 1 0 [], hostSession, 0x0B01, packet 1 0x0B01 [], by decide +kernel, by decide +kernel, by decide +kernel, rfl,
      rfl, rfl, by decide +kernel, by decide, rfl, by decide +kernel, rfl, by decide +kernel, rfl, by decide +kernel, by decide,
      by decide +kernel, fun _ => by decide +kernel, by decide +kernel, by decide +kernel, by decide +kernel,
      coded 0x06 1 0x0B01 [], by decide +kernel⟩⟩

/-! Timers -/

def obj (oid : Nat) (body : Body) : Obj := { oid := oid, body := body }

def route9 : RouteDecl :=
  { rid := 9, oid := 7, symbol := 7, entry := 2, approach := [], settable := [], hold := [], clear := [], alts := 0 }

/-- One object of each kind whose timers a command names, with its timers run out at 100 s, in the Develop of a cycle. -/
def timed : State :=
  { up with
    cyc := { up.cyc with mode := .run, phase := .develop, cons := { time := 1000000000 } }
    logic := { bank0 := { state := .active, image :=
      { objects := [{ oid := 1, symbol := 1, source := .internal, params := .point 10000 false [] },
                    { oid := 2, symbol := 2, source := .internal, params := .signal 500 [] },
                    { oid := 3, symbol := 3, source := .internal, params := .stretch 1000 false false }], routes := [route9],
        timers := [{ symbol := 8, kind := .onDelay, preset := 1 }] } } }
    rail := { objs := [obj 1 (.point { moving := true, start := 900000000 }), obj 2 (.signal { differSince := some 994999999 }),
                       obj 3 (.stretch { clearSince := some 990000000 }), obj 4 (.crossing { timerEnd := some 1000000000 }),
                       obj 5 (.overlap { state := .releasing, timerEnd := some 1000000000 }),
                       obj 7 (.route { state := .approachLocked, armed := true, timerEnd := some 100000000 })],
              waiting := [{ rid := 9, sid := 1, adm := 1, tray := 5, cmdSeq := 1, since := 0, limitMs := 100000 }],
              timers := [{ phase := .running, expiry := 1000000000 }] } }

/-- Every timer row with its object. -/
def timerCommands : List Instr :=
  [.tLossExpiry t1 1, .pointMoveTimeout t1 1, .signalProvingTimeout t1 2, .sectionClearDelay t1 3, .crossingTimerExpiry t1 4,
   .overlapReleaseTimer t1 5, .approachReleaseTimer t1 9, .emergencyTimerExpiry t1 9, .confirmationWindowEnd t1 9,
   .waitLimitExpiry t1 9, .folquelTimerExpiry t1 0]

theorem witness_TimersActInDevelop :
    timed.cyc.phase = .develop ∧ timed.cyc.dev = none ∧ timed.holdsLamp = true ∧
    (∀ c ∈ timerCommands, ∃ due, (timed.begin c.time).timerOf c = some due ∧ due timed.cyc.cons.time = true) ∧
    (∀ c ∈ timerCommands, ∃ due, (up.begin c.time).timerOf c = some due ∧ due up.cyc.cons.time = false) ∧ up.cyc.phase ≠ .develop := by
  have h : timerCommands.all (fun c => ((timed.begin c.time).timerOf c).any fun due => due timed.cyc.cons.time) = true := by
    decide +kernel
  have k : timerCommands.all (fun c => ((up.begin c.time).timerOf c).any fun due => !due up.cyc.cons.time) = true := by
    decide +kernel
  refine ⟨rfl, rfl, by decide +kernel, fun c hc => ?_, fun c hc => ?_, by decide⟩
  · have h' := List.all_eq_true.mp h c hc
    cases hd : (timed.begin c.time).timerOf c with
    | none => simp [hd] at h'
    | some due => exact ⟨due, rfl, by simpa [hd] using h'⟩
  · have h' := List.all_eq_true.mp k c hc
    cases hd : (up.begin c.time).timerOf c with
    | none => simp [hd] at h'
    | some due => exact ⟨due, rfl, by simpa [hd] using h'⟩

/-- A rail of one object with its declaration, fresh. -/
def alone (p : Params) (b : Body) : Rail × ObjDecl × Obj :=
  ({ objs := [obj 1 b] }, { oid := 1, symbol := 1, source := .internal, params := p }, obj 1 b)

theorem alone_present (p : Params) (b : Body) :
    (alone p b).1.obj? (alone p b).2.1.oid = some (alone p b).2.2 ∧ (alone p b).2.2.lost = false ∧ (alone p b).2.2.stale = false ∧
      (alone p b).2.1.params = p ∧ (alone p b).2.2.body = b := ⟨rfl, rfl, rfl, rfl, rfl⟩

theorem witness_ObjectTimersExpire :
    ∃ e : Env, e.now = 10000000 ∧
      (∃ p : PointSt, p.moving = true ∧ 1000 ≤ (e.now - p.start) / 10000) ∧
      (∃ x : SignalSt, tk 999 < e.now - 4999 ∧ 0 < 999 ∧ x.shownValid = true ∧ x.shown ≠ x.cmd ∧ x.cmd ≠ 0 ∧ x.differSince = some 4999) ∧
      (∃ x : SignalSt, tk 999 < e.now - 4999 ∧ x.cmd = 0 ∧ x.unprovenSince = some 4999 ∧ (track e.now x).proven 999 e.now = false) ∧
      (∃ x y : SectionSt, x.occ = .occupied ∧ x.clearSince = some 0 ∧ tk 1000 ≤ e.now - 0 ∧ y.occ = .occupied ∧ y.clearSince = some 1 ∧
        e.now - 1 < tk 1000 ∧ (0 : W64).toNat % 4 = 0) ∧
      (∃ x : CrossingSt, x.timerEnd = some e.now ∧ x.state = .closing ∧ ¬(x.down = true ∧ x.obstacleFree = true ∧ x.lightsOk = true)) ∧
      (∃ x y : CrossingSt, x.timerEnd = some e.now ∧ x.state = .warning ∧ x.lightsOk = true ∧ y.timerEnd = some e.now ∧
        y.state = .warning ∧ y.lightsOk = false) :=
  ⟨⟨{}, 10000000, false, true⟩, rfl, ⟨{ moving := true }, by decide⟩,
    ⟨{ cmd := 3, shown := 2, shownValid := true, differSince := some 4999 }, by decide⟩,
    ⟨{ shown := 2, shownValid := true, unprovenSince := some 4999 }, by decide⟩,
    ⟨{ clearSince := some 0 }, { clearSince := some 1 }, by decide⟩,
    ⟨{ state := .closing, down := true, timerEnd := some 10000000 }, by decide⟩,
    ⟨{ state := .warning, lightsOk := true, timerEnd := some 10000000 }, { state := .warning, timerEnd := some 10000000 }, by decide⟩⟩

/-! The cycle -/

theorem scans_of {s : State} (h : ∀ l, (s.lane l).sram = []) (l : Lane) : (s.lane l).scansClean := fun x hx => by
  rw [h l] at hx
  cases hx

theorem idling_of {s : State} (h : (Lane.all.all (fun l => (s.lane l).sram.isEmpty) && s.flt.injection.isNone && s.net.entries.isEmpty &&
    s.net.answers.isEmpty && s.net.subs.isEmpty && s.test.isNone && s.pair.role = .unpaired && s.v.strap = 0 &&
    s.pair.lease.handover.isNone && !s.pair.lease.giveUp) = true) : s.idling := by
  simp only [Lane.all, List.all_cons, List.all_nil, Bool.and_eq_true, decide_eq_true_eq, Bool.not_eq_true', Option.isNone_iff_eq_none,
    List.isEmpty_iff] at h
  obtain ⟨⟨⟨⟨⟨⟨⟨⟨⟨⟨ha, hb, hc, _⟩, h1⟩, h2⟩, h3⟩, h4⟩, h5⟩, h6⟩, h7⟩, h8⟩, h9⟩ := h
  exact ⟨scans_of (lanes (P := fun l => (s.lane l).sram = []) ⟨ha, hb, hc⟩), h1, h2, h3, h4, h5, h6, h7, h8, h9⟩

theorem punctual_of {s : State} {t : Time} (h : (s.begin t).overdue = s.begin t) : s.punctual t := h

theorem whole_of {s : State} (h : Lane.all.all (fun l => (s.lane l).phase = .voting && (s.lane l).calls = 0 && !(s.lane l).lateDue) = true)
    (k : Chan.all.all (fun c => !(s.chan c).absent && !(s.chan c).faulted) = true) : s.whole := by
  simp only [Lane.all, Chan.all, List.all_cons, List.all_nil, Bool.and_eq_true, decide_eq_true_eq, Bool.not_eq_true'] at h k
  exact ⟨lanes ⟨⟨h.1.1.1, h.1.1.2, h.1.2⟩, ⟨h.2.1.1.1, h.2.1.1.2, h.2.1.2⟩, h.2.2.1.1.1, h.2.2.1.1.2, h.2.2.1.2⟩,
    chans ⟨h' k.1, h' k.2.1, h' k.2.2.1⟩⟩
where h' {a b : Prop} (h : a ∧ b) : a ∧ b := h

/-- The module in a phase of cycle 20. -/
def at_ (phase : CyclePhase) : State := { up with cyc := { up.cyc with mode := .run, phase := phase } }

theorem witness_LanesFreeze :
    (∃ (s : State) (t : Time) (l : Lane), s.alive = true ∧ s.punctual t ∧ (s.lane l).phase.exchanges = true ∧
      laneIn s.cyc.visit l = false ∧ s.cyc.phase = .expose ∧
      (((s.begin t).visit l).readbackAll l).pairedCheck l = (s.begin t).visit l ∧ s.reported < 2 ∧ 2 ≤ ((s.begin t).visit l).reported ∧
      (s.begin t).drivesSync = true) ∧
    (∃ (s v : State) (t : Time) (l : Lane), s.alive = true ∧ s.punctual t ∧ (s.lane l).phase.exchanges = true ∧
      laneIn s.cyc.visit l = true ∧ 2 ≤ s.votes ∧ (s.begin t).closeCycle = s.begin t ∧
      (s.begin t).boundaryEffects = s.begin t ∧ s.cyc.mode ≠ .hold ∧ v = ((s.begin t).turnCycle.selfRenew).visit l ∧
      (v.readbackAll l).pairedCheck l = v ∧ s.v.strap = 0) :=
  ⟨⟨{ up with cyc := { up.cyc with visit := 1 } }, t1, .b, by decide +kernel, punctual_of (by decide +kernel), rfl, by decide +kernel, rfl,
      by decide +kernel, by decide +kernel, by decide +kernel, by decide +kernel⟩,
    ⟨{ at_ .done with cyc := { (at_ .done).cyc with devJudged := true } }, _, 1050000000, .b, by decide +kernel, punctual_of (by decide +kernel), rfl, by decide +kernel, by decide +kernel,
      by decide +kernel, by decide +kernel, by decide, rfl, by decide +kernel, rfl⟩⟩

theorem witness_LaneMessagesRoundTrip :
    (15 < 16 ∧ ([] : List W32).length + 2 < 2 ^ 20) ∧
    ∃ x : InputImage, x.time < 2 ^ 64 ∧ x.partners.length < 64 ∧ (∀ p ∈ x.partners, p.sid < 64) ∧ x.partners ≠ [] :=
  ⟨by decide, { time := 2 ^ 64 - 1, partners := [{ sid := 63, node := 7, t1 := some (1, 2), t2 := none }] }, by decide⟩

/-- An INPUT_IMAGE of cycle 20. -/
def image20 (values : Chans) : InputImage := { cycle := 20, time := 500, cut := 4, values := values }

/-- A SET of lane B. -/
def setB (rendezvous : Bool) : SetMsg := { sender := .b, rendezvous := rendezvous, held := 7 }

theorem witness_ExposeExchanges :
    (∃ (s s' : State) (t u : Time) (l k : Lane) (ch ch' : Chan) (x : InputImage) (words words' : List W32),
      (s.begin t).injected (0x060 + Chan.idx ch) [] = false ∧ words = laneMessage 1 k x.words ∧ x.words.length + 2 < 2 ^ 20 ∧
      inputOf x.words = some x ∧ k ≠ l ∧ Chan.between l k = ch ∧ (s.lane l).phase.exchanges = true ∧ (s.chan ch).absent = false ∧
      (s.lane l).exposed l = false ∧ max s.now t ≤ (s.lane l).boundary + s.exposeNs ∧ (s.lane l).boundary + s.exposeNs < max s.now u ∧
      (s.begin u).injected (0x060 + Chan.idx ch) [] = false ∧ Chan.between l k ≠ ch' ∧ (s'.chan ch').error = true ∧
      (s'.begin t).injected (0x060 + Chan.idx ch') [] = false ∧ (∀ j body, openMessage words' ≠ some (1, j, body))) ∧
    (∃ (s : State) (t : Time), s.punctual t ∧ s.alive = true ∧ s.cyc.phase = .expose ∧ (s.begin t).closesExpose false = Lane.all) ∧
    (∃ (s : State) (t : Time) (l k : Lane) (ch : Chan) (m : SetMsg) (words : List W32), s.punctual t ∧
      words = laneMessage 3 k (m.words s.cyc.cycle) ∧ m.sender = k ∧ s.newSet l k ch m words ∧
      (false = true ↔ (m.rendezvous = true ∧ s.cyc.phase ≠ .voteWait) ∨ s.exchangeClose m.rendezvous l + 10000 < max s.now t) ∧
      ((s.begin t).keepSet l k ch m false).holdsSets (s.cyc.phase = .voteWait) l = false) ∧
    (∃ (s : State) (t : Time) (l k : Lane) (ch : Chan) (m : SetMsg) (words : List W32), s.punctual t ∧
      words = laneMessage 3 k (m.words s.cyc.cycle) ∧ m.sender = k ∧ s.newSet l k ch m words ∧
      (true = true ↔ (m.rendezvous = true ∧ s.cyc.phase ≠ .voteWait) ∨ s.exchangeClose m.rendezvous l + 10000 < max s.now t) ∧
      ((s.begin t).keepSet l k ch m true).holdsSets (s.cyc.phase = .voteWait) l = false) ∧
    (∃ (s : State) (t : Time) (l k : Lane) (ch : Chan), s.punctual t ∧ (Lane.chans l).contains ch = true ∧
      (s.lane l).passed.contains (k, false) = true ∧ s.holdsSets (s.cyc.phase = .voteWait) l = false) :=
  ⟨⟨at_ .expose, { at_ .expose with chanBC := { error := true } }, 1001000000, 1001000001, .a, .b, .ab, .bc, image20 5, _, [],
      by decide +kernel, rfl, by decide +kernel, by decide +kernel, by decide, rfl, rfl, rfl, by decide +kernel, by decide +kernel,
      by decide +kernel, by decide +kernel, by decide, rfl, by decide +kernel, fun j body h => by cases h⟩,
    ⟨at_ .expose, 1001000000, punctual_of (by decide +kernel), by decide +kernel, rfl, by decide +kernel⟩,
    ⟨at_ .setWait, 1001000001, .a, .b, .ab, setB false, _, punctual_of (by decide +kernel), rfl, rfl, by unfold State.newSet; decide +kernel,
      by decide +kernel, by decide +kernel⟩,
    ⟨at_ .setWait, 1001000001, .a, .b, .ab, setB true, _, punctual_of (by decide +kernel), rfl, rfl, by unfold State.newSet; decide +kernel,
      by decide +kernel, by decide +kernel⟩,
    ⟨{ at_ .setWait with laneA := { lane .voting with passed := [(.b, false)] } }, 1001000001, .a, .b, .ab, punctual_of (by decide +kernel),
      by decide +kernel, by decide +kernel, by decide +kernel⟩⟩

/-- A lane that holds all three images and a full SET of each lane in a list. -/
def informed (senders : List Lane) : LaneRec :=
  { lane .voting with
    heldIn := [(.a, image20 5), (.b, image20 4), (.c, image20 6)]
    sets := senders.map fun k => { sender := k, rendezvous := false, held := 7 } }

/-- Lane B holds such images and SETs after Expose. -/
def exposed (senders : List Lane) (mode : Mode) : State :=
  { at_ .setWait with cyc := { (at_ .setWait).cyc with mode := mode }, laneB := informed senders }

theorem witness_ConsensusFormed :
    (∀ mode ∈ [Mode.run, .stop], ∃ (s v : State) (t : Time) (l : Lane) (c : Instr) (used : BitVec 3) (imgs : List InputImage),
      s.cyc.mode = mode ∧ s.punctual t ∧ s.cyc.phase = .setWait ∧ s.isVoting l = true ∧ s.decides v false t l c ∧
      used = v.usedAt false l ∧ 2 ≤ (lanesOf used).length ∧ laneIn used l = true ∧
      imgs = ((s.lane l).heldIn.filter fun x => x.2.cycle = s.cyc.cycle ∧ laneIn used x.1 = true).map (fun x => x.2) ∧
      s.fencedOut imgs = false ∧ (∀ e ∈ s.net.entries, s.faultyEntry e = false)) ∧
    (∃ (s v : State) (t : Time) (l : Lane) (ch : Chan) (words : List W32), s.punctual t ∧ s.cyc.phase = .setWait ∧
      s.isVoting l = true ∧ s.decides v false t l (.set t l ⟨ch, words⟩) ∧ 2 ≤ (lanesOf (v.usedAt false l)).length) ∧
    (∃ (s v : State) (t : Time) (l : Lane) (c : Instr), s.punctual t ∧ s.cyc.phase = .setWait ∧ s.isVoting l = true ∧
      s.decides v false t l c ∧ v.noneUsed false = true ∧ s.cyc.mode = .stop) ∧
    (∃ (s v : State) (t : Time) (l : Lane) (c : Instr), s.punctual t ∧ s.cyc.phase = .setWait ∧ s.isVoting l = true ∧
      s.decides v false t l c ∧ v.noneUsed false = true ∧ s.cyc.mode ≠ .stop ∧ s.calm ∧ s.heldWithout none ∧ (∀ k, s.baseline k 0x074) ∧
      s.cyc.skips < s.cs.skipLimit ∧ ∀ k, (s.lane k).torn = []) :=
  ⟨fun mode h => ⟨exposed Lane.all mode, _, 1001010000, .b, .setWaitExpiry 1001010000 .b, _, _, rfl, by
        simp only [List.mem_cons, List.not_mem_nil, or_false] at h
        obtain rfl | rfl := h <;> exact punctual_of (by decide +kernel), rfl, rfl, .inl ⟨rfl, rfl, by
        simp only [List.mem_cons, List.not_mem_nil, or_false] at h
        obtain rfl | rfl := h <;> decide +kernel⟩, rfl, by
        simp only [List.mem_cons, List.not_mem_nil, or_false] at h
        obtain rfl | rfl := h <;> decide +kernel, by
        simp only [List.mem_cons, List.not_mem_nil, or_false] at h
        obtain rfl | rfl := h <;> decide +kernel, rfl, by
        simp only [List.mem_cons, List.not_mem_nil, or_false] at h
        obtain rfl | rfl := h <;> decide +kernel, fun e he => by cases he⟩,
    ⟨exposed [.b, .c] .run, _, 1001010000, .b, .ab, _, punctual_of (by decide +kernel), rfl,
      rfl, .inr ⟨.a, .ab, { sender := .a, rendezvous := false, held := 7 }, _, rfl,
        ⟨rfl, rfl, by decide, by decide +kernel, by decide +kernel, by decide +kernel⟩, rfl, by decide +kernel, rfl, by decide +kernel⟩,
      by decide +kernel⟩,
    ⟨{ at_ .setWait with cyc := { up.cyc with phase := .setWait } }, _, 1001010000, .b, .setWaitExpiry 1001010000 .b,
      punctual_of (by decide +kernel), rfl, rfl, .inl ⟨rfl, rfl, by decide +kernel⟩, by decide +kernel, rfl⟩,
    ⟨at_ .setWait, _, 1001010000, .b, .setWaitExpiry 1001010000 .b, punctual_of (by decide +kernel), rfl, rfl,
      .inl ⟨rfl, rfl, by decide +kernel⟩, by decide +kernel, by decide, calm_of (by decide +kernel), held_of (by decide +kernel) _,
      fun k => baseline_of (by decide +kernel) k _, by decide, lanes (by decide +kernel)⟩⟩

/-- A result without railway. -/
def result (outputs : Chans) : DevResult := { rail := {}, answers := [], taken := [], outputs := outputs }

/-- Develop with a result, which lane B has completed, in a mode. -/
def developing (mode : Mode) (entries : List Entry) : State :=
  { at_ .develop with laneB := { lane .voting with devDone := true, delta := 5 }, net := { entries := entries, mirrorPorts := [{}, { up := true }] },
                      cyc := { (at_ .develop).cyc with mode := mode, dev := some (result 0), cons := { cut := 9 }, hold := some { since := 5 } } }

/-- A MODE_SET HOLD with or without force-safe. -/
def holdEntry (safe : Byte) : Entry :=
  { adm := 3, op := 0x0501, payload := [2, safe, 0, 0], sid := 1, tray := 5, prio := 15, cmdSeq := 64, arrived := 5, limit := none, cycle := 19,
    service := false, holdsOp := false }

/-- Lane A has completed Develop with a delta, at 1.035 s. -/
def developedA (s : State) (delta : W64) : State :=
  { s.begin 1035000000 with cyc.dev := some (s.cyc.dev.getD (s.begin 1035000000).developResult) }.modLane .a fun r =>
    { r with devDone := true, delta := delta }

theorem witness_DevelopEnds :
    (∃ s delta, State.punctual s 1035000000 ∧ s.cyc.phase = .develop ∧ (s.lane .a).phase.exchanges = true ∧ (s.lane .a).devDone = false ∧
      (developedA s delta).developed.length < 2) ∧
    (∀ safe ∈ [(0 : Byte), 1], ∃ s, State.punctual s 1035000000 ∧ s.cyc.phase = .develop ∧ (s.lane .a).phase.exchanges = true ∧
      (s.lane .a).devDone = false ∧ 2 ≤ (developedA s 5).developed.length ∧ s.cyc.mode = .run ∧
      (developedA s 5).holdRequest = some (holdEntry safe) ∧ s.test = none) ∧
    (∃ s, State.punctual s 1035000000 ∧ s.cyc.phase = .develop ∧ (s.lane .a).phase.exchanges = true ∧ (s.lane .a).devDone = false ∧
      2 ≤ (developedA s 5).developed.length ∧ s.cyc.mode = .run ∧ (developedA s 5).holdRequest = none ∧ s.pair.role ≠ .active) ∧
    (∃ s, State.punctual s 1035000000 ∧ s.cyc.phase = .develop ∧ (s.lane .a).phase.exchanges = true ∧ (s.lane .a).devDone = false ∧
      2 ≤ (developedA s 5).developed.length ∧ s.cyc.mode = .run ∧ (developedA s 5).holdRequest = none ∧ s.pair.role = .active ∧
      ((developedA s 5).beginHandover s.cyc.cons.cut).deltasMatch = true ∧ (s.begin 1035000000).mirrorUp = true ∧
      ((developedA s 6).beginHandover s.cyc.cons.cut).deltasMatch = false) ∧
    (∃ s h, State.punctual s 1035000000 ∧ s.cyc.phase = .develop ∧ (s.lane .a).phase.exchanges = true ∧ (s.lane .a).devDone = false ∧
      2 ≤ (developedA s 5).developed.length ∧ s.cyc.mode = .hold ∧ s.cyc.hold = some h) ∧
    (∀ sent : Bool, ∃ (s : State) (t : Time), s.alive = true ∧ 2 ≤ s.votes ∧ s.cyc.phase = .mirror ∧
      s.cyc.start + deadlineNs s.cs s.cs.mirror ≤ t ∧ s.pair.lease.handover = none ∧ s.pair.lease.sent = sent ∧ s.pair.role = .active ∧
      (s.begin t).mirrorUp = true) :=
  ⟨⟨at_ .develop, 5, punctual_of (by decide +kernel), by decide +kernel⟩,
    fun safe h => ⟨developing .run [holdEntry safe], by
      simp only [List.mem_cons, List.not_mem_nil, or_false] at h
      obtain rfl | rfl := h <;> exact ⟨punctual_of (by decide +kernel), by decide +kernel⟩⟩,
    ⟨developing .run [], punctual_of (by decide +kernel), by decide +kernel⟩,
    ⟨{ developing .run [] with pair := { role := .active }, v := { up.v with strap := 1 } }, punctual_of (by decide +kernel), by decide +kernel⟩,
    ⟨developing .hold [], _, punctual_of (by decide +kernel), by decide +kernel, rfl, rfl, by decide +kernel, rfl, rfl⟩,
    fun sent => ⟨{ developing .run [] with pair := { role := .active, lease := { sent := sent } }, v := { up.v with strap := 1 },
                                           cyc := { (at_ .mirror).cyc with hold := none } }, 1040000000, by
      cases sent <;> decide +kernel⟩⟩

/-- A rendezvous that waits for lane A, where B and C bring images. -/
def rendezvous (y z : OutputImage) : State :=
  { at_ .rendezvous with
    cyc := { (at_ .rendezvous).cyc with dev := some (result 5), devJudged := true }
    laneA := { lane .voting with devDone := true }
    laneB := { lane .voting with devDone := true, image := some y, arrived := some 1030000000 }
    laneC := { lane .voting with devDone := true, image := some z, arrived := some 1031000000 } }

/-- The image of a healthy lane in that cycle. -/
def healthy : OutputImage := (rendezvous {} {}).healthyImage (result 5)

/-- A lane at the vote instant with its image, informed of what each of some lanes holds. -/
def atVote (x : Option OutputImage) (senders : List Lane) : LaneRec :=
  { lane .voting with
    devDone := true, image := x, arrived := x.map fun _ => 1030000000
    sets := senders.map fun k => { sender := k, rendezvous := true, held := laneMask senders } }

/-- The vote instant of cycle 20 at 1.032 s, with images of the three lanes. -/
def voting (x y z : Option OutputImage) (senders : List Lane) : State :=
  { at_ .voteWait with
    cyc := { (at_ .voteWait).cyc with dev := some (result 5), voteAt := 1032000000 }
    laneA := atVote x senders, laneB := atVote y senders, laneC := atVote z senders }

/-- The hypotheses of `VoteCommits` on a decision at that vote that do not depend on the images. -/
def decisive (s : State) : Prop :=
  ∃ v c, s.decides v true 1032010000 .a c ∧ v = s.begin 1032010000 ∧ s.punctual 1032010000 ∧ s.idling ∧ s.calm ∧ s.net.sessions = [] ∧ s.alive = true ∧
    s.cyc.phase = .voteWait ∧ s.cyc.mode = .run ∧ s.holdsLamp = true ∧ s.cyc.dev = some (result 5) ∧ s.flt.safelight.on = false ∧
    (∀ k, (s.lane k).phase = .voting) ∧ healthy = s.healthyImage (result 5)

theorem decisive_of {x y z : Option OutputImage} {senders : List Lane}
    (hp : ((voting x y z senders).begin 1032010000).overdue = (voting x y z senders).begin 1032010000 ∧
      (voting x y z senders).exchangeClose true .a + 10000 ≤ 1032010000)
    (hh : healthy = (voting x y z senders).healthyImage (result 5)) : decisive (voting x y z senders) :=
  have h1 : (voting x y z senders).idling := ⟨scans_of (lanes ⟨rfl, rfl, rfl⟩), rfl, rfl, rfl, rfl, rfl, rfl, rfl, rfl, rfl⟩
  have h2 : (voting x y z senders).calm := ⟨lanes ⟨rfl, rfl, rfl⟩, rfl, rfl⟩
  ⟨_, .setWaitExpiry 1032010000 .a, .inl ⟨rfl, rfl, hp.2⟩, rfl, punctual_of hp.1, h1, h2, rfl,
    rfl, rfl, rfl, rfl, rfl, rfl, lanes ⟨rfl, rfl, rfl⟩, hh⟩

theorem witness_VoteCommits :
    (∃ (s : State) (t : Time) (l : Lane) (d : DevResult) (e : ImageError) (x : Lane → OutputImage), s.cyc.dev.isSome = true ∧
      (s.begin t).leaseLapsed = false ∧ s.punctual t ∧ s.isVoting l = true ∧ (s.lane l).devDone = true ∧ (s.lane l).image = none ∧
      s.cyc.phase = .rendezvous ∧ s.cyc.dev = some d ∧ x l = (s.begin t).imageOf d l e ∧
      ∀ k, k ≠ l → s.isVoting k = true → (s.lane k).image = some (x k)) ∧
    (∃ (s : State) (t : Time) (x : Lane → OutputImage), s.cyc.dev.isSome = true ∧ (s.begin t).leaseLapsed = false ∧ s.alive = true ∧
      s.cyc.phase = .rendezvous ∧ s.votes = 3 ∧ s.present.length = 2 ∧
      ∀ k ∈ s.present, (s.lane k).image = some (x k) ∧ ∃ a, (s.lane k).arrived = some a ∧ a + s.windowNs ≤ t) ∧
    (∃ s, decisive s ∧ (s.begin 1032010000).usedAt true .a = 7 ∧ ∀ k, (s.lane k).image = some healthy) ∧
    (∃ s k x, decisive s ∧ (s.begin 1032010000).usedAt true .a = 7 ∧ (s.lane k).image = some x ∧ x.agrees healthy = false ∧
      (∀ j, j ≠ k → (s.lane j).image = some healthy) ∧ s.baseline k 0x042) ∧
    (∃ s x y z, decisive s ∧ (s.begin 1032010000).usedAt true .a = 7 ∧ s.laneA.image = some x ∧ s.laneB.image = some y ∧
      s.laneC.image = some z ∧ x.digest ≠ y.digest ∧ y.digest ≠ z.digest ∧ z.digest ≠ x.digest) ∧
    (∃ (s : State) (j k o : Lane), decisive s ∧ j ≠ k ∧ o ≠ j ∧ o ≠ k ∧ .a ≠ o ∧ (s.begin 1032010000).usedAt true .a = laneMask [j, k] ∧
      (s.lane j).image = some healthy ∧ (s.lane k).image = some healthy ∧ (s.lane o).image = none) ∧
    (∃ (s : State) (j k o : Lane) (x y : OutputImage), decisive s ∧ j ≠ k ∧ o ≠ j ∧ o ≠ k ∧ .a ≠ o ∧
      (s.begin 1032010000).usedAt true .a = laneMask [j, k] ∧ (s.lane j).image = some x ∧ (s.lane k).image = some y ∧
      x.agrees y = false ∧ y.agrees x = false ∧ (s.begin 1032010000).past s.cs.fixLatest false = false ∧ s.cyc.counted = false ∧
      (s.lane o).tardyTotal ≠ 0xFFFFFF) :=
  ⟨⟨rendezvous healthy healthy, 1032000000, .a, result 5, {}, fun _ => healthy, rfl, by decide +kernel, punctual_of (by decide +kernel), rfl, rfl,
      rfl, rfl, rfl, by decide +kernel, fun k h _ => by cases k <;> first | exact absurd rfl h | rfl⟩,
    ⟨rendezvous healthy healthy, 1036000000, fun _ => healthy, rfl, by decide +kernel, rfl, rfl, by decide +kernel, by decide +kernel,
      fun k h => by
        have hk : k = .b ∨ k = .c := by revert k; decide +kernel
        obtain rfl | rfl := hk
        · exact ⟨rfl, _, rfl, by decide +kernel⟩
        · exact ⟨rfl, _, rfl, by decide +kernel⟩⟩,
    ⟨voting (some healthy) (some healthy) (some healthy) Lane.all, decisive_of (by decide +kernel) (by decide +kernel), by decide +kernel,
      lanes ⟨rfl, rfl, rfl⟩⟩,
    ⟨voting (some healthy) (some { healthy with outputs := 4 }) (some healthy) Lane.all, .b, _,
      decisive_of (by decide +kernel) (by decide +kernel), by decide +kernel, rfl, by decide +kernel,
      fun j h => by cases j <;> first | exact absurd rfl h | rfl, baseline_at rfl rfl _⟩,
    ⟨voting (some healthy) (some { healthy with digest := healthy.digest ^^^ 1 }) (some { healthy with digest := healthy.digest ^^^ 2 }) Lane.all,
      _, _, _, decisive_of (by decide +kernel) (by decide +kernel), by decide +kernel, rfl, rfl, rfl, by decide +kernel⟩,
    ⟨voting (some healthy) (some healthy) none [.a, .b], .a, .b, .c, decisive_of (by decide +kernel) (by decide +kernel), by decide, by decide,
      by decide, by decide, by decide +kernel, rfl, rfl, rfl⟩,
    ⟨voting (some healthy) (some { healthy with telegram := 1 }) none [.a, .b], .a, .b, .c, _, _,
      decisive_of (by decide +kernel) (by decide +kernel), by decide, by decide, by decide, by decide, by decide +kernel, rfl, rfl,
      by decide +kernel, by decide +kernel, by decide +kernel, rfl, by decide⟩⟩

/-- The hypotheses of `CycleSkipped` but for its deadlines. -/
def skippable (s : State) (t : Time) : Prop :=
  s.punctual t ∧ s.whole ∧ s.alive = true ∧ s.cyc.mode = .run ∧ s.calm ∧ s.heldWithout none ∧ (∀ l, s.baseline l 0x074) ∧
  s.cyc.skips < s.cs.skipLimit ∧ ∀ l, (s.lane l).torn = []

/-- A phase of cycle 20 in which lane A alone has got as far as it can. -/
def lagging (phase : CyclePhase) : State :=
  { at_ phase with laneA := { lane .voting with devDone := true, image := some {} },
                   cyc := { (at_ phase).cyc with skips := 1, devJudged := decide (phase ≠ .develop) } }

theorem skippable_of {phase : CyclePhase} {t : Time} (hp : ((lagging phase).begin t).overdue = (lagging phase).begin t) :
    skippable (lagging phase) t :=
  ⟨hp, whole_of rfl rfl, rfl, rfl, ⟨lanes ⟨rfl, rfl, rfl⟩, rfl, rfl⟩, held_of rfl _, lanes ⟨baseline_at rfl rfl _, baseline_at rfl rfl _,
    baseline_at rfl rfl _⟩, (by decide : 1 < 2), lanes ⟨rfl, rfl, rfl⟩⟩

theorem witness_CycleSkipped :
    (∃ s t, skippable s t ∧ s.cyc.phase = .develop ∧ s.cyc.start + deadlineNs s.cs s.cs.develop ≤ t ∧
      (Lane.all.filter fun l => (s.lane l).devDone).length < 2) ∧
    (∃ s t, skippable s t ∧ s.cyc.phase = .rendezvous ∧ s.cyc.start + deadlineNs s.cs s.cs.fixLatest ≤ t ∧
      (Lane.all.filter fun l => (s.lane l).image.isSome).length < 2) ∧
    (∃ s t, skippable s t ∧ s.cyc.phase = .waitThird ∧ s.cyc.start + deadlineNs s.cs s.cs.fixLatest ≤ t) :=
  ⟨⟨lagging .develop, 1035000000, skippable_of (by decide +kernel), rfl, by decide, by decide⟩,
    ⟨lagging .rendezvous, 1042500000, skippable_of (by decide +kernel), rfl, by decide, by decide⟩,
    ⟨lagging .waitThird, 1042500000, skippable_of (by decide +kernel), rfl, by decide⟩⟩

/-- The module after the Fix of cycle 20, with the image that was voted. -/
def fixed (a : LaneRec) : State :=
  { at_ .done with laneA := a, cyc := { (at_ .done).cyc with voted := some { cycle := 20 }, devJudged := true } }

theorem witness_LanesOutOfStep :
    (∀ a ∈ [(0x043, { lane .voting with lateDue := true }), (0x042, { lane .probation with lateDue := true }),
        (0x041, { lane .voting with tardyRun := 3 }), (0x040, { lane .voting with minority := [(.channel 5, 3)] }),
        (0x043, { lane .voting with lateDue := true, devDone := true }), (0x042, { lane .probation with lateDue := true, devDone := true })],
      ∃ t, (fixed a.2).punctual t ∧ (fixed a.2).alive = true ∧ (fixed a.2).calm ∧ (fixed a.2).baseline .a a.1 ∧
        (fixed a.2).heldWithout (some .a) ∧ ((fixed a.2).lane .a).phase = a.2.phase ∧
        (fixed a.2).nextBoundary ≤ t ∧ 2 ≤ (fixed a.2).votes) ∧
    (∃ (v : OutputImage) (e : ImageError), (v.disturb e).agrees v = false) ∧
    (∀ p ∈ [LanePhase.voting, .probation], ∃ (s : State) (t : Time) (v : OutputImage) (e : ImageError), s.punctual t ∧ s.cyc.voted = some v ∧
      v.cycle = s.cyc.cycle ∧ s.cyc.phase = .done ∧ (s.lane .a).lateDue = true ∧ (s.lane .a).devDone = true ∧ (s.lane .a).phase = p ∧
      (s.lane .a).calls = 0 ∧ (v.disturb e).agrees v = true) ∧
    (∃ s : State, s.flt.safelight.on = false ∧ s.cs.skipLimit < s.cyc.skips) ∧ (∃ s : State, s.cyc.skips ≤ s.cs.skipLimit) ∧
    (∃ s : State, s.flt.safelight.on = false ∧ (s.lane .a).phase = .voting ∧ s.votes = 2 ∧
      ∃ i n, (InKey.channel i, n) ∈ (s.lane .a).minority ∧ 3 ≤ n) := by
  refine ⟨fun a h => ⟨1050000000, ?_⟩, ⟨{}, { digest := 1 }, by decide⟩,
    fun p h => ⟨fixed { lane p with lateDue := true, devDone := true, matched := 2 }, 1045000000, { cycle := 20 }, {}, ?_, rfl, rfl, rfl, rfl, rfl,
      rfl, rfl, by decide⟩,
    ⟨{ up with cyc := { up.cyc with skips := 3 } }, by decide⟩, ⟨{ up with cyc := { up.cyc with skips := 2 } }, by decide⟩,
    ⟨{ up with laneA := { lane .voting with minority := [(.channel 95, 3)] }, laneC := lane .withdrawn }, rfl, rfl, by decide +kernel, 95, 3,
      by decide, by decide⟩⟩
  · simp only [List.mem_cons, List.not_mem_nil, or_false] at h
    rcases h with rfl | rfl | rfl | rfl | rfl | rfl <;>
      exact ⟨punctual_of (by decide +kernel), rfl, calm_of (by decide +kernel), baseline_of (by decide +kernel) _ _,
        .inr (.inr (by decide +kernel)), rfl, by decide +kernel, by decide +kernel⟩
  · simp only [List.mem_cons, List.not_mem_nil, or_false] at h
    obtain rfl | rfl := h <;> exact punctual_of (by decide +kernel)

/-- An entry of the cut with a limit. -/
def entry (op : W16) (payload : List Byte) : Entry :=
  { adm := 3, op := op, payload := payload, sid := 1, tray := 5, prio := 8, cmdSeq := 1, arrived := 900000000,
    limit := some 999999999, service := false, cycle := 20, holdsOp := false }

theorem witness_ReleasesWithoutFix :
    (∃ (s : State) (e : Entry) (front rest : List Entry) (w : Time), s.net.entries = front ++ e :: rest ∧
      (∀ x ∈ front ++ rest, x.adm ≠ e.adm) ∧ e.limit = some w ∧ w < s.cyc.start) ∧
    (∃ (s : State) (e : Entry) (w : Time), s.net.entries = [e] ∧ e.limit = some w ∧ s.cyc.start ≤ w) ∧
    (∃ (s : State) (t u : Time) (h : HoldRec), s.cyc.hold = some h ∧ h.since + 600000000000 ≤ t ∧ max s.now u < h.since + 600000000000) ∧
    (∃ (s : State) (t : Time), s.punctual t ∧ s.idling ∧ (∀ l, (s.lane l).torn = []) ∧ s.cyc.mode = .stop ∧ s.cyc.phase = .release ∧
      2 ≤ s.votes ∧ s.cyc.start + s.exposeNs ≤ t ∧ ∀ l, (s.lane l).phase ≠ .resync) ∧
    (∃ (s : State) (t : Time) (h : HoldRec), s.punctual t ∧ s.idling ∧ (∀ l, (s.lane l).torn = []) ∧ 2 ≤ s.votes ∧
      s.cyc.start + s.exposeNs ≤ t ∧ (∀ l, (s.lane l).phase ≠ .resync) ∧ s.cyc.mode = .hold ∧ s.cyc.phase = .halted ∧
      s.cyc.hold = some h ∧ h.stepping = false ∧ h.resume = [] ∧ s.cyc.modeDue = none ∧ s.cyc.fenceCycle ≠ s.cyc.cycle.setWidth 32 ∧
      s.holdsLamp = true) ∧
    (∃ s : State, s.alive = true ∧ s.flt.safelight.on = true ∧ s.votes < 2) ∧ (∃ s : State, 2 ≤ s.votes) :=
  ⟨⟨{ up with net := { entries := [{ entry 1 [] with adm := 2 }, entry 2 []] } }, entry 2 [], [{ entry 1 [] with adm := 2 }], [], _, rfl,
      by decide, rfl, by decide⟩,
    ⟨{ up with net := { entries := [{ entry 1 [] with limit := some 1000000000 }] } }, _, _, rfl, rfl, by decide⟩,
    ⟨{ up with cyc := { up.cyc with mode := .hold, hold := some { since := 5 } } }, 600000000005, 600000000004, _, rfl, by decide, by decide⟩,
    ⟨{ up with cyc := { up.cyc with phase := .release } }, 1001000000, punctual_of (by decide +kernel),
      idling_of rfl, lanes ⟨rfl, rfl, rfl⟩, rfl, rfl, by decide +kernel, by decide +kernel, lanes (by decide +kernel)⟩,
    ⟨{ up with cyc := { up.cyc with phase := .halted, mode := .hold, hold := some { since := 5 } } }, 1001000000, _,
      punctual_of (by decide +kernel), idling_of rfl, lanes ⟨rfl, rfl, rfl⟩, by decide +kernel, by decide +kernel, lanes (by decide +kernel), rfl,
      rfl, rfl, rfl, rfl, rfl, by decide, rfl⟩,
    ⟨{ up with laneB := lane .withdrawn, laneC := lane .barred, flt := { safelight := { on := true } } }, by decide +kernel⟩,
    ⟨up, by decide +kernel⟩⟩

/-! References, the pair, supplies, images -/

/-- `up` with other facts of V's references. -/
def synced (sync : BitVec 2) (mode : Mode) (x : Sync) : State :=
  { up with v := { up.v with sync := x, ptp := { valid := true } }, cyc := { up.cyc with mode := mode, settings := { cycle := { sync := sync } } } }

theorem witness_ReferenceTime :
    (∃ (s : State) (t : Time), s.now ≤ t ∧ s.alive = true ∧ 2 ≤ s.votes ∧ s.cs.sync = 2 ∧ (s.begin t).ptpMultiple = true ∧
      s.cyc.mode = .stop ∧ s.v.sync.aligned = false ∧ (∀ l, s.isVoting l = true → (s.lane l).boundary = s.cyc.start) ∧
      s.cyc.start ≤ t ∧ s.v.sync.adjust = 0) ∧
    (∃ (s : State) (t u : Time), s.now ≤ t ∧ s.now ≤ u ∧ s.alive = true ∧ 2 ≤ s.votes ∧ s.cs.sync = 1 ∧
      (∀ w, s.v.sync.lastEdge = some w → s.periodNs ≤ 2 * (t - w) ∧ s.periodNs ≤ 2 * (u - w)) ∧ s.cyc.mode ≠ .stop ∧
      2 ≤ ((s.begin t).offsets.filter fun e => 4 * e.natAbs ≤ s.periodNs).length ∧
      ((s.begin u).offsets.filter fun e => 4 * e.natAbs ≤ s.periodNs).length < 2 ∧ s.calm ∧ s.heldWithout none ∧
      (∀ l, (s.lane l).phase.live = true ∧ s.baseline l 0x075) ∧ s.v.sync.outOfWindow ≠ 0xFFFFFFFF) ∧
    (∃ (s : State) (t w : Time), s.now ≤ t ∧ s.alive = true ∧ 2 ≤ s.votes ∧ s.cs.sync = 1 ∧ s.v.sync.lastEdge = some w ∧
      2 * (t - w) < s.periodNs ∧ s.v.sync.outOfWindow ≠ 0xFFFFFFFF) ∧
    (∃ s : State, s.v.sync.missed < 8 ∧ s.cs.sync ≠ 0) ∧
    (∃ s : State, 8 ≤ s.v.sync.missed ∧ s.v.sync.lost = false ∧ s.cs.sync ≠ 0 ∧ s.calm ∧ s.heldWithout none ∧
      ∀ l, (s.lane l).phase.live = true ∧ s.baseline l 0x075) ∧
    (∃ (s : State) (m n n' n'' : PtpMsg), s.alive = true ∧ (s.begin t1).portUsable (.h m.port) = true ∧ m.domain = s.trust.cfg.ptpDomain ∧
      m.announce = true ∧ s.v.ptp.masters = [] ∧ n.port = m.port ∧ n.domain = m.domain ∧ n.announce = false ∧ n.ratePpm ≤ 100 ∧
      n.offset.natAbs < 1000 ∧ n' = { n with offset := -100001 } ∧ 100000 < n'.offset.natAbs ∧ n'' = { n with domain := 127 } ∧
      n''.domain ≠ s.trust.cfg.ptpDomain ∧ ∀ good, good ≤ 15 → ∃ s' : State, s' = { s with v := { s.v with ptp :=
        { masters := [(9, 1)], selected := some 9, good := good } } } ∧ s'.v.ptp.selected = some n.master ∧ s'.v.ptp.valid = false ∧
        s'.v.ptp.good = good ∧ s'.alive = true ∧ (s'.begin t1).portUsable (.h n.port) = true) ∧
    (∃ (s : State) (n n' : PtpMsg), s.v.ptp.valid = true ∧ s.v.ptp.selected = some n.master ∧ n.offset.natAbs = 1000 ∧ n.ratePpm = 100 ∧
      s.alive = true ∧ (s.begin t1).portUsable (.h n.port) = true ∧ n.domain = s.trust.cfg.ptpDomain ∧ n' = { n with ratePpm := 101 }) := by
  let master : Ptp := { valid := true, masters := [(9, 1)], selected := some 9, good := 16 }
  exact ⟨⟨synced 2 .stop {}, 1050000000, by decide, by decide +kernel, by decide +kernel, rfl, by decide +kernel, rfl, rfl,
      lanes ⟨fun _ => rfl, fun _ => rfl, fun _ => rfl⟩, by decide, rfl⟩,
    ⟨synced 1 .run { aligned := true, lastEdge := some 980000000 }, 1012500000, 1012500001, by decide, by decide, by decide +kernel,
      by decide +kernel, rfl, fun w h => by cases h; decide +kernel, by decide, by decide +kernel, by decide +kernel,
      calm_of (by decide +kernel), held_of (by decide +kernel) _, fun l => ⟨by cases l <;> rfl, baseline_of (by decide +kernel) _ _⟩, by decide⟩,
    ⟨synced 1 .run { lastEdge := some 980000000 }, 1004999999, 980000000, by decide, by decide +kernel, by decide +kernel, rfl, rfl,
      by decide +kernel, by decide⟩,
    ⟨synced 1 .run { missed := 7 }, by decide +kernel⟩,
    ⟨synced 1 .run { missed := 8 }, by decide, rfl, by decide, calm_of (by decide +kernel),
      held_of (by decide +kernel) _, fun l => ⟨by cases l <;> rfl, baseline_of (by decide +kernel) _ _⟩⟩,
    ⟨served, { port := 0, domain := 0, master := 9, announce := true, rank := 1 },
      { port := 0, domain := 0, master := 9, announce := false, offset := 999, ratePpm := 100 }, _, _, by decide +kernel, by decide +kernel,
      rfl, rfl, rfl, rfl, rfl, rfl, by decide, by decide, rfl, by decide, rfl, by decide, fun good _ => ⟨_, rfl, rfl, rfl, rfl, rfl, rfl⟩⟩,
    ⟨{ served with v := { served.v with ptp := master } },
      { port := 0, domain := 0, master := 9, announce := false, offset := -1000, ratePpm := 100 }, _, rfl, rfl, rfl, rfl, by decide +kernel,
      by decide +kernel, rfl, rfl⟩⟩

/-- A module of a pair, position 1, mirror port M2 up. -/
def pairUp (p : PairRec) : State :=
  { at_ .done with v := { up.v with strap := 1 }, net := { mirrorPorts := [{}, { up := true }] }, pair := p }

/-- The header, with its codes, under which a message comes from position 2 on M2. -/
def header (holds : Bool) (epoch : W32) (m : MirrorBody) : MirrorHdr :=
  let data := m.bytes {}
  let h : MirrorHdr := { port := 1, flags := if holds then 3 else 1, position := 2, seq := 7, cycle := 21, epoch := epoch, since := 1000000000,
                         length := BitVec.ofNat 16 data.length, sc1 := crc64a data, sc2 := crc64b data }
  let check := crc32c (h.head m.kind)
  { h with check := check, crc := crc32c (h.covered m.kind check (data ++ beBytes 8 h.sc1.toNat ++ beBytes 8 h.sc2.toNat)) }

theorem header_ok (holds : Bool) (epoch : W32) {m : MirrorBody} (hl : (m.bytes {}).length ≤ 1440) :
    (header holds epoch m).headerOk m.kind = true ∧ (header holds epoch m).dataOk m.kind (m.bytes {}) = true := by
  have e : (BitVec.ofNat 16 (m.bytes {}).length).toNat = (m.bytes {}).length := by
    rw [BitVec.toNat_ofNat]; exact Nat.mod_eq_of_lt (by omega)
  constructor
  · have c : (header holds epoch m).check = crc32c ((header holds epoch m).head m.kind) := rfl
    have l : (header holds epoch m).length.toNat ≤ 1440 := by rw [← e] at hl; exact hl
    simp only [MirrorHdr.headerOk, c, l, decide_true, Bool.and_true]
    cases holds <;> simp [header]
  · simp only [MirrorHdr.dataOk, header, e, Nat.sub_self, List.drop_zero, Nat.le_refl, Nat.zero_le, decide_true, Bool.true_and, Bool.and_true,
      Bool.or_true, List.append_assoc]
    simp [MirrorHdr.covered, MirrorHdr.head]

/-- What `State.hears` asks of such a message. -/
theorem hears_of {s : State} {holds : Bool} {epoch : W32} {m : MirrorBody}
    (ha : (s.alive && s.paired && s.portUsable (.m 1) && decide (s.bodyImage m = {}) && s.mirrorInTime (header holds epoch m) m &&
      !s.pair.mirror.rxSeq.contains 7 && decide (s.position ≠ 2)) = true)
    (hl : (m.bytes {}).length ≤ 1440) : s.hears (header holds epoch m) m := by
  simp only [Bool.and_eq_true, decide_eq_true_eq, Bool.not_eq_true'] at ha
  obtain ⟨⟨⟨⟨⟨⟨h1, h2⟩, h3⟩, h4⟩, h5⟩, h6⟩, h7⟩ := ha
  obtain ⟨h8, h9⟩ := header_ok holds epoch hl
  refine ⟨⟨h1, h2, h3⟩, h8, ?_, fun h => h7 h.symm, .inr rfl⟩
  rw [State.mirrorWhole, h4, h9, h5]
  exact congrArg (!·) h6

/-- A DELTA on cycle 20 whose digest and outputs are those of the state it brings. -/
def mirrored : DeltaBody :=
  let b : DeltaBody := { base := 20, time := 1000000000 }
  let r := mirrorDevelop {} {} [] b
  { b with digest := stateDigest {} r 21, outputs := holderOutputs {} r }

/-- The holder of a pair, and its partner. -/
def holding : State := pairUp { role := .active, epochOwn := 5, epochKnown := 5 }
def following (m : Mirror) : State := pairUp { role := .standby, mirror := m }

theorem witness_MirrorMessages_holder :
    (∃ (s : State) (t : Time) (b b' : AckBody) (h h' : MirrorHdr), (s.begin t).hears h (.ack b) ∧ (s.begin t).hears h' (.ack b') ∧
      s.pair.role = .active ∧ h.holds = false ∧ h'.holds = false ∧ b.epoch = s.pair.epochOwn ∧ b.cycle = s.cyc.cycle ∧
      (s.begin t).past s.cs.mirror true = false ∧ b'.epoch ≠ s.pair.epochOwn) ∧
    (∃ (s : State) (b : AnnounceBody) (h : MirrorHdr), (s.begin t1).hears h (.announce b) ∧ s.pair.role = .active ∧ h.holds = false) ∧
    (∃ (s : State) (h h' : MirrorHdr) (m m' : MirrorBody), (s.begin t1).hears h m ∧ (s.begin t1).hears h' m' ∧ s.pair.role = .active ∧
      h.holds = true ∧ h'.holds = true ∧ s.pair.epochOwn.toNat ≤ h.epoch.toNat ∧ s.flt.safelight.on = false ∧
      h'.epoch.toNat < s.pair.epochOwn.toNat) :=
  ⟨⟨holding, 1040000000, { cycle := 20, epoch := 5 }, { cycle := 20, epoch := 4 }, header false 5 (.ack { cycle := 20, epoch := 5 }),
      header false 5 (.ack { cycle := 20, epoch := 4 }), hears_of (by decide +kernel) (by decide +kernel),
      hears_of (by decide +kernel) (by decide +kernel), rfl, rfl, rfl, rfl, rfl, by decide +kernel, by decide⟩,
    ⟨holding, { role := 0, epoch := 9 }, header false 5 (.announce { role := 0, epoch := 9 }),
      hears_of (by decide +kernel) (by decide +kernel), rfl, rfl⟩,
    ⟨holding, header true 5 (.renew 20 false), header true 4 (.renew 20 false), .renew 20 false, .renew 20 false,
      hears_of (by decide +kernel) (by decide +kernel),
      hears_of (by decide +kernel) (by decide +kernel), rfl, rfl, rfl, by decide, rfl, by decide⟩⟩

theorem witness_MirrorMessages_standby :
    (∃ (s : State) (h : MirrorHdr) (b : DeltaBody) (r : Rail), (s.begin t1).hears h (.delta b) ∧ s.pair.role ≠ .active ∧
      s.pair.lease.handover = none ∧ s.pair.mirror.stopped = false ∧ s.pair.mirror.wantBulk = false ∧ s.pair.mirror.differs = false ∧
      (s.begin t1).mirrorUp = true ∧ s.pair.mirror.committed = some b.base ∧ s.pair.mirror.pendingCycle ≠ some b.base ∧
      r = mirrorDevelop s.image s.rail (nextMissed s.pair.mirror.missed b.partners) b ∧
      stateDigest s.image r h.cycle = b.digest ∧ holderOutputs s.image r = b.outputs) ∧
    (∀ base ∈ [20, 21, 22], ∃ (s : State) (h : MirrorHdr) (r : Rail), (s.begin t1).hears h (.renew base false) ∧ s.pair.role ≠ .active ∧
      s.pair.lease.handover = none ∧ s.pair.mirror.stopped = false ∧ s.pair.mirror.wantBulk = false ∧ s.pair.mirror.differs = false ∧
      (s.begin t1).mirrorUp = true ∧ s.pair.mirror.pendingCycle = some 21 ∧ s.pair.mirror.pendingRail = some r ∧
      s.pair.mirror.committed = some 20) ∧
    (∃ (s : State) (h : MirrorHdr) (b : BulkBody), (s.begin t1).hears h (.bulk b) ∧ s.pair.role ≠ .active ∧ s.pair.lease.handover = none ∧
      s.pair.mirror.stopped = false ∧ s.pair.mirror.wantBulk = true ∧ s.pair.mirror.held = [] ∧ b.logicHash = s.image.hdr.hash) ∧
    (∃ (s : State) (h : MirrorHdr), (s.begin t1).hears h (.release 20 1) ∧ s.pair.role ≠ .active ∧ s.pair.lease.handover = none ∧
      s.pair.mirror.stopped = false) :=
  ⟨⟨following { committed := some 20 }, header true 5 (.delta mirrored), mirrored, _,
      hears_of (by decide +kernel) (by decide +kernel), by decide, rfl, rfl, rfl, rfl, by decide +kernel, rfl,
      by decide, rfl, by decide +kernel, by decide +kernel⟩,
    fun base hb => ⟨following { committed := some 20, pendingCycle := some 21, pendingRail := some {} }, header true 5 (.renew base false), {},
      by simp only [List.mem_cons, List.not_mem_nil, or_false] at hb
         obtain rfl | rfl | rfl := hb <;> exact hears_of (by decide +kernel) (by decide +kernel),
      by decide, rfl, rfl, rfl, rfl, by decide +kernel, rfl, rfl, rfl⟩,
    ⟨following { wantBulk := true }, header true 5 (.bulk { base := 20, rail := {} }), { base := 20, rail := {} },
      hears_of (by decide +kernel) (by decide +kernel), by decide, rfl, rfl, rfl, rfl, rfl⟩,
    ⟨following {}, header true 5 (.release 20 1), hears_of (by decide +kernel) (by decide +kernel), by decide, rfl, rfl⟩⟩

/-- The holder's report that agrees with `pairUp`. -/
def agreed : HolderReport := { cycle := {}, pair := {}, channels := [], logic := 0 }

/-- The module at an instant that is the boundary of its cycle. -/
def atBoundary (p : PairRec) : State := { pairUp p with cyc := { up.cyc with start := t1, mode := .run } }

theorem witness_LampMoves_lease :
    (∀ phase ∈ [CyclePhase.rendezvous, .waitThird, .release, .halted], ∃ (s : State) (t u w : Time), s.punctual t ∧ s.punctual u ∧
      s.cyc.phase = phase ∧ s.pair.role = .active ∧ (∀ l, (s.lane l).torn = []) ∧ s.pair.lease.renewed = some w ∧
      w + s.ps.lease * s.periodNs ≤ t ∧ max s.now u < w + s.ps.lease * s.periodNs) ∧
    (∃ (s : State) (c : W48), (s.begin t1).guardReady = true ∧ (s.begin t1).leaseDispute = false ∧ (s.begin t1).boundaryCycle = some c ∧
      s.pair.epochKnown ≠ 0xFFFFFFFF ∧ s.test = none) ∧
    (∃ s : State, (s.begin t1).guardReady = false ∧ (s.begin t1).leaseDispute = false) ∧
    (∃ s : State, (s.begin t1).leaseDispute = true ∧ s.alive = true ∧ (s.begin t1).boundaryCycle.isSome = true ∧ s.flt.safelight.on = false) :=
  ⟨fun phase h => ⟨{ pairUp { role := .active, lease := { renewed := some 840000000 } } with
        cyc := { (at_ phase).cyc with devJudged := true, mode := if phase = .halted then .hold else .run } }, 1040000000, 1039999999, 840000000, by
      simp only [List.mem_cons, List.not_mem_nil, or_false] at h
      obtain rfl | rfl | rfl | rfl := h <;> exact ⟨punctual_of (by decide +kernel), punctual_of (by decide +kernel), rfl, rfl,
        lanes ⟨rfl, rfl, rfl⟩, rfl, by decide +kernel⟩⟩,
    ⟨atBoundary { epochKnown := 0xFFFFFFFE, role := .standby, lease := { guardDue := true } }, 20, by decide +kernel, by decide +kernel,
      by decide +kernel, by decide, rfl⟩, ⟨up, by decide +kernel⟩,
    ⟨{ atBoundary { role := .ready, lease := { lastAck := some 5 } } with
        laneA := { lane .voting with leaseAt := some t1 }, laneB := { lane .voting with leaseAt := some t1 } }, by decide +kernel⟩⟩

theorem witness_LampMoves_take :
    (∃ s : State, (s.begin t1).takeDue = true ∧ s.pair.lease.atStart = true ∧ s.retiring = false ∧
      s.pair.mirror.ownPosition = false ∧ s.pair.mirror.pendingCycle = none ∧ s.pair.mirror.differs = false) ∧
    (∃ s : State, (s.begin t1).takeDue = true ∧ s.pair.lease.atStart = false ∧ s.pair.role = .ready ∧ (s.begin t1).readyNow = true ∧
      s.retiring = false ∧ s.pair.mirror.ownPosition = false ∧ s.pair.lease.releaseSeen = false ∧ s.pair.mirror.differs = false) ∧
    (∃ (s : State) (f : W48) (r : Rail), (s.begin t1).takeDue = true ∧ s.pair.role = .ready ∧ (s.begin t1).readyNow = true ∧
      s.retiring = false ∧ s.pair.mirror.ownPosition = false ∧ s.pair.mirror.differs = false ∧ s.pair.lease.releaseSeen = true ∧
      s.pair.lease.released = some f ∧ s.pair.mirror.pendingCycle = some f ∧ s.pair.mirror.pendingRail = some r) ∧
    (∃ s : State, (s.begin t1).takeDue = true ∧ s.pair.lease.atStart = false ∧ s.pair.role = .ready ∧ (s.begin t1).readyNow = false) ∧
    (∃ s : State, (s.begin t1).takeDue = true ∧ s.pair.lease.atStart = false ∧ s.pair.role ≠ .ready) ∧
    (∃ s : State, (s.begin t1).takeDue = true ∧ s.pair.mirror.ownPosition = true) ∧
    (∃ s : State, (s.begin t1).takeDue = true ∧ s.retiring = true) := by
  let kept : Mirror := { committed := some 19, run := 3, holder := some agreed }
  exact ⟨⟨atBoundary { role := .standby, lease := { guard := true, atStart := true, guardCycle := 19 } },
      by decide +kernel, rfl, rfl, rfl, rfl, rfl⟩,
    ⟨atBoundary { role := .ready, lease := { guard := true, guardCycle := 19 }, mirror := kept }, by decide +kernel, rfl, rfl,
      by decide +kernel, rfl, rfl, rfl, rfl⟩,
    ⟨atBoundary { role := .ready, lease := { guard := true, guardCycle := 19, releaseSeen := true, released := some 20 },
                  mirror := { kept with pendingCycle := some 20, pendingRail := some {} } }, 20, {}, by decide +kernel, rfl, by decide +kernel,
      rfl, rfl, rfl, rfl, rfl, rfl, rfl⟩,
    ⟨atBoundary { role := .ready, lease := { guard := true, guardCycle := 19 } }, by decide +kernel⟩,
    ⟨atBoundary { role := .standby, lease := { guard := true, guardCycle := 19 } }, by decide +kernel, rfl, by decide⟩,
    ⟨atBoundary { role := .standby, lease := { guard := true, guardCycle := 19 }, mirror := { ownPosition := true } }, by decide +kernel, rfl⟩,
    ⟨{ atBoundary { role := .standby, lease := { guard := true, guardCycle := 19 } } with
        trust := { due := some { new := { lifecycle := .retired }, lifecycleChange := true, portsChanged := [] } } }, by decide +kernel, rfl⟩⟩

theorem witness_LampMoves_supplies :
    (∃ (s s' : State) (w : Time), s.rail.settleEnd = some w ∧ w ≤ max s.rail.time s.cyc.cons.time ∧ s'.rail.settleEnd = some w ∧
      max s'.rail.time s'.cyc.cons.time < w) ∧
    (∀ (role : Role3) (partner : Bool), ∃ (s : State) (g h : Fin 12), s.pair.role = role ∧ s.pair.mirror.partnerReady = partner ∧
      s.ps.essential.getLsbD g.val = true ∧ (s.begin t1).supplyLost g.val = true ∧ s.ps.essential.getLsbD h.val = false) ∧
    (∃ s : State, s.v.power.phase ≠ .off) := by
  let sag : LaneRec := { lane .voting with board := { groups := [{ state := .sagged, saggedAt := some 900000001 }] } }
  let own : CycleRec := { up.cyc with settings := { pair := { essential := 1 } } }
  exact ⟨⟨{ up with rail := { settleEnd := some 5, time := 5 } }, { up with rail := { settleEnd := some 5, time := 4 } }, 5, rfl, by decide, rfl, by decide⟩,
    fun role partner => ⟨{ pairUp { role := role, mirror := { partnerReady := partner } } with laneA := sag, laneB := sag, cyc := own }, 0, 1, rfl, rfl,
      by cases role <;> cases partner <;> decide +kernel⟩, ⟨up, by decide⟩⟩

theorem witness_LampMoves_start :
    (∀ (holder : Bool) (wins : Option Bool) (on : Bool), ∃ (s : State) (t u w : Time), s.alive = true ∧ s.pair.listenSince = some w ∧
      w + (s.ps.lease + 2) * s.periodNs ≤ t ∧ max s.now u < w + (s.ps.lease + 2) * s.periodNs ∧ s.pair.mirror.heardHolder = holder ∧
      s.pair.mirror.heardWins = wins ∧ s.v.ppIn = on) ∧
    (∀ auto : Bool, ∃ (s : State) (t : Time), s.alive = true ∧ s.pair.roleSettled = true ∧ s.cyc.autoTried = false ∧
      s.cyc.start = max s.now t ∧ s.cyc.cycle ≠ 0 ∧ s.cyc.mode = .stop ∧ s.trust.cfg.autoRun = auto ∧ s.runAllowed = true) ∧
    (∃ (s : State) (c d : W48), s.pair.mirror.bulkSince = some c ∧ s.pair.role ≠ .active ∧ s.paired = true ∧ s.pair.mirror.wantBulk = true ∧
      c.toNat + 64 ≤ s.cyc.cycle.toNat ∧ s.cyc.cycle.toNat < d.toNat + 64 ∧ d = c + 1) :=
  ⟨fun holder wins on => ⟨{ pairUp { listenSince := some 700000001, mirror := { heardHolder := holder, heardWins := wins } } with
        v := { up.v with strap := 1, ppIn := on } }, 1000000001, 1000000000, 700000001, by
      rcases wins with _ | _ | _ <;> cases holder <;> cases on <;> decide +kernel⟩,
    fun auto => ⟨{ loaded with trust := { cfg := { lifecycle := .service, autoRun := auto } } }, 1000000000, by
      cases auto <;> decide +kernel⟩,
    ⟨{ pairUp { role := .standby, mirror := { bulkSince := some 5, wantBulk := true } } with cyc := { up.cyc with cycle := 69 } }, 5, 6,
      by decide +kernel⟩⟩

theorem witness_StartSequence :
    (∀ p ∈ [PowerPhase.off, .stopped, .charging], ∃ s : State, s.v.power.phase = p ∧ (p = .charging → (s.begin t1).suppliesGood = true)) ∧
    (∃ s : State, s.v.power.phase = .charging ∧ (s.begin t1).suppliesGood = false) ∧
    (∀ ok : Bool, ∃ s r v : State, s.v.power.phase = .booting ∧ (s.begin t1).readBoot 3 = some r ∧ v = r.bootFrom 3 ∧
      v.loadable v.upd.running = ok ∧ r.upd.boot.trial = none) ∧
    (∀ strap ∈ [(0 : BitVec 2), 1, 2], ∃ s : State, s.v.power.phase = .joining ∧ 2 ≤ s.joinedLanes.length ∧ s.cyc.mode = .stop ∧
      (s.dieOut .n1 && s.dieOut .n2) = false ∧ s.flt.safelight.on = false ∧ s.m.lamp1.lockout = false ∧ s.m.lamp2.lockout = false ∧
      s.dies.archiveBad = [] ∧ s.dies.bootUnread = false ∧ s.dies.kFaulted = false ∧ (∀ l, (s.lane l).calls = 0) ∧ s.flt.injection = none ∧
      (∀ l ∈ s.joinedLanes, (s.lane l).board.debounced &&& (s.image.modeMask fun m => m = .output || m = .paired) = 0) ∧
      ((s.begin t1).readLamp).pair.epochKnown ≠ 0xFFFFFFFF ∧ s.v.strap = strap ∧ s.pair.role = .unpaired) := by
  refine ⟨fun p h => ⟨{ up with v := { power := { phase := p, within := some 999000001 } } }, rfl, ?_⟩,
    ⟨{ up with v := { power := { phase := .charging, within := some 999000002 } } }, rfl, by decide +kernel⟩,
    fun ok => ⟨{ up with
        v := { power := { phase := .booting } }
        upd := { boot := { committedHash := 77 }, slot0 := { state := .committed, image := some { certOk := ok, minIssue := 0x43 } } } }, _, _, rfl,
      rfl, rfl, ?_⟩,
    fun strap h => ⟨{ up with v := { power := { phase := .joining }, strap := strap }, laneA := { lane .joining with joined := true },
                              laneB := lane .down, laneC := { lane .joining with joined := true } }, rfl, ?_, rfl, rfl, rfl, rfl, rfl, rfl, rfl, rfl,
      lanes ⟨rfl, rfl, rfl⟩, rfl, ?_, ?_, rfl, rfl⟩⟩
  · simp only [List.mem_cons, List.not_mem_nil, or_false] at h
    obtain rfl | rfl | rfl := h <;> decide +kernel
  · cases ok <;> decide +kernel
  all_goals
    simp only [List.mem_cons, List.not_mem_nil, or_false] at h
    obtain rfl | rfl | rfl := h <;> decide +kernel

theorem witness_SuppliesAndPorts :
    (∃ (s : State) (f : Feed), s.v.power.feed f = false) ∧
    (∃ (s : State) (f : Feed), s.v.power.feed f = true ∧ s.calm ∧ s.heldWithout none ∧
      ∀ l, (s.lane l).phase.live = true ∧ s.baseline l (feedSource f)) ∧
    (∀ p ∈ [PowerPhase.running, .charging, .booting, .joining], ∃ s : State, s.v.power.phase = p ∧ s.v.power.feedA = false ∧
      s.v.power.feedB = false) ∧
    (∃ (s : State) (t u w : Time), s.v.power.phase = .rideThrough ∧ s.v.power.lossAt = some w ∧ w + 10000000 ≤ t ∧
      max s.now u < w + 10000000) ∧
    (∃ s : State, s.v.power.phase ≠ .off ∧ s.calm ∧ s.heldWithout none ∧ ∀ l, (s.lane l).phase.live = true ∧ s.baseline l 0x1D2) ∧
    (∃ (s : State) (p q r : Port), s.tabled ∧ (cageOf p).isSome = true ∧ cageOf q = none ∧ ∀ i, r ≠ .f i) :=
  ⟨⟨State.reset, .a, by decide +kernel⟩,
    ⟨up, .b, by decide +kernel, calm_of (by decide +kernel), held_of (by decide +kernel) _,
      fun l => ⟨by cases l <;> rfl, baseline_of (by decide +kernel) _ _⟩⟩,
    fun p _ => ⟨{ up with v := { power := { phase := p } } }, rfl, rfl, rfl⟩,
    ⟨{ up with v := { power := { phase := .rideThrough, lossAt := some 995000000 } } }, 1005000000, 1004999999, _, rfl, rfl, by decide,
      by decide⟩,
    ⟨up, by decide, calm_of (by decide +kernel), held_of (by decide +kernel) _,
      fun l => ⟨by cases l <;> rfl, baseline_of (by decide +kernel) _ _⟩⟩,
    ⟨up, .m 1, .f 0, .h 1, ⟨rfl, rfl, rfl⟩, by decide +kernel, by decide +kernel, fun i h => nomatch h⟩⟩

/-- A module with PTP time that equals the module's own clock, and an image VERIFIED in the slot that is not running. -/
def updated (u : Update) : State :=
  { up with v := { up.v with ptp := { valid := true } }, upd := u, trust := { cfg := { lifecycle := .provisioned } } }

/-- An image VERIFIED that is scheduled for the instant `at`, on trial or not. -/
def scheduled (at' : W64) (trial : Bool) : Update :=
  { boot := { committedHash := 5, activation := some (at', 5) }, onTrial := trial,
    slot0 := { state := .committed, image := some { hash := 5 } }, slot1 := { state := .verified, image := some { hash := 5 } } }

def dueAt (at' : W64) (trial : Bool) : State := { updated (scheduled at' trial) with cyc := { up.cyc with start := t1 } }

theorem witness_ImagesAndActivation :
    (∃ (s : State) (e : Entry), s.offerSlot.state = .loading ∧ s.offerSlot.held = s.offerSlot.transfer ∧
      s.offerSlot.transfer ≠ 0 ∧ s.offerSlot.verifying = some e ∧ e.done = false ∧ s.trust.cfg.downstream.length = 1) ∧
    (∃ (s : State) (e : Entry), s.loadBank.state = .loading ∧ s.loadBank.held = s.loadBank.length ∧ s.loadBank.length ≠ 0 ∧
      s.loadBank.verifying = some e ∧ e.done = false) ∧
    (∃ (s : State) (t u : Time), s.offerSlot.state = .loading ∧ s.offerSlot.verifying = none ∧ s.offerSlot.lastAt + 600000000000 ≤ t ∧
      max s.now u < s.offerSlot.lastAt + 600000000000) ∧
    (∀ trial : Bool, ∃ (s : State) (a : W64) (h : Hash) (now : W64), s.upd.boot.activation = some (a, h) ∧ (s.begin t1).ptpTime = some now ∧
      s.alive = true ∧ (s.begin t1).boundaryCycle.isSome = true ∧ a.toNat ≤ now.toNat ∧ s.upd.deferred = false ∧
      (s.begin t1).activationCheck h = 0 ∧ s.upd.onTrial = trial ∧
      ∃ s' s'' : State, s' = { s with pair := { role := .active }, v := { s.v with strap := 1 } } ∧ (s'.begin t1).activationCheck h = 7 ∧
        (s'.begin t1).boundaryCycle.isSome = true ∧ s'' = { s with trust := { cfg := { ownerLock := true } } } ∧
        (s''.begin t1).activationCheck h = 2) ∧
    (∃ (s : State) (a : W64) (h : Hash) (now : W64), s.upd.boot.activation = some (a, h) ∧ (s.begin t1).ptpTime = some now ∧
      s.alive = true ∧ (s.begin t1).boundaryCycle.isSome = true ∧ now.toNat < a.toNat) ∧
    (∃ (s : State) (t : Time) (a : W64) (h : Hash) (now : W64), s.upd.boot.activation = some (a, h) ∧ (s.begin t).ptpTime = some now ∧
      s.upd.deferred = true ∧ a.toNat + 86400000000000 ≤ now.toNat ∧ s.alive = true ∧ (s.begin t).boundaryCycle.isSome = true ∧
      s.pair.role = .active) ∧
    (∃ (s : State) (t u w : Time), s.upd.conversionFailedAt = some w ∧ w + 2000000000 ≤ t ∧ max s.now u < w + 2000000000) :=
  ⟨⟨{ updated { slot1 := { state := .loading, held := 9, transfer := 9, verifying := some (entry 0x0701 []) } } with
        trust := { cfg := { lifecycle := .provisioned, downstream := [(7, 0)] } } }, _, rfl, rfl, by decide, rfl, rfl, rfl⟩,
    ⟨{ up with logic := { bank1 := { state := .loading, held := 9, length := 9, verifying := some (entry 0x0A01 []) } } }, _, rfl, rfl, by decide,
      rfl, rfl⟩,
    ⟨updated { slot1 := { state := .loading, held := 9, lastAt := 500000000 } }, 600500000000, 600499999999, by decide +kernel⟩,
    fun trial => ⟨dueAt 1000000001 trial, _, _, 1000000001, rfl, by cases trial <;> decide +kernel, by cases trial <;> decide +kernel,
      by cases trial <;> decide +kernel, by decide, rfl, by cases trial <;> decide +kernel, rfl, _, _, rfl, by cases trial <;> decide +kernel,
      by cases trial <;> decide +kernel, rfl, by cases trial <;> decide +kernel⟩,
    ⟨dueAt 1000000002 false, _, _, 1000000001, rfl, by decide +kernel, by decide +kernel, by decide +kernel, by decide⟩,
    ⟨{ updated { boot := { committedHash := 77, activation := some (5, 5) }, deferred := true } with
        v := { up.v with strap := 1, ptp := { valid := true } }, pair := { role := .active } }, 86400000000005, _, _, 86400000000005, rfl,
      by decide +kernel, rfl, by decide, by decide +kernel, by decide +kernel, rfl⟩,
    ⟨updated { conversionFailedAt := some 500000000 }, 2500000000, 2499999999, _, rfl, by decide, by decide⟩⟩

theorem witness_PrintingMoves :
    (∀ full : Bool, ∃ (s : State) (t u : Time) (e : Fin 2), (s.printing e.val).phase = 0 ∧ s.printDue e.val = true ∧
      (decide (4 ≤ s.openCount)) = full ∧ (s.printing e.val).lastTry + 60000000000 ≤ t ∧
      max s.now u < (s.printing e.val).lastTry + 60000000000) ∧
    (∃ (s : State) (t u : Time) (e : Fin 2), s.printDue e.val = true ∧ (s.printing e.val).begun + 86400000000000 ≤ t ∧
      max s.now u < (s.printing e.val).begun + 86400000000000) ∧
    (∀ k ≤ 3, ∃ (s : State) (e : Fin 2), (s.printing e.val).phase = k ∧ (s.printing e.val).unanswered ≤ 64) := by
  let u : Update := { boot := { committedHash := 77, printing := 0b0100 }, slot1 := { state := .verified },
                      print1 := { lastTry := 500000000, begun := 500000000 } }
  let s : State := { updated u with trust := { cfg := { lifecycle := .service, downstream := [(7, 0), (8, 1)] } } }
  exact ⟨fun full => ⟨{ s with net := { openings := if full then List.replicate 4 (opening 1 1) else [] } }, 60500000000, 60499999999, 1, by
      cases full <;> decide +kernel⟩, ⟨s, 86400500000000, 86400499999999, 1, by decide +kernel⟩,
    fun k _ => ⟨updated { print0 := { phase := k, unanswered := 64 } }, 0, rfl, by decide +revert +kernel⟩⟩

/-! What commands in the trays meet -/

theorem witness_ElementCommandsRefused :
    (∃ (d d' : ObjDecl) (c c' : Elem) (o o' : Obj) (p : PointSt) (x : SignalSt), o.lost = true ∧ o'.stale = true ∧ c.op = 0x0202 ∧ c.arg = 1 ∧
      d.params = .point 10000 false [] ∧ o.body = .point p ∧ c'.op = 0x0211 ∧ c'.arg = 1 ∧ d'.params = .signal 500 [] ∧ o'.body = .signal x) ∧
    (∃ (c : Elem) (o o' : Obj), c.op = 0x0202 ∧ c.arg ≠ 1 ∧ o.lost = true ∧ o'.stale = true) ∧
    (∃ (e : Env) (d d' : ObjDecl) (c : Elem) (o o' o'' : Obj) (x y : SectionSt), o.lost = false ∧ o.stale = false ∧ c.op = 0x0221 ∧
      d.params = .stretch 1000 true true ∧ d'.params = .stretch 1000 false true ∧ o.body = .stretch x ∧ x.occ = .disturbed ∧ e.settle = false ∧
      o.lock.mode ≠ .none ∧ o' = { o with lock := {} } ∧ o'.lock.mode = .none ∧ x.axles ≠ 0 ∧ o''.body = .stretch y ∧ y.occ ≠ .disturbed) :=
  ⟨⟨{ oid := 1, symbol := 1, source := .internal, params := .point 10000 false [] },
      { oid := 2, symbol := 2, source := .internal, params := .signal 500 [] }, ⟨0x0202, 1, 1, 1, 1, 1, 5⟩, ⟨0x0211, 2, 1, 1, 1, 1, 5⟩,
      { obj 1 (.point {}) with lost := true }, { obj 2 (.signal {}) with stale := true }, _, _, rfl, rfl, rfl, rfl, rfl, rfl, rfl, rfl, rfl, rfl⟩,
    ⟨⟨0x0202, 1, 0, 1, 1, 1, 5⟩, { obj 1 (.point {}) with lost := true }, { obj 1 (.point {}) with stale := true }, rfl, by decide, rfl, rfl⟩,
    ⟨⟨{}, 0, false, true⟩, { oid := 3, symbol := 3, source := .internal, params := .stretch 1000 true true },
      { oid := 3, symbol := 3, source := .internal, params := .stretch 1000 false true }, ⟨0x0221, 3, 0, 1, 1, 1, 5⟩,
      { obj 3 (.stretch { occ := .disturbed, axles := 1 }) with lock := { mode := .exclusive, count := 1, owner := 9 } }, _,
      obj 3 (.stretch { occ := .occupied }), _, _, rfl, rfl, rfl, rfl, rfl, rfl, rfl, rfl, by decide, rfl, rfl, by decide, rfl, by decide⟩⟩

theorem witness_OneRunAtATime :
    (∃ s : State, s.test.isSome = true) ∧ (∃ s : State, s.test.isSome = false ∧ s.testPart < 100000) :=
  ⟨⟨{ up with test := some { target := 1, index := 0, sid := 1, adm := 1, cmdSeq := 1, cycle := 20 } }, rfl⟩,
    ⟨{ up with cyc := { up.cyc with settings := { cycle := { p := 1 } } } }, rfl, by decide +kernel⟩⟩

theorem witness_CycleSettingsRefused :
    (∃ (s : State) (e : Entry), s.cyc.mode = .stop ∧ s.upd.onTrial = false ∧ ¬(e.byte 2 + 5 ≤ e.byte 3 ∧ e.byte 3 + 5 ≤ e.byte 4)) ∧
    (∃ (s : State) (e : Entry) (i : Image), s.cyc.mode = .stop ∧ s.upd.onTrial = false ∧ s.image? = some i ∧
      fits i.hdr e.cycleSettings s.paired = false) ∧ (∃ s : State, s.cyc.mode ≠ .stop) :=
  ⟨⟨up, entry 0x0502 [0, 50, 70, 74, 85, 2, 1, 0], rfl, rfl, by decide +kernel⟩,
    ⟨loaded, entry 0x0502 [0, 5, 50, 55, 60, 2, 1, 0], img, rfl, rfl, rfl, by decide +kernel⟩, ⟨at_ .done, by decide⟩⟩

/-- Route 9 of `route9`, which claims section 3 CLEAR and unlocked. -/
def claiming : RouteDecl :=
  { route9 with settable := storedRow 0 9 [Literal.word { neg := false, claim := true, alt := 0, sec := 0, pred := 8, oid := 3 }] }

def yard : Image :=
  { objects := [{ oid := 2, symbol := 2, source := .internal, params := .signal 500 [] },
                { oid := 3, symbol := 3, source := .internal, params := .stretch 1000 false false },
                { oid := 7, symbol := 7, source := .internal, params := .route 9 }], routes := [claiming] }

/-- The railway with route 9 in a state, its section CLEAR or not, its signal at stop and proven or not. -/
def yardRail (x : RouteSt) (clear proven : Bool) : Rail :=
  { objs := [obj 2 (.signal { agreeSince := if proven then some 0 else none }), obj 3 (.stretch { occ := if clear then .clear else .occupied }),
             obj 7 (.route x)] }

def yardEnv (settle : Bool) : Env := ⟨yard, 1000000000, settle, true⟩

def request (what : RouteOp) : Req :=
  { rid := 9, what := what, sid := 1, op := 0x0101, cmdSeq := 1, adm := 3, tray := 5, waiting := false, since := 0 }

theorem witness_RouteCommandsAct :
    (∀ (x : RouteSt) (what : RouteOp) (clear proven : Bool), (yardEnv false).img.route? (request what).rid = some claiming ∧
      (request what).waiting = false ∧ (yardRail x clear proven).obj? claiming.oid = some (obj 7 (.route x)) ∧
      (obj 7 (.route x)).body = .route x) ∧
    ((yardEnv true).settle = true ∧ (yardEnv false).settle = false ∧ (rowsOf yard (yardRail {} true true) claiming).setOk = true ∧
      claiming.alts = 0 ∧ clash (yardEnv false) 9 0 (claimsOf claiming none) (yardRail {} true true) = none ∧ claimsOf claiming none ≠ [] ∧
      (rowsOf yard (yardRail {} false true) claiming).setOk = false ∧ (yardRail {} false true).waiting.length < 256) ∧
    (stopProven yard (yardRail { state := .locked } true true) claiming.entry = true ∧
      stopProven yard (yardRail { state := .locked } true false) claiming.entry = false) ∧
    (∃ (x : RouteSt) (w : Ticks), x.armed = true ∧ x.timerEnd = some w ∧ w ≤ (yardEnv false).now) ∧
    (∃ (x : RouteSt) (w : Ticks), x.armed = true ∧ x.timerEnd = some w ∧ (yardEnv false).now < w) :=
  ⟨fun _ _ _ _ => ⟨rfl, rfl, rfl, rfl⟩, by decide +kernel, by decide +kernel, ⟨{ armed := true, timerEnd := some 1000000000 }, _, rfl, rfl, by decide⟩,
    ⟨{ armed := true, timerEnd := some 1000000001 }, _, rfl, rfl, by decide⟩⟩

theorem witness_ElementCommandsAct :
    ∃ (e : Env) (r : Rail) (d : ObjDecl) (c : Elem) (o o' o'' o''' : Obj) (p : PointSt) (pos : Pos), o.lost = false ∧ o.stale = false ∧
      e.settle = false ∧ c.op = 0x0201 ∧ d.params = .point 10000 false [3] ∧ o.body = .point p ∧ pos = (if c.arg = 1 then Pos.normal else .reverse) ∧
      atOrMoving p pos = false ∧ o.lock.mode = .none ∧ o.blocked = false ∧ unclear r (protectingOf e.img o.oid) = none ∧
      o' = { o with lock := { mode := .exclusive } } ∧ o'.lock.mode ≠ .none ∧ o'' = { o with blocked := true } ∧ o''.blocked = true ∧
      o''' = { o with body := .point { p with pos := 2 } } ∧ atOrMoving { p with pos := 2 } pos = true ∧
      ∃ (o1 o2 o3 o4 : Obj) (x : SignalSt) (y : SectionSt) (b : BlockSt) (bits : BlockBits) (z : ZoneSt), o1.body = .signal x ∧ o2.body = .stretch y ∧
        y.occ = .disturbed ∧ y.axles = 0 ∧ o2.lock.mode = .none ∧ o3.body = .block b ∧ b.state = .failed ∧ ind b.received bits.inNormal = true ∧
        b.trainOnLine = true ∧ ind b.received bits.inArrival = true ∧ o4.body = .zone z ∧ z.state = .requested ∧
        (∀ k ∈ [(9 : BitVec 12)], ∀ y, r.route? e.img k = some y → y.state = .idle) ∧
        (∀ k ∈ [1], ∀ y q, r.obj? k = some y → y.body = .point q → q.moving = false) := by
  let r : Rail := { objs := [obj 1 (.point { pos := 1 }), obj 3 (.stretch { occ := .clear }), obj 7 (.route {})] }
  let i : Image := { yard with objects := { oid := 1, symbol := 1, source := .internal, params := .point 10000 false [3] } :: yard.objects }
  let bits : BlockBits := ⟨0, 1, 2, 3, 4, 5, 6, 7, 8, 9⟩
  refine ⟨⟨i, 10, false, true⟩, r, { oid := 1, symbol := 1, source := .internal, params := .point 10000 false [3] }, ⟨0x0201, 1, 2, 1, 1, 1, 5⟩,
    obj 1 (.point { pos := 1 }), _, _, _, { pos := 1 }, .reverse, rfl, rfl, rfl, rfl, rfl, rfl, rfl, by decide, rfl, rfl, by decide +kernel, rfl, by decide,
    rfl, rfl, rfl, by decide, obj 2 (.signal {}), obj 3 (.stretch { occ := .disturbed }), obj 5 (.block { received := 0x0300 }),
    obj 6 (.zone { state := .requested }), _, _, { received := 0x0300 }, bits, _, rfl, rfl, rfl, rfl, rfl, rfl, rfl, by decide, rfl, by decide, rfl, rfl, ?_, ?_⟩
  · intro k hk y hy
    simp only [List.mem_singleton] at hk
    subst hk
    cases hy
    rfl
  · intro k hk y q hy hq
    simp only [List.mem_singleton] at hk
    subst hk
    cases hy
    cases hq
    rfl

/-- A module in COMMISSIONING with a session, one entry in its trays and an image. -/
def asked (e : Entry) : State := { loaded with net := { sessions := [hostSession, serviceSession], entries := [e] } }

/-- Entries of every other cut command. -/
def cutEntry (op : W16) (payload : List Byte) : Entry := { entry op payload with limit := none }

theorem witness_CommandsOfACut :
    (∀ op ∈ [(0x0402 : W16), 0x0403, 0x0501, 0x0502, 0x0503, 0x0621, 0x0630, 0x0640, 0x0902, 0x0A02], (asked (cutEntry op [])).lifecyclePermits op = true) ∧
    (∃ s : State, s.lifecyclePermits 0x0501 = false) ∧
    (∃ (s : State) (e : Entry) (n : W32), s.net.entries = [e] ∧ s.cutUpTo n = [e] ∧ e.vital = false ∧ e.isEvent = false ∧ e.done = false) ∧
    (∃ (s : State) (e : Entry), s.cyc.mode = .stop ∧ e.byte 0 = 1 ∧ s.runAllowed = true) ∧
    (∃ (s : State) (e : Entry), s.cyc.mode = .stop ∧ e.byte 0 = 1 ∧ s.runAllowed = false) ∧
    (∃ (cut : List Entry) (e f : Entry), e ∈ cut ∧ f ∈ cut ∧ e.op = 0x0502 ∧ earlier cut e 0x0A02 = some 2 ∧ f.op = 0x0A02 ∧
      ∃ cut' ∈ [[{ f with adm := 4 }, { e with adm := 3 }]], earlier cut' { f with adm := 4 } 0x0502 = some 3) ∧
    (∃ (s : State) (e : Entry), s.cyc.mode = .stop ∧ s.upd.onTrial = false ∧ earlier [e] e 0x0A02 = none ∧ e.cycleSettings.ordered = true ∧
      ∀ i, s.image? = some i → fits i.hdr e.cycleSettings s.paired = true) ∧
    (∃ (s : State) (h : HoldRec), s.cyc.mode = .hold ∧ s.cyc.hold = some h ∧ h.since + 600000000000 ≤ s.now) ∧
    (∃ (s : State) (h : HoldRec), s.cyc.mode = .hold ∧ s.cyc.hold = some h ∧ s.now < h.since + 600000000000) ∧
    (∃ e f g : Entry, e.byte 1 < 32 ∧ e.byte 1 = 31 ∧ bitOf (e.byte 3) 0 = true ∧ f.byte 1 < 32 ∧ f.byte 2 = 1 ∧ 0x17 < fieldAt f.payload 4 2 ∧
      g.byte 1 < 32 ∧ (g.byte 1 ≠ 31 ∨ bitOf (g.byte 3) 0 = false) ∧ g.byte 2 = 1 ∧ fieldAt g.payload 4 2 ≤ 0x17) ∧
    (∃ (s : State) (e : Entry), bitOf (e.byte 2) 0 = true ∧ s.mayRelease e = true) ∧
    (∃ (s : State) (e : Entry), bitOf (e.byte 2) 0 = true ∧ s.mayRelease e = false) ∧
    (∃ e f : Entry, injectable.getLsbD (fieldAt e.payload 0 2) = true ∧ injectable.getLsbD (fieldAt f.payload 0 2) = false) ∧
    (∃ (s : State) (e f : Entry), s.cyc.armed = false ∧ injectable.getLsbD (fieldAt e.payload 0 2) = true ∧ s.injector [f, e] = some f.adm ∧
      serialLt f.adm e.adm = true ∧ s.injector [e] = some e.adm ∧ serialLt e.adm e.adm = false) ∧
    (∃ s : State, s.cyc.armed = true) ∧
    (∃ (s : State) (x : Entry), s.pair.lease.handover = some x) ∧
    (∃ (s : State) (e : Entry), s.cyc.mode ≠ .hold ∧ s.loadBank.image.hdr.hash ≠ BitVec.ofNat 256 (fieldAt e.payload 0 32)) ∧
    (∃ (s : State) (e : Entry) (n : W32), e.op = 0x0902 ∧ e.done = false ∧ s.lifecyclePermits e.op = true ∧ s.mayHandOver = true ∧ s.cutUpTo n = [e]) ∧
    (∃ (s : State) (e : Entry), s.cyc.mode ≠ .hold ∧ s.loadBank.state = .verified ∧
      s.loadBank.image.hdr.hash = BitVec.ofNat 256 (fieldAt e.payload 0 32) ∧ s.upd.onTrial = false ∧ earlier [e] e 0x0502 = none ∧
      exchangeRefusal s.image? s.loadBank.image s.loadBank.state s.cs s.paired s.test.isSome s.rail = none) :=
  ⟨List.all_eq_true.mp (by decide +kernel), ⟨{ up with trust := {} }, by decide +kernel⟩,
    ⟨asked (cutEntry 0x0403 []), _, 3, rfl, by decide +kernel, by decide, by decide, rfl⟩,
    ⟨loaded, cutEntry 0x0501 [1, 0, 0, 0], rfl, by decide +kernel, by decide +kernel⟩, ⟨up, cutEntry 0x0501 [1, 0, 0, 0], rfl, by decide +kernel, by decide +kernel⟩,
    ⟨[{ cutEntry 0x0502 [] with adm := 3 }, { cutEntry 0x0A02 [] with adm := 2 }], { cutEntry 0x0502 [] with adm := 3 }, { cutEntry 0x0A02 [] with adm := 2 },
      .head _, .tail _ (.head _), rfl, by decide +kernel, rfl, _, .head _, by decide +kernel⟩,
    ⟨loaded, cutEntry 0x0502 [0, 10, 75, 80, 85, 1, 2, 0], rfl, rfl, by decide +kernel, by decide +kernel, fun i h => by cases h; decide +kernel⟩,
    ⟨{ up with now := 600000000005, cyc := { up.cyc with mode := .hold, hold := some { since := 5 } } }, _, rfl, rfl, by decide⟩,
    ⟨{ up with now := 600000000004, cyc := { up.cyc with mode := .hold, hold := some { since := 5 } } }, _, rfl, rfl, by decide⟩,
    ⟨cutEntry 0x0621 [7, 31, 0, 1, 0, 0, 0, 0, 0, 0, 0, 0], cutEntry 0x0621 [7, 0, 1, 0, 0, 0x18, 0, 0, 0, 0, 0, 0],
      cutEntry 0x0621 [7, 30, 1, 1, 0, 0x17, 0, 0, 0, 0, 0, 0], by decide +kernel⟩,
    ⟨{ asked (cutEntry 0x0630 []) with flt := { safelight := { on := true, lockout := true }, persistent := { lockout := true, lockoutBoot := 4 } },
                                        upd := { boot := { committedHash := 77, bootCount := 5 } } },
      { cutEntry 0x0630 [0xFF, 0xFF, 1, 0] with sid := 2 }, by decide +kernel⟩,
    ⟨asked (cutEntry 0x0630 []), cutEntry 0x0630 [0xFF, 0xFF, 1, 0], by decide +kernel⟩,
    ⟨cutEntry 0x0640 [0, 0x06, 2, 1], cutEntry 0x0640 [0, 0x05, 2, 1], by decide +kernel⟩,
    ⟨up, { cutEntry 0x0640 [0, 0x06, 2, 1] with adm := 3 }, { cutEntry 0x0640 [0, 0x06, 2, 1] with adm := 2 }, by decide +kernel⟩,
    ⟨{ up with cyc := { up.cyc with armed := true } }, rfl⟩, ⟨{ up with pair := { lease := { handover := some (cutEntry 0x0902 []) } } }, _, rfl⟩,
    ⟨up, cutEntry 0x0A02 (List.replicate 31 0 ++ [1]), by decide +kernel⟩,
    ⟨{ asked (cutEntry 0x0902 [1, 0, 0, 0]) with v := { up.v with strap := 1 }, pair := { role := .active, mirror := { partnerReady := true } } }, cutEntry 0x0902 [1, 0, 0, 0], 3, rfl, rfl,
      by decide +kernel, by decide +kernel, by decide +kernel⟩,
    ⟨{ loaded with logic := { bank0 := { state := .active, image := img }, bank1 := { state := .verified, image := { img with hdr := { hash := 1 } } } } },
      cutEntry 0x0A02 (List.replicate 31 0 ++ [1]), by decide +kernel⟩⟩

/-- A proposal whose approval is one part away: the proposer is holder 1 with role 1, the signer of the approval holder 2. -/
def proposed : Proposal :=
  { id := 1, nonce := 9, lifecycleChange := true, sid := 1, openedAt := 5, parts := 1, count := 1, complete := some 6, proposer := 1, proposerRole := 1,
    target := some .maintenance, apParts := 2, apStream := [2, 0, 0, 0] ++ List.replicate 2040 0 }

/-- Two holders of different roles. -/
def holders : List Holder := [{ index := 1, role := 1, key := [] }, { index := 2, role := 2, key := [] }]

theorem witness_ServiceCommandsAct :
    (∀ op ∈ [(0x0301 : W16), 0x0302, 0x0303, 0x0601, 0x0610, 0x0620, 0x0701, 0x0704, 0x0708, 0x0801, 0x0802, 0x0810, 0x0901, 0x0903, 0x0A01],
      (asked (cutEntry op [])).lifecyclePermits op = true) ∧ (∃ s : State, s.lifecyclePermits 0x0620 = false) ∧
    (∃ (s : State) (e : Entry), (s.net.subs.filter fun x => x.sid = e.sid).length < 4 ∧ s.net.subs.length < 128 ∧
      2 * (s.standing + 20000) ≤ s.slackQ ∧ ∀ x ∈ s.net.subs, ¬(x.id = e.byte 0 ∧ x.sid = e.sid)) ∧
    (∃ (s : State) (e : Entry), 4 ≤ (s.net.subs.filter fun x => x.sid = e.sid).length ∧ ∃ x ∈ s.net.subs, x.id = e.byte 0 ∧ x.sid = e.sid) ∧
    (∃ (s : State) (e : Entry), s.test = none ∧ 100000 ≤ s.testPart ∧ s.testRefusal (e.byte 0) (e.byte 1) = none) ∧
    (∃ (s : State) (e f : Entry), Lane.ofIdx (e.byte 0) = some .a ∧ (s.lane .a).phase = .voting ∧ Lane.ofIdx (f.byte 0) = some .c ∧
      (s.lane .c).phase = .barred) ∧
    (∃ (s : State), s.upd.boot.activation.isSome = true) ∧
    (∃ (s : State) (e : Entry), s.upd.boot.activation = none ∧ s.upd.onTrial = false ∧ fieldAt e.payload 0 4 = 0 ∧ s.offerSlot.verifying = none) ∧
    (∃ (s : State) (e f g : Entry), s.upd.boot.activation = none ∧ s.upd.onTrial = false ∧ s.offerSlot.state = .loading ∧ s.offerSlot.verifying = none ∧
      fieldAt e.payload 0 4 ≠ 0 ∧ fieldAt e.payload 0 4 = s.offerSlot.held ∧ fieldAt e.payload 4 4 = s.offerSlot.transfer ∧
      fieldAt e.payload 0 4 + (e.payload.drop 8).length = fieldAt e.payload 4 4 ∧ fieldAt f.payload 0 4 ≠ 0 ∧ fieldAt f.payload 0 4 ≠ s.offerSlot.held ∧
      fieldAt g.payload 0 4 = s.offerSlot.held ∧ fieldAt g.payload 4 4 ≠ s.offerSlot.transfer) ∧
    (∃ (s : State) (e : Entry) (now : W64), bitOf (e.byte 40) 0 = false ∧ s.scheduled (BitVec.ofNat 256 (fieldAt e.payload 8 32)) = true ∧
      s.trust.cfg.ownerLock = false ∧ s.v.power.lowSupply = false ∧ s.ptpTime = some now ∧
      now.toNat + (s.nextBoundary + deadlineNs s.cs s.cs.fixLatest - s.now) < fieldAt e.payload 0 8 ∧ s.paired = false ∧ s.routesIdle = true) ∧
    (∃ (s : State) (e : Entry), s.upd.onTrial = true ∧ s.upd.boot.trialHash = BitVec.ofNat 256 (fieldAt e.payload 0 32) ∧
      s.upd.boot.conversionFailed = false ∧ 16 ≤ s.upd.healthy) ∧
    (∃ (s s' : State) (e f : Entry) (q : Proposal), e.byte 0 = 1 ∧ s'.trust.proposal = none ∧ f.byte 0 = 3 ∧ s.trust.proposal = some q ∧
      q.id.toNat = fieldAt f.payload 4 4 ∧ (q.lifecycleChange = true ↔ f.op = 0x0810) ∧ q.sid = f.sid ∧ f.sid ≠ 0 ∧ s.trust.due = none) ∧
    (∃ (e f : Entry) (q : Proposal), e.byte 0 = 3 ∧ q.id.toNat = fieldAt e.payload 4 4 ∧ (q.lifecycleChange = true ↔ e.op = 0x0810) ∧ q.sid ≠ e.sid ∧
      f.byte 0 = 3 ∧ f.op = 0x0801 ∧ (¬ (q.lifecycleChange = true ↔ f.op = 0x0810))) ∧
    (∃ (s : State) (e : Entry) (q : Proposal) (stream : List Byte) (h : Holder) (c : SealChange), s.trust.proposal = some q ∧
      q.id.toNat = fieldAt e.payload 4 4 ∧ q.complete.isSome = true ∧ e.byte 2 = 3 ∧ e.byte 1 = 2 ∧ q.apParts = 2 ∧
      stream = q.apStream ++ e.payload.drop 8 ∧ stream.length = 2424 ∧ s.trust.due = none ∧ signerReservedOk stream = true ∧
      (s.rosterFor (streamBody q.stream)).find? (fun h => h.index = streamSigner stream) = some h ∧ h.index ≠ q.proposer ∧ h.role ≠ q.proposerRole ∧
      s.approvedSeal q = some c) ∧
    (∃ stream : List Byte, stream.length = 2424 ∧ signerReservedOk stream = false) ∧
    (∃ s : State, s.logic.exchangeDue = true) ∧ (∃ (s : State) (e : Entry), s.logic.exchangeDue = false ∧ s.net.entries = [] ∧
      s.loadBank.verifying = none ∧ fieldAt e.payload 0 4 = 0 ∧ s.loadBank.state ≠ .loading) ∧
    (∃ (s : State), s.cyc.mode = .stop ∧ s.upd.onTrial = false) ∧
    (∃ (s : State) (e f : Entry), (∀ x ∈ s.net.entries, x.op = 0x0A02 → x.done = true) ∧ s.loadBank.verifying = none ∧ fieldAt e.payload 0 4 = 0 ∧
      s.loadBank.state = .loading ∧ fieldAt f.payload 0 4 ≠ 0 ∧ fieldAt f.payload 0 4 = s.loadBank.held ∧ fieldAt f.payload 4 4 = s.loadBank.length) := by
  let sub : Subscription := { id := 7, sid := 1, selector := 1, everyN := false, count := 0, first := 0, n := 0, left := 0 }
  let e0 : Entry := cutEntry 0x0303 [7, 0, 0, 0]
  let off : Entry := cutEntry 0x0701 [0, 0, 0, 9, 0, 0, 0, 10, 1]
  exact ⟨List.all_eq_true.mp (by decide +kernel), ⟨{ up with trust := {} }, by decide +kernel⟩, ⟨loaded, e0, by decide +kernel⟩,
    ⟨{ loaded with net := { subs := [{ sub with id := 4 }, { sub with id := 5 }, { sub with id := 6 }, sub] } }, e0, by decide +kernel⟩,
    ⟨loaded, cutEntry 0x0601 [2, 12, 0, 0], by decide +kernel⟩,
    ⟨{ up with laneC := lane .barred }, cutEntry 0x0620 [0, 0, 1, 0], cutEntry 0x0620 [2, 0, 1, 0], by decide +kernel⟩,
    ⟨updated { boot := { activation := some (5, 5) } }, rfl⟩, ⟨up, cutEntry 0x0701 [0, 0, 0, 0, 0, 0, 0, 10, 1], by decide +kernel⟩,
    ⟨updated { slot1 := { state := .loading, held := 9, transfer := 10 } }, off, cutEntry 0x0701 [0, 0, 0, 8, 0, 0, 0, 10, 1],
      cutEntry 0x0701 [0, 0, 0, 9, 0, 0, 0, 11, 1], by decide +kernel⟩,
    ⟨updated { slot1 := { state := .verified, image := some { hash := 5 } } },
      cutEntry 0x0704 ([0, 0, 0, 0, 0x41, 0xF5, 0x60, 0xA1] ++ List.replicate 31 0 ++ [5, 0, 0, 0, 0]), _, by decide +kernel, by decide +kernel, rfl, rfl, rfl,
      by decide +kernel, by decide +kernel, by decide +kernel⟩,
    ⟨updated { onTrial := true, healthy := 16, boot := { trialHash := 5 } }, cutEntry 0x0708 (List.replicate 31 0 ++ [5]), by decide +kernel⟩,
    ⟨{ up with trust := { proposal := some proposed } }, up, cutEntry 0x0801 [1, 0, 0, 0, 0, 0, 0, 0], cutEntry 0x0810 [3, 0, 0, 0, 0, 0, 0, 1], _,
      by decide +kernel, rfl, by decide +kernel, rfl, by decide +kernel, by decide, rfl, by decide, rfl⟩,
    ⟨{ cutEntry 0x0810 [3, 0, 0, 0, 0, 0, 0, 1] with sid := 9 }, cutEntry 0x0801 [3, 0, 0, 0, 0, 0, 0, 1], proposed, by decide +kernel, by decide +kernel,
      by decide, by decide, by decide +kernel, rfl, by decide⟩,
    ⟨{ up with trust := { cfg := { lifecycle := .service, roster := holders }, proposal := some proposed } },
      cutEntry 0x0802 ([2, 2, 3, 0, 0, 0, 0, 1] ++ List.replicate 380 0), _, _, { index := 2, role := 2, key := [] }, _, rfl, by decide +kernel, rfl,
      by decide +kernel, by decide +kernel, rfl, rfl, by decide +kernel, rfl, by decide +kernel, by decide +kernel, by decide, by decide, rfl⟩,
    ⟨[2, 0, 1, 0] ++ List.replicate 2420 0, by decide +kernel⟩, ⟨{ up with logic := { exchangeDue := true } }, rfl⟩,
    ⟨up, cutEntry 0x0A01 [0, 0, 0, 0, 0, 0, 0, 10, 1], by decide +kernel⟩, ⟨up, rfl, rfl⟩,
    ⟨{ up with logic := { bank1 := { state := .loading, held := 9, length := 10 } } }, cutEntry 0x0A01 [0, 0, 0, 0, 0, 0, 0, 10, 1],
      cutEntry 0x0A01 [0, 0, 0, 9, 0, 0, 0, 10, 1], by decide +kernel⟩⟩

/-! Invariants -/

theorem witness_StepKeepsBounds : ∃ s u : State, step s = .next u ∧ s.tabled ∧ s.neg.Sized ∧ s.EpochOk :=
  ⟨up, up, rfl, ⟨rfl, rfl, rfl⟩, ⟨by decide, by decide, by decide⟩, (by decide +kernel : up.flt.persistent.epoch.toNat ≤ up.pair.epochKnown.toNat)⟩

/-- The module retired, its Negative closed. -/
def ended : State := { up with trust := { cfg := { lifecycle := .retired } }, neg := { closed := true } }

theorem witness_StepNeverTakesBack : ∃ s u : State, step s = .next u ∧ s.EpochOk ∧ s.Retired ∧ u.neg.closed = true ∧ s.neg.closed = true :=
  ⟨ended, ended, rfl, (by decide +kernel : ended.flt.persistent.epoch.toNat ≤ ended.pair.epochKnown.toNat), ⟨rfl, fun c h => by rw [show ended.trust.due = none from rfl] at h; cases h⟩, rfl, rfl⟩

/-! What well-formedness refuses: one ill-formed command for each check, beside a well-formed neighbour -/

/-- A payload one byte too long. -/
def long : Pkt := { packet 1 0x0501 [] with payload := List.replicate 1025 0 }

theorem test_wf_payload :
    (Instr.modeSetRun t1 long).wf = false ∧ (Instr.modeSetRun t1 { long with payload := List.replicate 1024 0 }).wf = true := by
  decide +kernel

theorem test_wf_fieldMessage :
    (Instr.event t1 { port := .m 0 }).wf = false ∧ (Instr.event t1 { port := .f 0, content := List.replicate 1025 0 }).wf = false ∧
      (Instr.event t1 { port := .f 0 }).wf = true := by
  decide +kernel

theorem test_wf_hello :
    (Instr.hello t1 0 { port := .f 1 }).wf = false ∧ (Instr.hello t1 0 { port := .f 0, content := List.replicate 1025 0 }).wf = false ∧
      (Instr.hello t1 0 { port := .f 0 }).wf = true := by
  decide +kernel

theorem test_wf_session :
    (Instr.sessionAliveExpiry t1 0).wf = false ∧ (Instr.sessionAliveExpiry t1 64).wf = false ∧
      (Instr.openingAbandoned t1 64).wf = false ∧ (Instr.sessionAliveExpiry t1 63).wf = true := by
  decide +kernel

theorem test_wf_object : (Instr.tLossExpiry t1 16384).wf = false ∧ (Instr.tLossExpiry t1 16383).wf = true := by decide +kernel

theorem test_wf_words (l : List W32) (h : 2 ^ 20 < l.length) : (Instr.set t1 .a ⟨.ab, l⟩).wf = false ∧ (Instr.set t1 .a ⟨.ab, []⟩).wf = true := by
  refine ⟨?_, rfl⟩
  simp only [Instr.wf, wordsOk, decide_eq_false_iff_not]
  omega

theorem test_wf_reading :
    (Instr.timebase t1 0 (2 ^ 64) 0).wf = false ∧ (Instr.cycleBoundary t1 .a (2 ^ 64)).wf = false ∧ (Instr.timebase t1 0 1 2).wf = true := by
  decide +kernel

theorem test_wf_charge : (Instr.holdUpReady t1 101).wf = false ∧ (Instr.holdUpReady t1 100).wf = true := by decide +kernel

theorem test_wf_domain (m : PtpMsg) :
    (Instr.ptpMessage t1 { m with domain := 128 }).wf = false ∧ (Instr.ptpMessage t1 { m with domain := 127 }).wf = true := ⟨rfl, rfl⟩

theorem test_wf_slot (p : PulseSamples) : (Instr.darkPulse t1 96 p p p).wf = false ∧ (Instr.darkPulse t1 95 p p p).wf = true := ⟨rfl, rfl⟩

theorem test_wf_datagram :
    (Instr.unrecognisedDatagram t1 (.h 0) (.opcode 0x7777 long)).wf = false ∧ (Instr.unrecognisedDatagram t1 (.h 0) .port).wf = true := by
  decide +kernel

theorem test_wf_delta (h : MirrorHdr) (c : CmdEntry) :
    (Instr.delta t1 h { base := 1, cmds := [{ c with payload := List.replicate 9 0 }] }).wf = false ∧
      (Instr.delta t1 h { base := 1, cmds := [{ c with payload := List.replicate 8 0 }] }).wf = true := ⟨rfl, rfl⟩

/-- One object of an image, and one image of one object. -/
def declared (oid : Nat) (source : Source) (p : Params) : ObjDecl := { oid := oid, symbol := 1, source := source, params := p }
def imageOf (l : List ObjDecl) : Instr := .logicImageVerified t1 { objects := l } true 0 0 0

theorem test_wf_image :
    (imageOf [declared 16384 (.partner 7 0 none) (.point 8000 false [])]).wf = false ∧ (imageOf [declared 1 (.partner 7 0 none) (.point 999 false [])]).wf = false ∧
      (imageOf [declared 1 .internal (.point 8000 false [])]).wf = false ∧ (imageOf [declared 1 (.partner 7 0 none) (.route 9)]).wf = false ∧
      (imageOf [declared 1 (.partner 7 0 none) (.point 8000 false []), declared 1 (.partner 7 1 none) (.point 8000 false [])]).wf = false ∧
      (imageOf [declared 1 (.partner 7 0 none) (.point 8000 false []), declared 2 (.partner 7 1 none) (.point 1000 false [])]).wf = true := by
  decide +kernel

theorem test_wf_route :
    ({ route9 with approach := [3] } : RouteDecl).wf = false ∧
      ({ route9 with approach := [3], settable := storedRow 0 9 [], hold := storedRow 1 9 [], clear := storedRow 2 9 [] } : RouteDecl).wf = true := by
  decide +kernel

theorem test_wf_channel :
    (Instr.logicImageVerified t1 { channels := [{ mode := .output, debounce := 399 }] } true 0 0 0).wf = false ∧
      (Instr.logicImageVerified t1 { channels := [{ mode := .input, debounce := 0 }] } true 0 0 0).wf = false ∧
      (Instr.logicImageVerified t1 { channels := [{ mode := .output, debounce := 400 }, { mode := .input, debounce := 1 }] } true 0 0 0).wf = true := by
  decide +kernel

/-! Values that the manual gives -/

/-- A HOLD row of route 0x2A7 with three literals (R118), and a paired output with the default debounce time (R320). -/
theorem test_row_header : ({ kind := 1, disjunctive := true, count := 3, rid := 0x2A7 } : RowHead).word = 0x603002A7 := by decide

theorem test_channel_word : ({ mode := .paired, debounce := 10000 } : ChEntry).word = 0xC0002710 := by decide

/-- The check values of R458 on the nine digits. -/
theorem test_checks :
    crc32c checkBytes = 0xE3069283 ∧ crc64a checkBytes = 0x6C40DF5F0B497347 ∧ crc64b checkBytes = 0x9D13A61C0E5B0FF5 ∧
      crc16 0xFFFF checkBytes = 0x29B1 ∧ crc16 0 checkBytes = 0x31C3 := by
  decide +kernel

/-- The moves of the table after R75, with P of 30 ms. -/
theorem test_moves :
    [1800000, 1200000, 600000, 300000, 150000, 75000, 25000, 0, -1800000].map (moveFor 30000000) =
      [600000, 600000, 300000, 150000, 75000, 50000, 25000, 0, -600000] := by
  decide +kernel

/-- Oskerby Central fits P = 8 ms and not 7 ms (the worked example after R60). -/
theorem test_fit :
    let h : ImgHeader := { nObjects := 5900, nLiterals := 320000, nTerms := 96000 }
    budgetE h = 1295000 ∧ budgetE h + budgetD h = 5122000 ∧ budgetE h + budgetD h + budgetB h = 6053000 ∧
      fits h { p := 8 } true = true ∧ fits h { p := 7 } true = false := by
  decide +kernel

/-- The refused request of the worked example in the command reference, bytes 0 to 31. -/
theorem test_refused_request :
    let r : Rail := { objs := [obj 0x0100 (.route { rows := 0x81 })] }
    let i : Image := { objects := [{ oid := 0x0100, symbol := 1, source := .internal, params := .route 0x2A7 }],
                       routes := [{ route9 with rid := 0x2A7, oid := 0x0100 }] }
    (Answer.bytes { sid := 6, op := 0x0101, cmdSeq := 0x00001C3A, adm := 41209, status := 0x20,
                    body := routeReport i r 0x2A7 ++ detail 1 0 3 0x0C32 0x00004C18 }) =
      [0x20, 0, 0, 0, 0, 0, 0x1C, 0x3A, 0, 0, 0xA0, 0xF9, 0x02, 0xA7, 0, 0x81, 0xFF, 0, 0, 0, 1, 0, 0, 3, 0x0C, 0x32, 0, 0, 0, 0, 0x4C, 0x18] := by
  decide +kernel

/-! One step -/

/-- With nothing in the queue the module idles (log 2). -/
theorem test_idle : step { up with pending := [] } = .next { up with pending := [] } := rfl

/-- The command in front runs on the rest of the queue. -/
theorem test_front :
    step { up with pending := [.runPoint t1, .takeLamp t1] } = exec (.runPoint t1) { up with pending := [.takeLamp t1] } := rfl


end Sys2Proof.Tests
end

