-- ==== Sys2Proof/Proofs/ResetState.lean ====
section
/-! SUPPORT. The module as delivered: what the accessors of the state read at `State.reset`, and that the invariants of every
step hold there. -/

namespace Sys2Proof.Machine

/-! What the accessors read -/

/-- The three lanes are delivered alike. -/
@[simp] theorem State.reset_lane (l : Lane) : State.reset.lane l = {} := by cases l <;> rfl

/-- Log 9: an empty Negative whose bucket is full. -/
@[simp] theorem State.reset_neg : State.reset.neg = {} := rfl

/-- R8: the cycle settings in force are those of the launch profile (R52). -/
@[simp] theorem State.reset_cs : State.reset.cs = {} := rfl

/-- R8: the pair settings in force are those of the launch profile (R285). -/
@[simp] theorem State.reset_ps : State.reset.ps = {} := rfl

/-- The straps read 0b00, but an unpaired module has the Lamp only with an epoch of its own (R368), and the one as delivered
has none. -/
@[simp] theorem State.reset_holdsLamp : State.reset.holdsLamp = false := by simp [State.holdsLamp, State.reset]

/-! The invariants of every step -/

theorem State.reset_tabled : State.reset.tabled := by
  refine ⟨?links, ?hostPorts, ?mirrorPorts⟩
  case links => exact List.length_replicate
  case hostPorts => exact List.length_replicate
  case mirrorPorts => exact List.length_replicate

/-- The Negative as delivered keeps its bounds: both rings are empty, and the bucket holds as many tokens as it can. -/
theorem Negative.sized_empty : Negative.Sized {} := by simp [Negative.Sized]

theorem State.reset_negSized : State.reset.neg.Sized := Negative.sized_empty

/-- No epoch stands in the archive, and none is known. -/
theorem State.reset_epochOk : State.reset.EpochOk := Nat.le_refl 0

/-! Nothing driven -/

/-- Every lane is down, its field board drives no command switch, and it has its 32 counters. -/
theorem State.reset_lane_idle (l : Lane) :
    (State.reset.lane l).phase = .down ∧ (State.reset.lane l).board.cmdSwitches = 0 ∧
      (State.reset.lane l).counters.length = 32 := by
  rw [State.reset_lane]
  exact ⟨rfl, rfl, List.length_replicate⟩

/-- Settles O58: the invariants of every step hold at reset, and every other clause reads a field that stands at its delivered
value. -/
theorem resetState : Obligations.ResetState := by
  refine ⟨State.reset_tabled, State.reset_negSized, State.reset_epochOk, ?queue, ?secFloor, ?keyFloor, ?epoch,
    ?next, ?tokens, ?lifecycle, ?p, ?develop, ?mirror, ?fixLatest, ?skipLimit, ?lease, ?mode, ?outputs,
    ?sessions, ?entries, State.reset_holdsLamp, State.reset_lane_idle⟩
  case next | tokens => rw [State.reset_neg]
  case p | develop | mirror | fixLatest | skipLimit => rw [State.reset_cs]
  case lease => rw [State.reset_ps]
  case queue | secFloor | keyFloor | epoch | lifecycle | mode | outputs | sessions | entries => rfl

end Sys2Proof.Machine
end

section
/-! SUPPORT. The field objects of 03_field_objects.md: what the object step does to an object whose time has run out, and
which element commands are refused on an object that is LOST or STALE. -/

namespace Sys2Proof.Machine

/-! One object of the railway replaced -/

theorem Rail.oid_of_obj? {r : Rail} {oid : Nat} {o : Obj} (h : r.obj? oid = some o) : o.oid = oid := by
  simpa using List.find?_some h

/-- The object that stands in for one found is itself found under the same OID. -/
theorem Rail.obj?_modObj_const {r : Rail} {oid : Nat} {o y : Obj} (h : r.obj? oid = some o) (hy : y.oid = o.oid) :
    (r.modObj oid fun _ => y).obj? oid = some y := by
  have hyo : y.oid = oid := hy.trans (Rail.oid_of_obj? h)
  have hsame : ((fun x : Obj => decide (x.oid = oid)) ∘ fun x => if decide (x.oid = oid) = true then y else x) =
      fun x => decide (x.oid = oid) := by
    funext x
    by_cases hx : x.oid = oid <;> simp [hx, hyo]
  have hfound : r.objs.find? (fun x => decide (x.oid = oid)) = some o := h
  unfold Rail.obj? Rail.modObj updateWhere
  rw [List.find?_map, hsame, hfound]
  simp [Rail.oid_of_obj? h]

/-! Each step machine answers its own object -/

@[simp] theorem pointTime_oid (limit : Nat) (now : Ticks) (o : Obj) : (pointTime limit now o).oid = o.oid := by
  unfold pointTime
  split
  · dsimp only
    split
    · split <;> rfl
    · rfl
  · rfl

@[simp] theorem provingTimeout_oid (proving : Nat) (now : Ticks) (o : Obj) (s : SignalSt) :
    (provingTimeout proving now o s).1.oid = o.oid := by
  unfold provingTimeout
  split
  · rfl
  · split
    · split <;> rfl
    · split <;> rfl

@[simp] theorem stopRestored_oid (proving : Nat) (now : Ticks) (o : Obj) (s : SignalSt) :
    (stopRestored proving now o s).1.oid = o.oid := by
  unfold stopRestored
  split
  · split <;> rfl
  · rfl

@[simp] theorem signalStep_oid (proving : Nat) (as : List Aspect) (now : Ticks) (reports : List W64) (o : Obj) (s : SignalSt) :
    (signalStep proving as now reports o s).oid = o.oid := by
  unfold signalStep
  dsimp only
  split
  · rfl
  · exact (stopRestored_oid ..).trans (provingTimeout_oid ..)

@[simp] theorem sectionReport_oid (delay : Nat) (axle : Bool) (now : Ticks) (w : W64) (o : Obj) (s : SectionSt) :
    (sectionReport delay axle now w o s).1.oid = o.oid := by
  unfold sectionReport
  dsimp only
  repeat' split
  all_goals rfl

@[simp] theorem sectionStep_oid (delay : Nat) (axle : Bool) (now : Ticks) (reports : List W64) (o : Obj) (s : SectionSt) :
    (sectionStep delay axle now reports o s).oid = o.oid := by
  have hfold : ∀ x : Obj × SectionSt,
      (reports.foldl (fun x w => sectionReport delay axle now w x.1 x.2) x).1.oid = x.1.oid := by
    induction reports with
    | nil => exact fun _ => rfl
    | cons w rest ih => exact fun x => (ih _).trans (sectionReport_oid ..)
  unfold sectionStep
  split
  · rfl
  · exact hfold (o, s)

@[simp] theorem crossingMove_oid (warning closing : Nat) (now : Ticks) (o : Obj) (c : CrossingSt) :
    (crossingMove warning closing now o c).1.oid = o.oid := by
  unfold crossingMove
  dsimp only
  repeat' split
  all_goals rfl

@[simp] theorem crossingStep_oid (e : Env) (warning closing : Nat) (reports : List W64) (o : Obj) (c : CrossingSt) :
    (crossingStep e warning closing reports o c).oid = o.oid := by
  unfold crossingStep
  dsimp only
  split
  · rfl
  · exact crossingMove_oid ..

/-! What the object step leaves in the railway, by type (R154) -/

section
variable {e : Env} {r : Rail} {d : ObjDecl} {o : Obj}

theorem objectStep_point {limit : Nat} {facing : Bool} {z : List Nat} {p : PointSt} (h : r.obj? d.oid = some o)
    (hd : d.params = .point limit facing z) (hb : o.body = .point p) :
    (objectStep e d [] r).obj? d.oid = some (pointTime limit e.now o) := by
  have hstep : objectStep e d [] r = r.modObj d.oid fun _ => pointTime limit e.now o := by
    simp [objectStep, h, hd, hb]
  rw [hstep, Rail.obj?_modObj_const h (pointTime_oid limit e.now o)]

theorem objectStep_signal {proving : Nat} {as : List Aspect} {s : SignalSt} (reports : List W64) (h : r.obj? d.oid = some o)
    (hd : d.params = .signal proving as) (hb : o.body = .signal s) :
    (objectStep e d reports r).obj? d.oid = some (signalStep proving as e.now reports o s) := by
  have hstep : objectStep e d reports r = r.modObj d.oid fun _ => signalStep proving as e.now reports o s := by
    simp only [objectStep, h, hd, hb]
  rw [hstep, Rail.obj?_modObj_const h (signalStep_oid ..)]

theorem objectStep_stretch {delay : Nat} {axle direct : Bool} {s : SectionSt} (reports : List W64) (h : r.obj? d.oid = some o)
    (hd : d.params = .stretch delay axle direct) (hb : o.body = .stretch s) :
    (objectStep e d reports r).obj? d.oid = some (sectionStep delay axle e.now reports o s) := by
  have hstep : objectStep e d reports r = r.modObj d.oid fun _ => sectionStep delay axle e.now reports o s := by
    simp only [objectStep, h, hd, hb]
  rw [hstep, Rail.obj?_modObj_const h (sectionStep_oid ..)]

theorem objectStep_crossing {warning closing : Nat} {z : Bool} {c : CrossingSt} (reports : List W64)
    (h : r.obj? d.oid = some o) (hd : d.params = .crossing warning closing z) (hb : o.body = .crossing c) :
    (objectStep e d reports r).obj? d.oid = some (crossingStep e warning closing reports o c) := by
  have hstep : objectStep e d reports r = r.modObj d.oid fun _ => crossingStep e warning closing reports o c := by
    simp only [objectStep, h, hd, hb]
  rw [hstep, Rail.obj?_modObj_const h (crossingStep_oid ..)]

end

/-! POINT: the move time limit (R95) -/

theorem pointTime_expired {limit : Nat} {now : Ticks} {o : Obj} {p : PointSt} (hb : o.body = .point p)
    (hm : p.moving = true) (hs : o.stale = false) (h : limit ≤ (now - p.start) / 10000) :
    pointTime limit now o =
      { o with fault := true,
               body := .point { p with pos := 0, cmd := 0, moving := false, elapsed := min 65535 ((now - p.start) / 10000) } } := by
  simp [pointTime, hb, hm, hs, h]

/-! SIGNAL: the proving time (R98, R99) -/

/-- A signal that has just shown another aspect than the commanded one is in difference since it began to differ. -/
theorem track_differs {s : SignalSt} (now : Ticks) (h : s.shown ≠ s.cmd) :
    track now s = { s with agreeSince := none, differSince := some (s.differSince.getD now) } := by
  simp [track, h]

/-- Following the agreement moves the two starting instants only (R98). -/
theorem track_eq (now : Ticks) (s : SignalSt) :
    track now s = { s with agreeSince := (track now s).agreeSince, differSince := (track now s).differSince } := by
  unfold track
  split <;> rfl

@[simp] theorem track_cmd (now : Ticks) (s : SignalSt) : (track now s).cmd = s.cmd := by rw [track_eq]

@[simp] theorem track_stopUnproven (now : Ticks) (s : SignalSt) : (track now s).stopUnproven = s.stopUnproven := by rw [track_eq]

@[simp] theorem track_unprovenSince (now : Ticks) (s : SignalSt) : (track now s).unprovenSince = s.unprovenSince := by
  rw [track_eq]

@[simp] theorem setAspect_cmd (now : Ticks) (a : BitVec 4) (s : SignalSt) : (setAspect now a s).cmd = a := track_cmd now _

@[simp] theorem setAspect_stopUnproven (now : Ticks) (a : BitVec 4) (s : SignalSt) :
    (setAspect now a s).stopUnproven = s.stopUnproven := track_stopUnproven now _

/-- An aspect just commanded can only have been shown from now on (R98). -/
theorem setAspect_agreeSince {now t : Ticks} {a : BitVec 4} {s : SignalSt} (h : (setAspect now a s).agreeSince = some t) :
    t = now := by
  unfold setAspect track at h
  split at h
  · exact (Option.some.inj h).symm
  · contradiction

/-- The watch starts at the first cycle without proof and then keeps its instant (R99). -/
theorem watch_unproven {proving : Nat} {now : Ticks} {s : SignalSt} (h : s.proven proving now = false) :
    watch proving now s = { s with unprovenSince := some (s.unprovenSince.getD now) } := by
  simp [watch, h]

theorem SignalSt.agrees_shorter_of_unproven {proving : Nat} {now a : Ticks} {s : SignalSt} (h : s.proven proving now = false)
    (ha : s.agreeSince = some a) : now - a < tk proving := by
  simp only [SignalSt.proven, ha, Bool.or_eq_false_iff, decide_eq_false_iff_not] at h
  exact Nat.not_le.mp h.2

section
variable {proving : Nat} {now : Ticks} {o : Obj} {s : SignalSt}

theorem provingTimeout_proceed (hl : o.lost = false) (hs : o.stale = false) (hc : s.cmd ≠ 0)
    (h : longerThan proving now s.differSince = true) :
    provingTimeout proving now o s = ({ o with fault := true }, { setAspect now 0 s with lampFault := true }) := by
  simp only [provingTimeout, hl, hs, Bool.or_false, Bool.false_eq_true, if_false, if_pos hc, if_pos h]

theorem provingTimeout_stop (hl : o.lost = false) (hs : o.stale = false) (hc : s.cmd = 0)
    (h : longerThan proving now s.unprovenSince = true) :
    provingTimeout proving now o s = ({ o with fault := true }, { s with stopUnproven := true }) := by
  simp [provingTimeout, hl, hs, hc, h]

/-- Nothing is restored before the stop aspect has agreed for the proving time (R99). -/
theorem stopRestored_early (h : ∀ a, s.agreeSince = some a → now - a < tk proving) : stopRestored proving now o s = (o, s) := by
  unfold stopRestored
  split
  case h_1 a ha => simp [Nat.not_le.mpr (h a ha)]
  case h_2 => rfl

/-- No aspect is permitted at LAMP_FAULT, so a signal at stop stays there (R99). -/
theorem followPermitted_of_lampFault (as : List Aspect) (hf : s.lampFault = true) (hc : s.cmd = 0) :
    followPermitted proving as now o s = s := by
  have hp : permitted as o s = 0 := by simp [permitted, hf]
  simp [followPermitted, hp, hc]

theorem followPermitted_stopUnproven (as : List Aspect) :
    (followPermitted proving as now o s).stopUnproven = s.stopUnproven := by
  unfold followPermitted
  dsimp only
  split
  · rfl
  · split
    · exact setAspect_stopUnproven ..
    · split
      · exact setAspect_stopUnproven ..
      · split
        · exact setAspect_stopUnproven ..
        · rfl

/-- The step of a signal with fresh data and no report, when the time that ran out is not made good in the same cycle. -/
theorem signalStep_of_timeout {o' : Obj} {s' : SignalSt} (as : List Aspect) (hl : o.lost = false) (hs : o.stale = false)
    (ht : provingTimeout proving now o (watch proving now (track now s)) = (o', s'))
    (hr : ∀ a, s'.agreeSince = some a → now - a < tk proving) :
    signalStep proving as now [] o s =
      { o' with body := .signal (aspectTime now (followPermitted proving as now o' s')) } := by
  simp [signalStep, hl, hs, ht, stopRestored_early hr]

end

/-! SECTION: the clear delay (R101) -/

@[simp] theorem setOcc_occ (now : Ticks) (c : Occ) (s : SectionSt) : (setOcc now c s).occ = c := by
  unfold setOcc
  split
  next h => exact h
  next => rfl

section
variable {delay : Nat} {now since : Ticks} {w : W64} {o : Obj} {s : SectionSt}

theorem sectionReport_clear_after_delay (hocc : s.occ = .occupied) (hw : w.toNat % 4 = 0) (hsince : s.clearSince = some since)
    (h : tk delay ≤ now - since) : (sectionReport delay false now w o s).2.occ = .clear := by
  simp [sectionReport, hocc, hw, hsince, h]

theorem sectionReport_clear_in_delay (hocc : s.occ = .occupied) (hw : w.toNat % 4 = 0) (hsince : s.clearSince = some since)
    (h : now - since < tk delay) : (sectionReport delay false now w o s).2.occ = .occupied := by
  simp [sectionReport, hocc, hw, hsince, Nat.not_le.mpr h]

theorem sectionStep_single_body {axle : Bool} (hl : o.lost = false) :
    (sectionStep delay axle now [w] o s).body = .stretch (occTime now (sectionReport delay axle now w o s).2) := by
  simp [sectionStep, hl]

end

/-! CROSSING: the ends of the closing and of the warning time (R109) -/

section
variable {warning closing : Nat} {now t : Ticks} {o : Obj} {c : CrossingSt}

theorem crossingMove_closing_expired (hc : c.state = .closing) (ht : c.timerEnd = some t) (h : t ≤ now)
    (hn : ¬(c.down = true ∧ c.obstacleFree = true ∧ c.lightsOk = true)) :
    (crossingMove warning closing now o c).2.state = .failed ∧ (crossingMove warning closing now o c).1.fault = true := by
  have hnot : (c.down && c.obstacleFree && c.lightsOk) = false := by
    simpa [← Bool.not_eq_true, and_assoc] using hn
  cases hq : c.closeReq <;> simp [crossingMove, crossingFail, hc, ht, h, hnot, hq]

theorem crossingMove_warning_expired_lit (hc : c.state = .warning) (ht : c.timerEnd = some t) (h : t ≤ now)
    (hl : c.lightsOk = true) :
    (crossingMove warning closing now o c).2.state = .closing ∧ (crossingMove warning closing now o c).2.raise = false ∧
      (crossingMove warning closing now o c).2.timerEnd = some (now + tk closing) := by
  cases hq : c.closeReq <;> simp [crossingMove, hc, ht, h, hl, hq]

theorem crossingMove_warning_expired_dark (hc : c.state = .warning) (ht : c.timerEnd = some t) (h : t ≤ now)
    (hl : c.lightsOk = false) :
    (crossingMove warning closing now o c).2.state = .failed ∧ (crossingMove warning closing now o c).1.fault = true := by
  cases hq : c.closeReq <;> simp [crossingMove, crossingFail, hc, ht, h, hl, hq]

end

section
variable {e : Env} {warning closing : Nat} {o : Obj} {c : CrossingSt} (hl : o.lost = false)
include hl

theorem crossingStep_silent_body : (crossingStep e warning closing [] o c).body =
    .crossing (crossingMove warning closing e.now o { c with closeReq := closeReq e.settle o c }).2 := by
  simp [crossingStep, hl]

theorem crossingStep_silent_fault : (crossingStep e warning closing [] o c).fault =
    (crossingMove warning closing e.now o { c with closeReq := closeReq e.settle o c }).1.fault := by
  simp [crossingStep, hl]

end

/-! The expiries of the object step -/

section
variable {e : Env} {r : Rail} {d : ObjDecl} {o : Obj} (h : r.obj? d.oid = some o) (hl : o.lost = false)
  (hs : o.stale = false)
include h hl hs

theorem objectStep_proceed_timeout {proving : Nat} {as : List Aspect} {x : SignalSt} {w : Ticks}
    (hd : d.params = .signal proving as) (hb : o.body = .signal x) (hp : 0 < proving) (hne : x.shown ≠ x.cmd) (hc : x.cmd ≠ 0)
    (hw : x.differSince = some w) (ht : tk proving < e.now - w) :
    ∃ q y, (objectStep e d [] r).obj? d.oid = some y ∧ y.body = .signal q ∧ y.fault = true ∧ q.cmd = 0 ∧ q.lampFault = true := by
  have htrack : track e.now x = { x with agreeSince := none, differSince := some w } := by simp [track_differs e.now hne, hw]
  have hto := provingTimeout_proceed (proving := proving) (now := e.now) (s := watch proving e.now (track e.now x)) hl hs
    (by simpa [watch, htrack] using hc) (by simp [watch, htrack, longerThan, ht])
  have hstep := signalStep_of_timeout as hl hs hto fun a ha => by
    have hnow : a = e.now := setAspect_agreeSince ha
    rw [hnow, Nat.sub_self]
    exact Nat.mul_pos hp (by decide)
  have hstay : followPermitted proving as e.now { o with fault := true }
      { setAspect e.now 0 (watch proving e.now (track e.now x)) with lampFault := true } =
      { setAspect e.now 0 (watch proving e.now (track e.now x)) with lampFault := true } :=
    followPermitted_of_lampFault as rfl (setAspect_cmd ..)
  rw [hstay] at hstep
  exact ⟨_, _, (objectStep_signal [] h hd hb).trans (congrArg some hstep), rfl, rfl, setAspect_cmd .., rfl⟩

theorem objectStep_stop_timeout {proving : Nat} {as : List Aspect} {x : SignalSt} {w : Ticks}
    (hd : d.params = .signal proving as) (hb : o.body = .signal x) (hc : x.cmd = 0) (hw : x.unprovenSince = some w)
    (hp : (track e.now x).proven proving e.now = false) (ht : tk proving < e.now - w) :
    ∃ q y, (objectStep e d [] r).obj? d.oid = some y ∧ y.body = .signal q ∧ y.fault = true ∧ q.stopUnproven = true := by
  have hwatch : watch proving e.now (track e.now x) = { track e.now x with unprovenSince := some w } := by
    simp [watch_unproven hp, hw]
  have hto := provingTimeout_stop (proving := proving) (now := e.now) (s := watch proving e.now (track e.now x)) hl hs
    (by simp [hwatch, hc]) (by simp [hwatch, longerThan, ht])
  have hstep := signalStep_of_timeout as hl hs hto fun a ha =>
    SignalSt.agrees_shorter_of_unproven hp (by simpa [hwatch] using ha)
  exact ⟨_, _, (objectStep_signal [] h hd hb).trans (congrArg some hstep), rfl, rfl, followPermitted_stopUnproven as⟩

end

/-- Settles O34, type by type: the object step leaves what the type's own step machine answers, and each expiry is one
branch of it. -/
theorem objectTimersExpire : Obligations.ObjectTimersExpire := by
  intro e r d o h hl hs
  refine ⟨?point, ?signal, ?stretch, ?crossing⟩
  case point =>
    intro limit facing z p hd hb hm ht
    exact ⟨_, _, (objectStep_point h hd hb).trans (congrArg some (pointTime_expired hb hm hs ht)), rfl, rfl, rfl, rfl, rfl, rfl⟩
  case signal =>
    intro proving as x w hd hb ht
    exact ⟨fun hp _ hne hc hw => objectStep_proceed_timeout h hl hs hd hb hp hne hc hw ht,
      fun hc hw hp => objectStep_stop_timeout h hl hs hd hb hc hw hp ht⟩
  case stretch =>
    intro delay direct x w v hd hb hocc hw hv
    exact ⟨_, _, objectStep_stretch [v] h hd hb, sectionStep_single_body hl,
      fun ht => sectionReport_clear_after_delay hocc hv hw ht, fun ht => sectionReport_clear_in_delay hocc hv hw ht⟩
  case crossing =>
    intro warning closing z x w hd hb hw ht
    refine ⟨_, _, objectStep_crossing [] h hd hb, crossingStep_silent_body hl, ?_⟩
    rw [crossingStep_silent_fault hl]
    exact ⟨fun hc hn => crossingMove_closing_expired hc hw ht hn, fun hc hlit => crossingMove_warning_expired_lit hc hw ht hlit,
      fun hc hdark => crossingMove_warning_expired_dark hc hw ht hdark⟩

/-! Element commands on an object that is LOST or STALE (R92) -/

section
variable {e : Env} {r : Rail} {o : Obj} (h : o.lost = true ∨ o.stale = true)
include h

theorem pointMoveCmd_of_lost_or_stale (p : PointSt) (pos : Pos) : pointMoveCmd e r o p pos = (0x21, objDetail e.img o.oid, o) := by
  simp [pointMoveCmd, h]

theorem blockCmd_off_of_lost_or_stale (now : Ticks) : blockCmd now o false = (0x21, noDetail, o) := by
  simp [blockCmd, h]

theorem sectionCmd_of_lost_or_stale (axle direct : Bool) (s : SectionSt) : sectionCmd e axle direct o s = (0x21, noDetail, o) := by
  simp [sectionCmd, h]

theorem restoreCmd_of_lost_or_stale (b : BlockBits) (x : BlockSt) : restoreCmd e b o x = (0x21, noDetail, o) := by
  simp [restoreCmd, h]

theorem zoneCmd_of_lost_or_stale (points : List Nat) (routes : List (BitVec 12)) (z : ZoneSt) :
    zoneCmd e r points routes o z = (0x21, noDetail, o) := by
  simp [zoneCmd, h]

/-- Whatever the opcode and the type: only a command that sets a block passes (R92). -/
theorem elementCmd_of_lost_or_stale (d : ObjDecl) (c : Elem) (hop : c.op.toNat = 0x0202 ∨ c.op.toNat = 0x0211 → c.arg ≠ 1) :
    (elementCmd e r d c o).1 = 0x21 ∧ (elementCmd e r d c o).2.2 = o := by
  unfold elementCmd
  split
  case h_1 => simp [pointMoveCmd_of_lost_or_stale h]
  case h_2 hc _ _ => simp [hop (.inl hc), blockCmd_off_of_lost_or_stale h]
  case h_3 hc _ _ => simp [hop (.inr hc), blockCmd_off_of_lost_or_stale h]
  case h_4 => simp [sectionCmd_of_lost_or_stale h]
  case h_5 => simp [restoreCmd_of_lost_or_stale h]
  case h_6 => simp [zoneCmd_of_lost_or_stale h]
  case h_7 => exact ⟨rfl, rfl⟩

end

/-! A block is always set (R92, R255) -/

section
variable {e : Env} {r : Rail} {d : ObjDecl} {c : Elem} {o : Obj}

theorem blockCmd_on (now : Ticks) (o : Obj) : (blockCmd now o true).1 = 0x00 ∧ (blockCmd now o true).2.2.blocked = true := by
  unfold blockCmd
  dsimp only
  split
  · contradiction
  · split
    · refine ⟨rfl, ?_⟩
      dsimp only
      split <;> rfl
    · exact ⟨rfl, rfl⟩

theorem elementCmd_point_block {limit : Nat} {facing : Bool} {z : List Nat} {p : PointSt} (hop : c.op = 0x0202)
    (harg : c.arg = 1) (hd : d.params = .point limit facing z) (hb : o.body = .point p) :
    elementCmd e r d c o = (0x00, [], { o with blocked := true }) := by
  simp [elementCmd, blockCmd, hop, harg, hd, hb]

theorem elementCmd_signal_block {proving : Nat} {as : List Aspect} {x : SignalSt} (hop : c.op = 0x0211) (harg : c.arg = 1)
    (hd : d.params = .signal proving as) (hb : o.body = .signal x) :
    (elementCmd e r d c o).1 = 0x00 ∧ (elementCmd e r d c o).2.2.blocked = true := by
  have hcmd : elementCmd e r d c o = blockCmd e.now o true := by simp [elementCmd, hop, harg, hd, hb]
  rw [hcmd]
  exact blockCmd_on e.now o

theorem elementCmd_section_reset {delay : Nat} {axle direct : Bool} {x : SectionSt} (hop : c.op = 0x0221)
    (hd : d.params = .stretch delay axle direct) (hb : o.body = .stretch x) :
    elementCmd e r d c o = sectionCmd e axle direct o x := by
  simp [elementCmd, hop, hd, hb]

end

/-! SECTION_RESET on a section with fresh data (R102) -/

section
variable {e : Env} {axle direct : Bool} {o : Obj} {x : SectionSt} (hl : o.lost = false) (hs : o.stale = false)
include hl hs

theorem sectionCmd_not_disturbed (h : axle = false ∨ x.occ ≠ .disturbed) :
    sectionCmd e axle direct o x = (0x13, noDetail, o) := by
  simp [sectionCmd, hl, hs, h]

theorem sectionCmd_locked (hx : x.occ = .disturbed) (he : e.settle = false) (h : o.lock.mode ≠ .none) :
    sectionCmd e true true o x = (0x22, noDetail, o) := by
  simp [sectionCmd, hl, hs, hx, he, h]

theorem sectionCmd_axles (hx : x.occ = .disturbed) (he : e.settle = false) (hm : o.lock.mode = .none) (h : x.axles ≠ 0) :
    sectionCmd e true true o x = (0x21, noDetail, o) := by
  simpa [sectionCmd, hl, hs, hx, he, hm] using h

end

/-- Settles O51: on an object that is LOST or STALE every element command but the setting of a block is refused, and a reset
meets the refusals of R102 in their order. -/
theorem elementCommandsRefused : Obligations.ElementCommandsRefused := by
  refine ⟨fun e r d c o h => ⟨fun hop => ?refused, fun _ _ _ _ hop harg hd hb => elementCmd_point_block hop harg hd hb,
    fun _ _ _ hop harg hd hb => elementCmd_signal_block hop harg hd hb⟩,
    fun e r d c o delay axle direct x hl hs hop hd hb => ?reset⟩
  case refused =>
    refine elementCmd_of_lost_or_stale h d c fun hblock => ?_
    rcases hop with hop | ⟨_, harg⟩
    · simp only [List.mem_cons, List.not_mem_nil, or_false] at hop
      rcases hop with hop | hop | hop | hop <;> simp [hop] at hblock
    · exact harg
  case reset =>
    rw [elementCmd_section_reset hop hd hb]
    refine ⟨fun hn => ?_, ?_⟩
    · rw [sectionCmd_not_disturbed hl hs hn]
      exact ⟨rfl, rfl⟩
    · rintro rfl hx rfl he
      refine ⟨fun hm => ?_, fun hm ha => ?_⟩
      · rw [sectionCmd_locked hl hs hx he hm]
        exact ⟨rfl, rfl⟩
      · rw [sectionCmd_axles hl hs hx he hm ha]
        exact ⟨rfl, rfl⟩

end Sys2Proof.Machine
end

section
/-! SUPPORT. Firmware and logic images of 05_folquel_logic.md and 14_contact_printing.md: what becomes of an image once K has
checked it, of a partial one, of a schedule at its boundary, and what a start keeps of the boot record. -/

namespace Sys2Proof.Machine

/-! The offer's slot and the logic banks -/

section
variable (s : State)

@[simp] theorem State.offerSlot_begin (t : Time) : (s.begin t).offerSlot = s.offerSlot := rfl

@[simp] theorem State.loadBank_begin (t : Time) : (s.begin t).loadBank = s.loadBank := rfl

@[simp] theorem State.offerSlot_modOfferSlot (f : Slot → Slot) : (s.modOfferSlot f).offerSlot = f s.offerSlot := by
  cases h : s.upd.running <;> simp [State.modOfferSlot, State.offerSlot, h]

/-- An offer's slot belongs to the record of updates. -/
theorem State.modOfferSlot_eq (f : Slot → Slot) :
    s.modOfferSlot f = { s with upd := (s.modOfferSlot f).upd } := by
  unfold State.modOfferSlot
  split <;> rfl

@[simp] theorem State.modOfferSlot_net (f : Slot → Slot) : (s.modOfferSlot f).net = s.net := by rw [State.modOfferSlot_eq]
@[simp] theorem State.modOfferSlot_cyc (f : Slot → Slot) : (s.modOfferSlot f).cyc = s.cyc := by rw [State.modOfferSlot_eq]
@[simp] theorem State.modOfferSlot_trust (f : Slot → Slot) : (s.modOfferSlot f).trust = s.trust := by rw [State.modOfferSlot_eq]
@[simp] theorem State.modOfferSlot_boot (f : Slot → Slot) : (s.modOfferSlot f).upd.boot = s.upd.boot := by
  unfold State.modOfferSlot
  split <;> rfl

@[simp] theorem State.offerSlot_event (code : Nat) (data : List Byte) : (s.event code data).offerSlot = s.offerSlot := by
  simp [State.offerSlot]

/-- The bank that does not run, filled or judged (R166). -/
def State.setLoadBank (x : LogicBank) : State := s.setBank (!s.logic.activeBank) x

@[simp] theorem State.setLoadBank_net (x : LogicBank) : (s.setLoadBank x).net = s.net := State.setBank_net ..
@[simp] theorem State.setLoadBank_cyc (x : LogicBank) : (s.setLoadBank x).cyc = s.cyc := State.setBank_cyc ..
@[simp] theorem State.setLoadBank_rail (x : LogicBank) : (s.setLoadBank x).rail = s.rail := State.setBank_rail ..

@[simp] theorem State.loadBank_setLoadBank (x : LogicBank) : (s.setLoadBank x).loadBank = x := by
  cases h : s.logic.activeBank <;> simp [State.setLoadBank, State.loadBank, State.setBank, State.bank, h]

/-- The bank that runs stays as it is. -/
theorem State.bank_setLoadBank (x : LogicBank) : (s.setLoadBank x).bank s.logic.activeBank = s.bank s.logic.activeBank := by
  cases h : s.logic.activeBank <;> simp [State.setLoadBank, State.setBank, State.bank, h]

@[simp] theorem State.bank_event (code : Nat) (data : List Byte) (b : Bool) : (s.event code data).bank b = s.bank b := by
  simp [State.bank]

@[simp] theorem State.loadBank_event (code : Nat) (data : List Byte) : (s.event code data).loadBank = s.loadBank := by
  simp [State.loadBank]

/-! The boot record (R426) -/

@[simp] theorem State.bootWrite_boot (f : Boot → Boot) :
    (s.bootWrite f).upd.boot = { f s.upd.boot with generation := (f s.upd.boot).generation + 1 } := rfl

@[simp] theorem State.bootWrite_cyc (f : Boot → Boot) : (s.bootWrite f).cyc = s.cyc := rfl
@[simp] theorem State.bootWrite_deferred (f : Boot → Boot) : (s.bootWrite f).upd.deferred = s.upd.deferred := rfl

end

/-! The answer that the last part of an image waits for (R166, R429) -/

/-- The answer of an entry that a slot or a bank keeps until its image is checked: the bytes held where the image is good. -/
def State.answerPart (s : State) (w : Option Entry) (held : Nat) (st : Byte) (det : List Byte) : State :=
  match w with
  | some e => if e.done then s else if st = 0 then s.done e (beBytes 4 held) else s.refuse e st det
  | none => s

/-- The answer joins those that wait to leave; nothing else moves. -/
theorem State.answerPart_eq (s : State) (w : Option Entry) (held : Nat) (st : Byte) (det : List Byte) :
    s.answerPart w held st det = { s with net.answers := (s.answerPart w held st det).net.answers } := by
  unfold State.answerPart
  split
  · split
    · rfl
    · split <;> rfl
  · rfl

section
variable (s : State) (w : Option Entry) (held : Nat) (st : Byte) (det : List Byte)

@[simp] theorem State.answerPart_cyc : (s.answerPart w held st det).cyc = s.cyc := by rw [State.answerPart_eq]
@[simp] theorem State.answerPart_rail : (s.answerPart w held st det).rail = s.rail := by rw [State.answerPart_eq]
@[simp] theorem State.answerPart_logic : (s.answerPart w held st det).logic = s.logic := by rw [State.answerPart_eq]
@[simp] theorem State.answerPart_trust : (s.answerPart w held st det).trust = s.trust := by rw [State.answerPart_eq]
@[simp] theorem State.answerPart_upd : (s.answerPart w held st det).upd = s.upd := by rw [State.answerPart_eq]

@[simp] theorem State.offerSlot_answerPart : (s.answerPart w held st det).offerSlot = s.offerSlot := by
  simp [State.offerSlot]

@[simp] theorem State.bank_answerPart (b : Bool) : (s.answerPart w held st det).bank b = s.bank b := by
  simp [State.bank]

@[simp] theorem State.loadBank_answerPart : (s.answerPart w held st det).loadBank = s.loadBank := by
  simp [State.loadBank]

@[simp] theorem State.answerPart_none : s.answerPart none held st det = s := rfl

/-- An entry that is not answered yet gets one answer of the given status. -/
theorem State.answerPart_answers {e : Entry} (he : e.done = false) :
    ∃ a : Answer, (s.answerPart (some e) held st det).net.answers = s.net.answers ++ [a] ∧ a.adm = e.adm ∧ a.status = st := by
  simp only [State.answerPart, he, Bool.false_eq_true, if_false]
  split
  next h => exact ⟨e.answer 0x00 (beBytes 4 held), rfl, rfl, h.symm⟩
  next => exact ⟨s.refusal e st det, rfl, rfl, rfl⟩

end

/-! Printing begins (R430) -/

/-- Two states that differ at most in what printing writes: the boot record, the printing sessions and what leaves. -/
def State.alikeButPrints (s u : State) : Prop :=
  u = { s with outbox := u.outbox, m := u.m, upd.boot := u.upd.boot, upd.print0 := u.upd.print0, upd.print1 := u.upd.print1 }

theorem State.alikeButPrints.trans {a b c : State} (h : a.alikeButPrints b) (k : b.alikeButPrints c) : a.alikeButPrints c := by
  unfold State.alikeButPrints at *
  rw [k, h]

section
variable {s u : State} (h : s.alikeButPrints u)
include h

theorem State.alikeButPrints.now_eq : u.now = s.now := by rw [h]
theorem State.alikeButPrints.cyc_eq : u.cyc = s.cyc := by rw [h]
theorem State.alikeButPrints.net_eq : u.net = s.net := by rw [h]
theorem State.alikeButPrints.offerSlot_eq : u.offerSlot = s.offerSlot := by rw [h]; rfl

end

theorem State.alikeButPrints_modPrinting (s : State) (k : Nat) (f : Printing → Printing) :
    s.alikeButPrints (s.modPrinting k f) := by
  unfold State.modPrinting
  split <;> rfl

theorem State.alikeButPrints_beginPrint (s : State) (k : Nat) : s.alikeButPrints (s.beginPrint k) := by
  unfold State.beginPrint
  split
  · split
    · exact State.alikeButPrints_modPrinting ..
    · exact (State.alikeButPrints_modPrinting ..).trans rfl
  · rfl

/-- Printing to one downstream entry is marked due, counts its time from now and opens its session. -/
def State.startPrint (s : State) (k : Nat) : State :=
  ((s.bootWrite fun b => b.withPrint k 1).modPrinting k fun _ => { begun := s.now }).beginPrint k

theorem State.startPrinting_eq_foldl (s : State) :
    s.startPrinting = (List.range s.trust.cfg.downstream.length).foldl State.startPrint s := rfl

theorem State.alikeButPrints_startPrint (s : State) (k : Nat) : s.alikeButPrints (s.startPrint k) :=
  have hmark : s.alikeButPrints (s.bootWrite fun b => b.withPrint k 1) := rfl
  (hmark.trans (State.alikeButPrints_modPrinting ..)).trans (State.alikeButPrints_beginPrint ..)

theorem State.alikeButPrints_startPrints (s : State) (n : Nat) :
    s.alikeButPrints ((List.range n).foldl State.startPrint s) := by
  induction n with
  | zero => rfl
  | succ n ih =>
    rw [List.range_succ, List.foldl_append]
    exact ih.trans (State.alikeButPrints_startPrint ..)

/-! Two bits of the boot record for each of the two entries (R426) -/

section
variable (b : Boot)

theorem Boot.print_zero : b.print 0 = b.printing.toNat % 4 := by simp [Boot.print, bitsOf]

theorem Boot.print_one : b.print 1 = b.printing.toNat / 4 % 4 := rfl

theorem Boot.withPrint_zero_toNat : (b.withPrint 0 1).printing.toNat = b.print 1 * 4 + 1 := by
  have := b.print_one
  simp only [Boot.withPrint, if_pos, BitVec.toNat_ofNat]
  omega

theorem Boot.withPrint_toNat {k : Nat} (hk : k ≠ 0) : (b.withPrint k 1).printing.toNat = 4 + b.print 0 := by
  have := b.print_zero
  simp only [Boot.withPrint, if_neg hk, BitVec.toNat_ofNat]
  omega

theorem Boot.print_withPrint_same {k : Nat} (hk : k < 2) : (b.withPrint k 1).print k = 1 := by
  obtain rfl | rfl : k = 0 ∨ k = 1 := by omega
  · rw [Boot.print_zero, Boot.withPrint_zero_toNat]
    omega
  · have := b.print_zero
    rw [Boot.print_one, Boot.withPrint_toNat b Nat.one_ne_zero]
    omega

/-- An entry marked due stays so when another one is marked; every entry but the first has the second pair of bits. -/
theorem Boot.print_withPrint_of_due {j k : Nat} (hj : j < 2) (h : b.print j = 1) : (b.withPrint k 1).print j = 1 := by
  obtain rfl | rfl : j = 0 ∨ j = 1 := by omega
  · by_cases hk : k = 0
    · subst hk
      exact b.print_withPrint_same hj
    · rw [Boot.print_zero, Boot.withPrint_toNat b hk]
      omega
  · by_cases hk : k = 0
    · subst hk
      rw [Boot.print_one, Boot.withPrint_zero_toNat]
      omega
    · rw [Boot.print_one, Boot.withPrint_toNat b hk]
      have := b.print_zero
      omega

end

/-! Every downstream entry gets its mark and its starting instant -/

section
variable (s : State)

/-- Entry 0 has the first session, every other entry the second. -/
theorem State.printing_modPrinting (j k : Nat) (f : Printing → Printing) :
    (s.modPrinting k f).printing j = if (j = 0 ↔ k = 0) then f (s.printing j) else s.printing j := by
  by_cases hj : j = 0 <;> by_cases hk : k = 0 <;> simp [State.modPrinting, State.printing, hj, hk]

@[simp] theorem State.modPrinting_boot (k : Nat) (f : Printing → Printing) : (s.modPrinting k f).upd.boot = s.upd.boot := by
  unfold State.modPrinting
  split <;> rfl

@[simp] theorem State.beginPrint_boot (k : Nat) : (s.beginPrint k).upd.boot = s.upd.boot := by
  unfold State.beginPrint
  split
  · split <;> simp
  · rfl

/-- The opening of a session leaves the starting instants of both entries. -/
@[simp] theorem State.beginPrint_begun (j k : Nat) : ((s.beginPrint k).printing j).begun = (s.printing j).begun := by
  have hopen : ∀ f : Printing → Printing, (∀ x, (f x).begun = x.begun) →
      ((s.modPrinting k f).printing j).begun = (s.printing j).begun := fun f hf => by
    rw [State.printing_modPrinting]
    split
    · exact hf _
    · rfl
  unfold State.beginPrint
  split
  · split
    · exact hopen _ fun _ => rfl
    · exact hopen _ fun _ => rfl
  · rfl

/-- Printing to an entry is due, and its time runs from now (R430, R432). -/
def State.printBegun (s : State) (k : Nat) : Prop := s.upd.boot.print k = 1 ∧ (s.printing k).begun = s.now

theorem State.startPrint_boot_print (j k : Nat) :
    (s.startPrint k).upd.boot.print j = (s.upd.boot.withPrint k 1).print j := by
  unfold State.startPrint
  rw [State.beginPrint_boot, State.modPrinting_boot]
  rfl

theorem State.startPrint_begun (j k : Nat) :
    ((s.startPrint k).printing j).begun = if (j = 0 ↔ k = 0) then s.now else (s.printing j).begun := by
  unfold State.startPrint
  rw [State.beginPrint_begun, State.printing_modPrinting]
  split <;> rfl

theorem State.printBegun_startPrint_same {k : Nat} (hk : k < 2) : (s.startPrint k).printBegun k :=
  ⟨(s.startPrint_boot_print k k).trans (s.upd.boot.print_withPrint_same hk), by
    rw [State.startPrint_begun, if_pos Iff.rfl, (s.alikeButPrints_startPrint k).now_eq]⟩

theorem State.printBegun.startPrint {s : State} {j : Nat} (h : s.printBegun j) (hj : j < 2) (k : Nat) :
    (s.startPrint k).printBegun j := by
  obtain ⟨hdue, hbegun⟩ := h
  refine ⟨(s.startPrint_boot_print j k).trans (s.upd.boot.print_withPrint_of_due hj hdue), ?_⟩
  rw [State.startPrint_begun, (s.alikeButPrints_startPrint k).now_eq, hbegun, ite_self]

theorem State.printBegun_startPrints {k n : Nat} (hk : k < n) (hk2 : k < 2) :
    ((List.range n).foldl State.startPrint s).printBegun k := by
  induction n with
  | zero => exact absurd hk (Nat.not_lt_zero k)
  | succ n ih =>
    rw [List.range_succ, List.foldl_append]
    obtain hlt | rfl := Nat.lt_succ_iff_lt_or_eq.mp hk
    · exact (ih hlt).startPrint hk2 n
    · exact State.printBegun_startPrint_same _ hk2

/-- A fresh image is printed onward to every downstream entry (R430). -/
theorem State.printBegun_startPrinting {k : Nat} (hk : k < s.trust.cfg.downstream.length) (hk2 : k < 2) :
    s.startPrinting.printBegun k := by
  rw [State.startPrinting_eq_foldl]
  exact s.printBegun_startPrints hk hk2

theorem State.alikeButPrints_startPrinting : s.alikeButPrints s.startPrinting := by
  rw [State.startPrinting_eq_foldl]
  exact s.alikeButPrints_startPrints _

theorem State.startPrinting_nobody (h : s.trust.cfg.downstream = []) : s.startPrinting = s := by
  simp [State.startPrinting, h]

end

/-! A complete firmware image (R428) -/

/-- The offer's slot once K has checked it: the image is on record, and no entry waits there any more. -/
def Slot.checked (x : Slot) (i : FwImage) (st : SlotState) : Slot := { x with state := st, image := some i, verifying := none }

/-- An image judged: its slot, its record and the answer that its offer waits for. -/
def State.imageJudged (s : State) (i : FwImage) (st : SlotState) (code : Nat) (data : List Byte) (status : Byte)
    (det : List Byte) : State :=
  ((s.modOfferSlot fun x => x.checked i st).event code data).answerPart s.offerSlot.verifying s.offerSlot.held status det

section
variable (s : State) (i : FwImage) (st : SlotState) (code : Nat) (data : List Byte) (status : Byte) (det : List Byte)

@[simp] theorem State.imageJudged_offerSlot : (s.imageJudged i st code data status det).offerSlot = s.offerSlot.checked i st := by
  simp [State.imageJudged]

@[simp] theorem State.imageJudged_cyc : (s.imageJudged i st code data status det).cyc = s.cyc := by simp [State.imageJudged]

@[simp] theorem State.imageJudged_trust : (s.imageJudged i st code data status det).trust = s.trust := by simp [State.imageJudged]

@[simp] theorem State.imageJudged_boot : (s.imageJudged i st code data status det).upd.boot = s.upd.boot := by
  simp [State.imageJudged]

end

section
variable {s : State} {i : FwImage} {st : SlotState} {code : Nat} {data : List Byte} {status : Byte} {det : List Byte}

theorem State.imageJudged_answers {e : Entry} (hw : s.offerSlot.verifying = some e) (he : e.done = false) : ∃ a : Answer,
    (s.imageJudged i st code data status det).net.answers = s.net.answers ++ [a] ∧ a.adm = e.adm ∧ a.status = status := by
  unfold State.imageJudged
  rw [hw]
  simpa using State.answerPart_answers ((s.modOfferSlot fun x => x.checked i st).event code data) s.offerSlot.held
    status det he

theorem State.imageJudged_nobody (hw : s.offerSlot.verifying = none) :
    (s.imageJudged i st code data status det).net.answers = s.net.answers := by
  simp [State.imageJudged, hw]

end

theorem State.firmwareVerified_nothing {s : State} {slot : Bool} (h : slot = s.upd.running ∨ s.offerSlot.state ≠ .loading ∨
    s.offerSlot.held ≠ s.offerSlot.transfer ∨ s.offerSlot.transfer = 0) : s.firmwareVerified slot = s := by
  unfold State.firmwareVerified
  exact if_pos (by simpa [or_assoc] using h)

section
variable {s : State} (hl : s.offerSlot.state = .loading) (hh : s.offerSlot.held = s.offerSlot.transfer)
  (ht : s.offerSlot.transfer ≠ 0)
include hl hh ht

theorem State.firmwareVerified_good (h : s.imageCheck (fwImage s.offerSlot.bytes) = 0) :
    ∃ data, s.firmwareVerified (!s.upd.running) =
      (s.imageJudged (fwImage s.offerSlot.bytes) .verified 0x0201 data 0x00 []).startPrinting := by
  unfold State.firmwareVerified
  exact ⟨_, (if_neg (by simp [hl, hh, ht])).trans (if_pos h)⟩

theorem State.firmwareVerified_bad (h : s.imageCheck (fwImage s.offerSlot.bytes) ≠ 0) :
    ∃ data det, s.firmwareVerified (!s.upd.running) =
      s.imageJudged (fwImage s.offerSlot.bytes) .rejected 0x0202 data 0x34 det := by
  unfold State.firmwareVerified
  exact ⟨_, _, (if_neg (by simp [hl, hh, ht])).trans (if_neg h)⟩

end

/-! A complete logic image (R166) -/

/-- A bank once K has checked it: image and signer are on record, and no entry waits there any more. -/
def LogicBank.checked (b : LogicBank) (i : Image) (signer : Nat) (st : BankState) : LogicBank :=
  { b with state := st, image := i, signer := signer, verifying := none }

theorem logicStatus_ne_zero (k : Nat) : logicStatus k ≠ 0x00 := by
  unfold logicStatus
  split
  · decide
  · split <;> decide

section
variable {s : State} {i : Image} {sig : Bool} {signer : Nat} {headerLanes hashLanes : BitVec 3}

theorem State.logicVerified_nothing (h : s.loadBank.state ≠ .loading ∨ s.loadBank.held ≠ s.loadBank.length ∨
    s.loadBank.length = 0) : s.logicVerified i sig signer headerLanes hashLanes = s := by
  unfold State.logicVerified
  exact if_pos (by simpa [or_assoc] using h)

variable {j : Image} (hj : j = { i with hdr := imageHeader s.loadBank.bytes }) (hl : s.loadBank.state = .loading)
  (hh : s.loadBank.held = s.loadBank.length) (hn : s.loadBank.length ≠ 0)
include hj hl hh hn

/-- A complete logic image is judged by the conditions of R166: its own bank and the answer that its last part waits for say how,
and the bank that runs, the railway and the cycle stay as they are. -/
theorem State.logicVerified_judged : ∃ (x : State) (status : Byte) (det : List Byte),
    s.logicVerified i sig signer headerLanes hashLanes = x.answerPart s.loadBank.verifying s.loadBank.held status det ∧
    (status = 0x00 ↔ s.logicCheck j sig signer headerLanes hashLanes = 0) ∧
    x.loadBank = s.loadBank.checked j signer
      (if s.logicCheck j sig signer headerLanes hashLanes = 0 then .verified else .rejected) ∧
    x.bank s.logic.activeBank = s.bank s.logic.activeBank ∧
    x.rail = s.rail ∧ x.cyc = s.cyc ∧ x.net = s.net := by
  subst hj
  unfold State.logicVerified
  by_cases h : s.logicCheck { i with hdr := imageHeader s.loadBank.bytes } sig signer headerLanes hashLanes = 0
  · refine ⟨_, _, _, (if_neg (by simp [hl, hh, hn])).trans (if_pos h), ?_⟩
    simp only [h, if_true]
    exact ⟨by decide, s.loadBank_setLoadBank _, s.bank_setLoadBank _, s.setLoadBank_rail _, s.setLoadBank_cyc _,
      s.setLoadBank_net _⟩
  · refine ⟨_, _, _, (if_neg (by simp [hl, hh, hn])).trans (if_neg h), ?_⟩
    simp only [h, if_false, iff_false]
    refine ⟨logicStatus_ne_zero _, ?_⟩
    rw [State.loadBank_event, State.bank_event, State.event_rail, State.event_cyc, State.event_net]
    exact ⟨s.loadBank_setLoadBank _, s.bank_setLoadBank _, s.setLoadBank_rail _, s.setLoadBank_cyc _,
      s.setLoadBank_net _⟩

end

/-! A partial firmware image (R429) -/

section
variable {s : State}

theorem State.discardPartial_due (hl : s.offerSlot.state = .loading) (hv : s.offerSlot.verifying = none)
    (h : s.offerSlot.lastAt + 600000000000 ≤ s.now) : s.discardPartial = s.modOfferSlot fun _ => {} := by
  unfold State.discardPartial
  exact if_pos (by simp [hl, hv, ms, h])

theorem State.discardPartial_early (h : s.now < s.offerSlot.lastAt + 600000000000) : s.discardPartial = s := by
  unfold State.discardPartial
  exact if_neg (by simp [ms, Nat.not_le.mpr h])

theorem State.discardPartial_nothing (h : s.offerSlot.state ≠ .loading ∨ s.offerSlot.verifying.isSome = true) :
    s.discardPartial = s := by
  unfold State.discardPartial
  refine if_neg ?_
  rcases h with h | h
  · simp [h]
  · simp [Option.isNone_eq_false_iff.mpr h]

end

/-! What a stop and the Negative leave of the record of updates -/

section
variable (s : State)

@[simp] theorem State.endHold_upd (status : Byte) : (s.endHold status).upd = s.upd := by
  unfold State.endHold
  split <;> rfl

@[simp] theorem State.enterStop_upd : s.enterStop.upd = s.upd := rfl

@[simp] theorem State.writeRecord_upd (r : Record) : (s.writeRecord r).upd = s.upd := by
  unfold State.writeRecord
  dsimp only
  split <;> rfl

@[simp] theorem State.writeFirst_upd : s.writeFirst.upd = s.upd := by
  unfold State.writeFirst
  split
  · rfl
  · split
    · rfl
    · exact State.writeRecord_upd ..

@[simp] theorem State.writeAll_upd (n : Nat) : (State.writeAll n s).upd = s.upd := by
  induction n generalizing s with
  | zero => rfl
  | succ n ih => exact (ih _).trans s.writeFirst_upd

theorem State.foldl_writeRecord_upd (f : State → Nat → Record) (l : List Nat) :
    (l.foldl (fun s k => s.writeRecord (f s k)) s).upd = s.upd := by
  induction l generalizing s with
  | nil => rfl
  | cons k l ih => exact (ih _).trans (State.writeRecord_upd ..)

@[simp] theorem State.signHead_upd : s.signHead.upd = s.upd := by
  unfold State.signHead
  split
  · exact (State.foldl_writeRecord_upd ..).trans ((State.writeAll_upd ..).trans (State.event_upd ..))
  · rfl

/-! What a start keeps (R481) -/

@[simp] theorem State.resetDies_boot (p : PowerPhase) : (s.resetDies p).upd.boot = s.upd.boot := rfl
@[simp] theorem State.resetDies_phase (p : PowerPhase) : (s.resetDies p).v.power.phase = p := rfl
@[simp] theorem State.resetDies_sessions (p : PowerPhase) : (s.resetDies p).net.sessions = [] := rfl
@[simp] theorem State.lane_resetDies (p : PowerPhase) (l : Lane) : (s.resetDies p).lane l = {} := by cases l <;> rfl

end

/-! Activation (R435 to R437) -/

/-- The boot record with which an activation starts the dies: back on the committed image where the module is on trial, and on
trial of the image in the other slot where it is not (R437). -/
def Boot.activated (b : Boot) (onTrial slot : Bool) (h : Hash) : Boot :=
  let b := { b with activation := none }
  if onTrial then { b with fallback := true }
  else { b with trial := some slot, starts := 0, trialHash := h, conversionFailed := false, fallback := false,
                storeTrial := b.storeRead }

/-- A paired module that activates takes its pair presence away (R437). -/
def State.presenceOff (s : State) : State := if s.paired then { s with v.ppOut := false }.emit (.ppOut false) else s

@[simp] theorem State.presenceOff_upd (s : State) : s.presenceOff.upd = s.upd := by
  unfold State.presenceOff
  split <;> rfl

theorem State.bootWrite_activated {s x : State} (hx : x.upd = s.upd) (h : Hash) :
    (x.bootWrite fun b => b.activated x.upd.onTrial x.offerNo h).upd.boot =
      { s.upd.boot.activated s.upd.onTrial (!s.upd.running) h with generation := s.upd.boot.generation + 1 } := by
  rw [State.bootWrite_boot, State.offerNo, hx, Boot.activated]
  cases s.upd.onTrial <;> rfl

/-- An activation is a start: every die in reset, once the boot record and the signed head are written. -/
theorem State.activate_eq_resetDies (s : State) (h : Hash) : ∃ x : State, s.activate h = x.resetDies .charging ∧
    x.upd.boot = { s.upd.boot.activated s.upd.onTrial (!s.upd.running) h with generation := s.upd.boot.generation + 1 } := by
  have hstop : (s.endHold 0x12).enterStop.presenceOff.upd = s.upd := by simp
  refine ⟨_, rfl, ?_⟩
  rw [State.writeAll_upd, State.signHead_upd]
  exact State.bootWrite_activated hstop h

section
variable (s : State) (h : Hash)

theorem State.activate_of_committed (hc : s.upd.onTrial = false) : (s.activate h).upd.boot.trial = some (!s.upd.running) ∧
    (s.activate h).upd.boot.trialHash = h ∧ (s.activate h).upd.boot.starts = 0 := by
  obtain ⟨x, hx, hb⟩ := s.activate_eq_resetDies h
  simp [hx, hb, Boot.activated, hc]

theorem State.activate_of_onTrial (ht : s.upd.onTrial = true) : (s.activate h).upd.boot.fallback = true ∧
    (s.activate h).upd.boot.trial = s.upd.boot.trial := by
  obtain ⟨x, hx, hb⟩ := s.activate_eq_resetDies h
  simp [hx, hb, Boot.activated, ht]

theorem State.activate_activation : (s.activate h).upd.boot.activation = none := by
  obtain ⟨x, hx, hb⟩ := s.activate_eq_resetDies h
  rw [hx, State.resetDies_boot, hb]
  cases ht : s.upd.onTrial <;> rfl

/-- Whatever an activation writes, the dies start anew (R437, R481). -/
theorem State.activate_starts : (s.activate h).v.power.phase = .charging ∧ (s.activate h).net.sessions = [] ∧
    ∀ l, (s.activate h).lane l = {} := by
  obtain ⟨x, hx, -⟩ := s.activate_eq_resetDies h
  simp [hx]

end

section
variable (s : State) (why : Nat)

@[simp] theorem State.cancelActivation_cyc : (s.cancelActivation why).cyc = s.cyc := by simp [State.cancelActivation]

@[simp] theorem State.cancelActivation_deferred : (s.cancelActivation why).upd.deferred = false := by
  simp [State.cancelActivation]

@[simp] theorem State.cancelActivation_boot : (s.cancelActivation why).upd.boot =
    { s.upd.boot with activation := none, generation := s.upd.boot.generation + 1 } := by
  simp [State.cancelActivation]

end

/-- At its boundary an activation stands or falls by the first check of R435 that fails. -/
def State.activationJudged (s : State) (a : W64) (h : Hash) : State :=
  match s.activationCheck h with
  | 0 => s.activate h
  | 7 => { s with upd.deferred := true }.event 0x0206 (beBytes 8 a.toNat)
  | k => s.cancelActivation k

section
variable {s : State} {a now : W64} {h : Hash} (ha : s.upd.boot.activation = some (a, h)) (hp : s.ptpTime = some now)
include ha hp

theorem State.activationDue_early (he : now.toNat < a.toNat) : s.activationDue = s := by
  simp [State.activationDue, ha, hp, he]

theorem State.activationDue_held (hd : s.upd.deferred = true) (hr : s.pair.role = .active ∨ s.releaseOwed = true) :
    s.activationDue = s := by
  simp [State.activationDue, ha, hp, hd, hr]

section
variable (he : a.toNat ≤ now.toNat) (hd : s.upd.deferred = false ∨ (s.pair.role ≠ .active ∧ s.releaseOwed = false))
include he hd

theorem State.activationDue_judged : s.activationDue = s.activationJudged a h := by
  simp only [State.activationDue, ha, hp]
  rw [if_neg (Nat.not_lt.mpr he), if_neg (by rcases hd with hd | hd <;> simp [hd])]
  rfl

theorem State.activationDue_activates (hk : s.activationCheck h = 0) : s.activationDue = s.activate h := by
  simp only [State.activationDue_judged ha hp he hd, State.activationJudged, hk]

theorem State.activationDue_defers (hk : s.activationCheck h = 7) :
    s.activationDue = { s with upd.deferred := true }.event 0x0206 (beBytes 8 a.toNat) := by
  simp only [State.activationDue_judged ha hp he hd, State.activationJudged, hk]

theorem State.activationDue_cancels {k : Nat} (hk : s.activationCheck h = k) (h1 : 1 ≤ k) (h6 : k ≤ 6) :
    s.activationDue = s.cancelActivation k := by
  rw [State.activationDue_judged ha hp he hd, State.activationJudged, hk]
  split
  · exact absurd h1 (by decide)
  · exact absurd h6 (by decide)
  · rfl

end

theorem State.deferredTimeout_due (hd : s.upd.deferred = true) (he : a.toNat + 86400000000000 ≤ now.toNat) :
    s.deferredTimeout = s.cancelActivation 7 := by
  simp [State.deferredTimeout, ha, hp, hd, he]

theorem State.deferredTimeout_early (h : s.upd.deferred = false ∨ now.toNat < a.toNat + 86400000000000) :
    s.deferredTimeout = s := by
  simp only [State.deferredTimeout, ha, hp]
  refine if_neg ?_
  rcases h with h | h
  · simp [h]
  · simp [Nat.not_le.mpr h]

end

/-- ACTIVATION_BOUNDARY of a running module at a boundary (R434, R435). -/
theorem State.activationPoint_at_boundary {s : State} (hv : s.alive = true) (hb : s.boundaryCycle.isSome = true) :
    s.activationPoint = s.activationDue := by
  simp [State.activationPoint, hv, hb]

/-! A failed conversion (R443) -/

section
variable {s : State} {w : Time} (hw : s.upd.conversionFailedAt = some w)
include hw

theorem State.conversionRestart_due (h : w + 2000000000 ≤ s.now) :
    s.conversionRestart = (s.writeAll s.neg.queue.length).resetDies .charging := by
  simp [State.conversionRestart, hw, ms, h]

theorem State.conversionRestart_early (h : s.now < w + 2000000000) : s.conversionRestart = s := by
  simp [State.conversionRestart, hw, ms, Nat.not_le.mpr h]

end

/-- Settles O49, command by command: a complete image is judged once, and every other clause is one branch of its command. -/
theorem imagesAndActivation : Obligations.ImagesAndActivation := by
  intro s t
  refine ⟨?firmware, fun slot h => congrArg _ (State.firmwareVerified_nothing (s := s.begin t) h), ?logic, ?discard,
    fun h => congrArg _ (State.discardPartial_nothing (s := s.begin t) h), ?activation, ?conversion⟩
  case firmware =>
    rintro i rfl hl hh ht
    refine ⟨_, rfl, ?_⟩
    by_cases h : s.imageCheck (fwImage s.offerSlot.bytes) = 0
    · obtain ⟨data, hu⟩ := State.firmwareVerified_good (s := s.begin t) hl hh ht h
      rw [State.begin_upd] at hu
      have hp := ((s.begin t).imageJudged (fwImage s.offerSlot.bytes) .verified 0x0201 data 0x00 []).alikeButPrints_startPrinting
      simp only [hu, h, if_true, hp.offerSlot_eq, hp.net_eq, hp.cyc_eq, State.offerSlot_begin]
      refine ⟨by simp [Slot.checked], fun e he hd => State.imageJudged_answers he hd,
        fun hn => State.imageJudged_nobody hn, fun _ k hk hk2 => ?_, fun hno => ?_, by simp⟩
      · exact State.printBegun_startPrinting _ (by simpa using hk) hk2
      · rw [State.startPrinting_nobody _ (by simpa using hno)]
        simp
    · obtain ⟨data, det, hu⟩ := State.firmwareVerified_bad (s := s.begin t) hl hh ht h
      rw [State.begin_upd] at hu
      simp only [hu, h, if_false]
      exact ⟨by simp [Slot.checked], fun e he hd => State.imageJudged_answers he hd,
        fun hn => State.imageJudged_nobody hn, False.elim, fun _ => by simp, by simp⟩
  case logic =>
    intro i j sig signer hl hh hj
    refine ⟨fun hs hheld hn => ⟨_, rfl, ?_⟩, fun h => congrArg _ (State.logicVerified_nothing (s := s.begin t) h)⟩
    obtain ⟨x, status, det, hx, hstatus, hload, hbank, hrail, hcyc, hnet⟩ :=
      State.logicVerified_judged (s := s.begin t) (sig := sig) (signer := signer) (headerLanes := hl) (hashLanes := hh)
        hj hs hheld hn
    rw [hx]
    refine ⟨(x.loadBank_answerPart ..).trans hload, fun e he hd => ?_, fun hw => ?_, (x.bank_answerPart ..).trans hbank,
      (x.answerPart_rail ..).trans hrail, (x.answerPart_cyc ..).trans hcyc⟩
    · obtain ⟨a, hans, hadm, hst⟩ := x.answerPart_answers s.loadBank.held status det hd
      rw [State.loadBank_begin, he, hans, hnet]
      exact ⟨a, rfl, hadm, hst ▸ hstatus⟩
    · rw [State.loadBank_begin, hw, State.answerPart_none, hnet]
      rfl
  case discard =>
    refine fun hl hv => ⟨fun h => ⟨_, rfl, ?_⟩, fun h => congrArg _ (State.discardPartial_early (s := s.begin t) h)⟩
    rw [State.discardPartial_due (s := s.begin t) hl hv (Nat.le_trans h (Nat.le_max_right ..))]
    exact ⟨by simp, State.modOfferSlot_eq .., by simp⟩
  case activation =>
    intro a h now ha hp
    refine ⟨fun hv hb => ?_, fun hd he => ⟨_, rfl, ?_⟩,
      fun hd => congrArg _ (State.deferredTimeout_early (s := s.begin t) ha hp hd)⟩
    · have hx : exec (.activationBoundary t) s = .next (s.begin t).activationDue :=
        congrArg _ (State.activationPoint_at_boundary (s := s.begin t) hv hb)
      refine ⟨fun he => hx.trans (congrArg _ (State.activationDue_early (s := s.begin t) ha hp he)),
        fun hd hr => hx.trans (congrArg _ (State.activationDue_held (s := s.begin t) ha hp hd hr)),
        fun he hd => ⟨fun hk => ?good, fun hk => ?deferred, fun k hk h1 h6 => ?cancelled⟩⟩
      case good =>
        refine ⟨_, hx.trans (congrArg _ (State.activationDue_activates (s := s.begin t) ha hp he hd hk)), ?_⟩
        obtain ⟨hphase, hsessions, hlanes⟩ := (s.begin t).activate_starts h
        exact ⟨hphase, (s.begin t).activate_activation h, hsessions, hlanes, (s.begin t).activate_of_committed h,
          (s.begin t).activate_of_onTrial h⟩
      case deferred =>
        refine ⟨_, hx.trans (congrArg _ (State.activationDue_defers (s := s.begin t) ha hp he hd hk)), ?_⟩
        simp
      case cancelled =>
        refine ⟨_, hx.trans (congrArg _ (State.activationDue_cancels (s := s.begin t) ha hp he hd hk h1 h6)), ?_⟩
        simp
    · rw [State.deferredTimeout_due (s := s.begin t) ha hp hd he]
      simp
  case conversion =>
    refine fun w hw => ⟨fun h => ⟨_, rfl, ?_⟩, fun h => congrArg _ (State.conversionRestart_early (s := s.begin t) hw h)⟩
    rw [State.conversionRestart_due (s := s.begin t) hw (Nat.le_trans h (Nat.le_max_right ..))]
    simp

end Sys2Proof.Machine
end

section
/-! SUPPORT. The messages between the lanes of 06_two_of_three.md: what a receiver reads in the words that a lane packs. -/

namespace Sys2Proof.Machine

/-! Fields of a word -/

theorem boolNat_le_one (b : Bool) : boolNat b ≤ 1 := by cases b <;> decide

theorem bitOf_eq_of_boolNat {v n : Nat} {b : Bool} (h : v / 2 ^ n % 2 = boolNat b) : bitOf v n = b := by
  cases b <;> simp [bitOf, h, boolNat]

/-- The two words of a 64-bit number make it up again (R188). -/
theorem at_high_add_low {v : Nat} (h : v < 2 ^ 64) : at_ 32 (v / 2 ^ 32 % 2 ^ 32) + v % 2 ^ 32 = v := by
  rw [at_]
  omega

/-! Words of a body -/

@[simp] theorem wordAt_cons_zero (w : W32) (l : List W32) : wordAt (w :: l) 0 = w.toNat := rfl

@[simp] theorem wordAt_cons_succ (w : W32) (l : List W32) (n : Nat) : wordAt (w :: l) (n + 1) = wordAt l n := rfl

theorem wordAt_append_left {l m : List W32} {n : Nat} (h : n < l.length) : wordAt (l ++ m) n = wordAt l n := by
  rw [wordAt, wordAt, List.getElem?_append_left h]

theorem wordAt_append_right (l m : List W32) (n : Nat) : wordAt (l ++ m) (l.length + n) = wordAt m n := by
  rw [wordAt, wordAt, List.getElem?_append_right (Nat.le_add_right ..), Nat.add_sub_cancel_left]

/-! Cycle numbers and channel maps (R187, R188) -/

theorem cycleAt_cycleWords (c : W48) (l : List W32) : cycleAt (cycleWords c ++ l) 0 = c := by
  have hc := c.isLt
  apply BitVec.eq_of_toNat_eq
  simp only [cycleAt, cycleWords, List.cons_append, Nat.zero_add, wordAt_cons_zero, wordAt_cons_succ, at_, BitVec.toNat_ofNat]
  omega

theorem chansAt_chanWords (c : Chans) (l : List W32) : chansAt (chanWords c ++ l) 0 = c := by
  have hc := c.isLt
  apply BitVec.eq_of_toNat_eq
  simp only [chansAt, chanWords, List.cons_append, Nat.zero_add, wordAt_cons_zero, wordAt_cons_succ, at_, BitVec.toNat_ofNat]
  omega

/-! Header and CRC (R187) -/

/-- The header word of a message: its kind, its sender and the number of words that follow (R187). -/
def laneHeader (kind : Nat) (l : Lane) (n : Nat) : W32 := BitVec.ofNat 32 (at_ 28 kind + at_ 26 l.code + n)

theorem laneMessage_eq (kind : Nat) (l : Lane) (body : List W32) :
    laneMessage kind l body = (laneHeader kind l (body.length + 1) :: body) ++
      [crc32c (wordBytes (laneHeader kind l (body.length + 1) :: body))] := rfl

theorem laneCode_bounds (l : Lane) : 0 < l.code ∧ l.code < 4 := by cases l <;> decide

theorem ofIdx_laneCode (l : Lane) : Lane.ofIdx (l.code - 1) = some l := by cases l <;> rfl

section
variable {kind : Nat} {l : Lane} {n : Nat} (hk : kind < 16) (hn : n < 2 ^ 20)
include hk hn

/-- A kind below 16 and a length of 20 bits leave the header's fields apart. -/
theorem laneHeader_toNat : (laneHeader kind l n).toNat = kind * 2 ^ 28 + l.code * 2 ^ 26 + n := by
  have hl := laneCode_bounds l
  simp only [laneHeader, at_, BitVec.toNat_ofNat]
  omega

theorem laneHeader_kind : bitsOf (laneHeader kind l n).toNat 31 28 = kind := by
  have hl := laneCode_bounds l
  rw [laneHeader_toNat hk hn, bitsOf]
  omega

theorem laneHeader_sender : bitsOf (laneHeader kind l n).toNat 27 26 = l.code := by
  have hl := laneCode_bounds l
  rw [laneHeader_toNat hk hn, bitsOf]
  omega

theorem laneHeader_length : bitsOf (laneHeader kind l n).toNat 19 0 = n := by
  rw [laneHeader_toNat hk hn, bitsOf]
  omega

end

/-- A receiver opens words whose header names a lane and their number, and that end in their CRC (R187). -/
theorem openMessage_of_checks {h : W32} {body : List W32} {l : Lane} (hl : Lane.ofIdx (bitsOf h.toNat 27 26 - 1) = some l)
    (hs : bitsOf h.toNat 27 26 ≠ 0) (hn : bitsOf h.toNat 19 0 = body.length + 1) :
    openMessage ((h :: body) ++ [crc32c (wordBytes (h :: body))]) = some (bitsOf h.toNat 31 28, l, body) := by
  simp [openMessage, hl, hs, hn]

theorem openMessage_laneMessage {kind : Nat} (l : Lane) {body : List W32} (hk : kind < 16) (hn : body.length + 1 < 2 ^ 20) :
    openMessage (laneMessage kind l body) = some (kind, l, body) := by
  have hsender := laneHeader_sender (l := l) hk hn
  rw [laneMessage_eq, openMessage_of_checks (l := l), laneHeader_kind hk hn]
  · rw [hsender, ofIdx_laneCode l]
  · rw [hsender]
    exact Nat.ne_of_gt (laneCode_bounds l).1
  · exact laneHeader_length hk hn

/-! Partner entries (R188) -/

theorem FrozenPartner.words_length (p : FrozenPartner) : p.words.length = 5 := rfl

section
variable {p : FrozenPartner} (h : p.sid < 64)
include h

/-- A session ID of 6 bits leaves the fields of an entry's first word apart. -/
theorem FrozenPartner.head_toNat : wordAt p.words 0 =
    boolNat p.t1.isSome * 2 ^ 26 + boolNat p.t2.isSome * 2 ^ 27 + p.sid * 2 ^ 20 + p.node.toNat := by
  have hnode := p.node.isLt
  have h1 := boolNat_le_one p.t1.isSome
  have h2 := boolNat_le_one p.t2.isSome
  simp only [FrozenPartner.words, wordAt_cons_zero, at_, BitVec.toNat_ofNat]
  omega

theorem FrozenPartner.head_sid : bitsOf (wordAt p.words 0) 25 20 = p.sid := by
  have hnode := p.node.isLt
  rw [FrozenPartner.head_toNat h, bitsOf]
  omega

theorem FrozenPartner.head_node : BitVec.ofNat 20 (wordAt p.words 0) = p.node := by
  have hnode := p.node.isLt
  apply BitVec.eq_of_toNat_eq
  rw [FrozenPartner.head_toNat h, BitVec.toNat_ofNat]
  omega

theorem FrozenPartner.head_t1 : bitOf (wordAt p.words 0) 26 = p.t1.isSome := by
  have hnode := p.node.isLt
  have h1 := boolNat_le_one p.t1.isSome
  apply bitOf_eq_of_boolNat
  rw [FrozenPartner.head_toNat h]
  omega

theorem FrozenPartner.head_t2 : bitOf (wordAt p.words 0) 27 = p.t2.isSome := by
  have hnode := p.node.isLt
  have h1 := boolNat_le_one p.t1.isSome
  have h2 := boolNat_le_one p.t2.isSome
  apply bitOf_eq_of_boolNat
  rw [FrozenPartner.head_toNat h]
  omega

/-- Where the five words of an entry stand, the receiver reads the entry. -/
theorem partnerAt_of_words {l : List W32} {k : Nat} (hw : ∀ j < 5, wordAt l (12 + 5 * k + j) = wordAt p.words j) :
    partnerAt l k = p := by
  have h0 : wordAt l (12 + 5 * k) = _ := hw 0 (by decide)
  have h1 : wordAt l (12 + 5 * k + 1) = _ := hw 1 (by decide)
  have h2 : wordAt l (12 + 5 * k + 1 + 1) = _ := hw 2 (by decide)
  have h3 : wordAt l (12 + 5 * k + 3) = _ := hw 3 (by decide)
  have h4 : wordAt l (12 + 5 * k + 3 + 1) = _ := hw 4 (by decide)
  simp only [partnerAt, h0, h1, h2, h3, h4,
    FrozenPartner.head_sid h, FrozenPartner.head_node h, FrozenPartner.head_t1 h, FrozenPartner.head_t2 h]
  obtain ⟨sid, node, t1, t2⟩ := p
  cases t1 <;> cases t2 <;> simp [FrozenPartner.words]

end

theorem partnerWords_length (ps : List FrozenPartner) : (ps.flatMap FrozenPartner.words).length = 5 * ps.length := by
  induction ps with
  | nil => rfl
  | cons p ps ih =>
    rw [List.flatMap_cons, List.length_append, ih, FrozenPartner.words_length, List.length_cons]
    omega

/-- Entry k of the partners has its words from 5k on. -/
theorem wordAt_partnerWords {ps : List FrozenPartner} {k j : Nat} {p : FrozenPartner} (hp : ps[k]? = some p) (hj : j < 5) :
    wordAt (ps.flatMap FrozenPartner.words) (5 * k + j) = wordAt p.words j := by
  induction ps generalizing k with
  | nil => simp at hp
  | cons q ps ih =>
    rw [List.flatMap_cons]
    cases k with
    | zero =>
      obtain rfl : q = p := by simpa using hp
      rw [Nat.mul_zero, Nat.zero_add]
      exact wordAt_append_left hj
    | succ k =>
      have hk : 5 * (k + 1) + j = q.words.length + (5 * k + j) := by rw [FrozenPartner.words_length]; omega
      rw [hk, wordAt_append_right]
      exact ih (by simpa using hp)

/-! The INPUT_IMAGE (R188) -/

/-- The twelve words before the partner entries. -/
def InputImage.front (x : InputImage) : List W32 :=
  cycleWords x.cycle ++ [BitVec.ofNat 32 (x.time / 2 ^ 32), BitVec.ofNat 32 x.time, x.cut] ++ chanWords x.values ++
    chanWords x.invalid ++ [BitVec.ofNat 32 x.partners.length]

section
variable (x : InputImage)

theorem InputImage.words_eq : x.words = x.front ++ x.partners.flatMap FrozenPartner.words := rfl

theorem InputImage.front_length : x.front.length = 12 := rfl

theorem InputImage.words_length : x.words.length = 12 + 5 * x.partners.length := by
  rw [InputImage.words_eq, List.length_append, InputImage.front_length, partnerWords_length]

theorem InputImage.wordAt_words_partner (n : Nat) :
    wordAt x.words (12 + n) = wordAt (x.partners.flatMap FrozenPartner.words) n :=
  wordAt_append_right x.front _ n

theorem InputImage.cycleAt_words : cycleAt x.words 0 = x.cycle := cycleAt_cycleWords x.cycle _

theorem InputImage.values_words : chansAt x.words 5 = x.values := chansAt_chanWords x.values (x.words.drop 8)

theorem InputImage.invalid_words : chansAt x.words 8 = x.invalid := chansAt_chanWords x.invalid (x.words.drop 11)

theorem InputImage.cut_words : BitVec.ofNat 32 (wordAt x.words 4) = x.cut := by
  have h4 : wordAt x.words 4 = x.cut.toNat := rfl
  rw [h4, BitVec.ofNat_toNat, BitVec.setWidth_eq]

theorem InputImage.time_words (h : x.time < 2 ^ 64) : at_ 32 (wordAt x.words 2) + wordAt x.words 3 = x.time := by
  have h2 : wordAt x.words 2 = x.time / 2 ^ 32 % 2 ^ 32 := BitVec.toNat_ofNat ..
  have h3 : wordAt x.words 3 = x.time % 2 ^ 32 := BitVec.toNat_ofNat ..
  rw [h2, h3]
  exact at_high_add_low h

theorem InputImage.count_words (h : x.partners.length < 64) : wordAt x.words 11 % 64 = x.partners.length := by
  have h11 : wordAt x.words 11 = x.partners.length % 2 ^ 32 := BitVec.toNat_ofNat ..
  rw [h11]
  omega

theorem InputImage.partners_words (h : ∀ p ∈ x.partners, p.sid < 64) :
    (List.range x.partners.length).map (partnerAt x.words) = x.partners := by
  apply List.ext_getElem
  · simp
  · intro k hk hk'
    rw [List.getElem_map, List.getElem_range]
    apply partnerAt_of_words (h _ (List.getElem_mem hk'))
    intro j hj
    rw [Nat.add_assoc, InputImage.wordAt_words_partner]
    exact wordAt_partnerWords (List.getElem?_eq_getElem hk') hj

end

theorem inputOf_words {x : InputImage} (ht : x.time < 2 ^ 64) (hn : x.partners.length < 64)
    (hp : ∀ p ∈ x.partners, p.sid < 64) : inputOf x.words = some x := by
  simp only [inputOf, x.count_words hn, x.words_length, if_true, x.cycleAt_words, x.time_words ht, x.cut_words,
    x.values_words, x.invalid_words, x.partners_words hp]

/-! The SET (R191) -/

section
variable (m : SetMsg) (cycle : W48)

theorem SetMsg.cycleAt_words : cycleAt (m.words cycle) 0 = cycle := cycleAt_cycleWords cycle _

/-- The mask of three lanes leaves bit 31 to the rendezvous flag. -/
theorem SetMsg.wordAt_words : wordAt (m.words cycle) 2 = boolNat m.rendezvous * 2 ^ 31 + m.held.toNat := by
  have hheld := m.held.isLt
  have hr := boolNat_le_one m.rendezvous
  have h2 : wordAt (m.words cycle) 2 = (at_ 31 (boolNat m.rendezvous) + m.held.toNat) % 2 ^ 32 := BitVec.toNat_ofNat ..
  rw [h2, at_]
  omega

theorem SetMsg.rendezvous_words : bitOf (wordAt (m.words cycle) 2) 31 = m.rendezvous := by
  have hheld := m.held.isLt
  have hr := boolNat_le_one m.rendezvous
  apply bitOf_eq_of_boolNat
  rw [SetMsg.wordAt_words]
  omega

theorem SetMsg.held_words : BitVec.ofNat 3 (wordAt (m.words cycle) 2) = m.held := by
  have hheld := m.held.isLt
  apply BitVec.eq_of_toNat_eq
  rw [SetMsg.wordAt_words, BitVec.toNat_ofNat]
  omega

end

/-- Settles O36, message by message: every field of a header, an INPUT_IMAGE and a SET has bits of its own, from which it is
read back. -/
theorem laneMessagesRoundTrip : Obligations.LaneMessagesRoundTrip := by
  refine ⟨?message, ?image, ?set⟩
  case message => exact fun kind l body hk hn => openMessage_laneMessage l hk (Nat.lt_of_succ_lt hn)
  case image => exact fun x ht hn hp => inputOf_words ht hn hp
  case set => exact fun m cycle => ⟨m.cycleAt_words cycle, m.rendezvous_words cycle, m.held_words cycle⟩

end Sys2Proof.Machine
end

section
/-! SUPPORT. A source of a lane's own that reports, of 12_stop_bath_negative.md: what its occurrence and its repeats leave in
the lane, in the other lanes and in the rest of the module. -/

namespace Sys2Proof.Machine

/-! What a report can touch -/

/-- Two states that differ at most in what a report in a lane writes: lanes, Negative, Test Strip run, instant and what
leaves. -/
def State.alikeButReports (s u : State) : Prop :=
  u = { s with now := u.now, outbox := u.outbox, laneA := u.laneA, laneB := u.laneB, laneC := u.laneC, neg := u.neg, test := u.test }

theorem State.alikeButReports.trans {a b c : State} (h : a.alikeButReports b) (k : b.alikeButReports c) :
    a.alikeButReports c := by
  unfold State.alikeButReports at *
  rw [k, h]

theorem State.alikeBut.butReports {s u : State} (h : s.alikeBut u) : s.alikeButReports u := by
  unfold State.alikeBut at h
  rw [h]
  rfl

section
variable {s u : State} (h : s.alikeButReports u)
include h

theorem State.alikeButReports.v_eq : u.v = s.v := by rw [h]
theorem State.alikeButReports.dies_eq : u.dies = s.dies := by rw [h]
theorem State.alikeButReports.cyc_eq : u.cyc = s.cyc := by rw [h]
theorem State.alikeButReports.net_eq : u.net = s.net := by rw [h]
theorem State.alikeButReports.flt_eq : u.flt = s.flt := by rw [h]
theorem State.alikeButReports.alive_eq : u.alive = s.alive := by rw [h]; rfl
theorem State.alikeButReports.bothDiesLost_eq : u.bothDiesLost = s.bothDiesLost := by rw [h]; rfl

end

section
variable (s : State)

theorem State.alikeButReports_noteFound (n : Nat) (seen : List Lane) : s.alikeButReports (s.noteFound n seen) := rfl

theorem State.alikeButReports_startRepeats (n : Nat) : s.alikeButReports (s.startRepeats n) := rfl

theorem State.alikeButReports_repeatReport (n : Nat) (lanes : List Lane) : s.alikeButReports (s.repeatReport n lanes) := by
  rw [State.repeatReport_eq]
  rfl

@[simp] theorem State.repeatReport_lane (n : Nat) (lanes : List Lane) (k : Lane) :
    (s.repeatReport n lanes).lane k = s.lane k := by
  rw [State.repeatReport_eq]
  cases k <;> rfl

end

/-! The lanes in which a source is seen (R369) -/

theorem State.modLane_same {s : State} {l : Lane} {f : LaneRec → LaneRec} (h : f (s.lane l) = s.lane l) : s.modLane l f = s := by
  unfold State.modLane
  rw [h]
  cases l <;> rfl

theorem State.foldl_modLane_all (s : State) (f : Lane → LaneRec → LaneRec) :
    Lane.all.foldl (fun s l => s.modLane l (f l)) s = s.modLanes f := rfl

theorem lanesOf_laneMask (l : Lane) : lanesOf (laneMask [l]) = [l] := by cases l <;> decide

theorem laneIn_laneMask (k l : Lane) : laneIn (laneMask [l]) k = decide (k = l) := by cases k <;> cases l <;> decide

/-- A source stops reporting in the lanes that do not see it. -/
def State.seenIn (s : State) (n : Nat) (m : BitVec 3) : State :=
  s.modLanes fun k r => if laneIn m k = true then r else { r with bath.reporting := r.bath.reporting &&& ~~~srcBit n }

section
variable (s : State) (n : Nat) (l : Lane)

@[simp] theorem State.seenIn_lane_self : (s.seenIn n (laneMask [l])).lane l = s.lane l := by
  simp [State.seenIn, laneIn_laneMask]

theorem State.seenIn_lane_ne {k : Lane} (h : k ≠ l) : (s.seenIn n (laneMask [l])).lane k =
    { s.lane k with bath.reporting := (s.lane k).bath.reporting &&& ~~~srcBit n } := by
  simp [State.seenIn, laneIn_laneMask, h]

end

/-- Where its condition does not last, being seen leaves `reporting` to the reaction shadow (R21, R379). -/
theorem State.foldl_setReporting_eq (s : State) {n : Nat} (h : lasting n = false) (m : BitVec 3) :
    Lane.all.foldl (fun s l => if laneIn m l then (if lasting n then s.setReporting n l true else s) else s.setReporting n l false) s =
      s.seenIn n m := by
  rw [State.seenIn, ← State.foldl_modLane_all]
  congr 1
  funext x l
  cases laneIn m l with
  | false => rfl
  | true => simp [h, State.modLane_same]

/-! A report of a lane's own source tells nothing of the dies and channels -/

section
variable (s : State) {n : Nat} (h : ownLane n = true)
include h

theorem State.reportDies_own (code : W16) : s.reportDies n code = s := by
  have hn : n ≠ 0x1C0 ∧ n ≠ 0x1C1 ∧ n ≠ 0x1C2 ∧ n ≠ 0x1E0 ∧ n ≠ 0x1E1 := by
    simp only [ownLane, Bool.or_eq_true, Bool.and_eq_true, decide_eq_true_eq] at h
    omega
  simp [State.reportDies, hn]

theorem State.reportChannels_own : s.reportChannels n = s := by
  have hn : n ≠ 0x060 ∧ n ≠ 0x061 ∧ n ≠ 0x062 ∧ n ≠ 0x063 ∧ n ≠ 0x064 ∧ n ≠ 0x065 := by
    simp only [ownLane, Bool.or_eq_true, Bool.and_eq_true, decide_eq_true_eq] at h
    omega
  simp [State.reportChannels, Chan.all, Chan.idx, hn]

end

section
variable {s : State} {n : Nat} (ho : ownLane n = true) (hlast : lasting n = false) (code : W16)
include ho hlast

theorem State.occurrence_seen {l : Lane} (hl : (s.lane l).phase.live = true) :
    ∃ det, s.occurrence n (laneMask [l]) code = (s.seenIn n (laneMask [l])).report n [l] det := by
  unfold State.occurrence
  simp only [ho, if_true, State.foldl_setReporting_eq s hlast, lanesOf_laneMask, List.filter_cons, List.filter_nil,
    State.seenIn_lane_self, hl, List.isEmpty_cons, Bool.false_eq_true, if_false, State.reportDies_own _ ho, State.reportChannels_own _ ho]
  exact ⟨_, rfl⟩

theorem State.occurrence_unseen : s.occurrence n 0 code = s.seenIn n 0 := by
  have hnone : lanesOf 0 = [] := by decide
  unfold State.occurrence
  simp only [ho, if_true, State.foldl_setReporting_eq s hlast, hnone, List.filter_nil, List.isEmpty_nil]

end

/-! Judging after a lane is lost -/

/-- What stands once a lane is withdrawn, whatever else a report wrote: a lane in RESYNC may have lost its source with it
(R199, R202). -/
structure State.LosesLane (s u : State) (l : Lane) : Prop where
  alike : s.alikeButReports u
  out : (u.lane l).phase = .withdrawn ∧ (u.lane l).calls = 0
  others : ∀ k, k ≠ l → ((u.lane k).phase = (s.lane k).phase ∧ (u.lane k).calls = (s.lane k).calls) ∨
    ((s.lane k).phase = .resync ∧ (u.lane k).phase = .withdrawn ∧ (u.lane k).calls = 0)

section
variable {s u : State} {l : Lane} (h : s.LosesLane u l)
include h

theorem State.LosesLane.isVoting_eq (k : Lane) : u.isVoting k = (decide (some k ≠ some l) && s.isVoting k) := by
  obtain ⟨-, ⟨hout, -⟩, hothers⟩ := h
  by_cases hk : k = l
  · simp [State.isVoting, hk, hout]
  · rcases hothers k hk with ⟨hp, -⟩ | ⟨hs, hu, -⟩
    · simp [State.isVoting, hk, hp]
    · simp [State.isVoting, hs, hu]

theorem State.LosesLane.votes_eq : u.votes = (s.voting.filter fun k => some k ≠ some l).length := by
  rw [State.votes, State.voting, State.voting, List.filter_filter]
  exact congrArg (fun p => (Lane.all.filter p).length) (funext h.isVoting_eq)

theorem State.LosesLane.calls_eq_zero (hc : ∀ k, (s.lane k).calls = 0) (k : Lane) : (u.lane k).calls = 0 := by
  by_cases hk : k = l
  · rw [hk, h.out.2]
  · rcases h.others k hk with ⟨-, hcalls⟩ | ⟨-, -, hcalls⟩
    · rw [hcalls, hc k]
    · exact hcalls

/-- A lane lost from a calm state that two lanes still hold brings no Safelight (R200, R373, R382). -/
theorem State.LosesLane.judge_eq (n : Nat) (hc : s.calm) (hh : s.heldWithout (some l)) : u.judge n = u := by
  obtain ⟨hcalls, hdies, -⟩ := hc
  refine State.judge_calm n (h.calls_eq_zero hcalls) (h.alike.bothDiesLost_eq.trans hdies) ?_
  rw [h.alike.alive_eq, h.alike.flt_eq, h.votes_eq]
  exact hh

theorem State.LosesLane.startRepeats (n : Nat) : s.LosesLane (u.startRepeats n) l where
  alike := h.alike.trans (u.alikeButReports_startRepeats n)
  out := by simpa using h.out
  others := by simpa using h.others

end

/-- A withdrawal is one whatever a report has written before it. -/
theorem State.losesLane_withdraw {s x : State} {l : Lane} (n : Nat) (ha : s.alikeButReports x)
    (hx : ∀ k, (x.lane k).phase = (s.lane k).phase ∧ (x.lane k).calls = (s.lane k).calls) (hl : (s.lane l).phase.live = true) :
    s.LosesLane (x.withdraw l n) l := by
  have hlive : (x.lane l).phase.live = true := by rw [(hx l).1, hl]
  obtain ⟨halike, hlane, hothers, -⟩ := State.withdraw_live n hlive
  refine ⟨ha.trans halike.butReports, by rw [hlane]; exact ⟨rfl, rfl⟩, fun k hk => ?_⟩
  rcases hothers k hk with hsame | ⟨hp, hlost⟩
  · exact .inl (by rw [hsame]; exact hx k)
  · exact .inr ⟨(hx k).1.symm.trans hp, hlost⟩

theorem State.withdraw_lane_self {s : State} {l : Lane} (n : Nat) (h : (s.lane l).phase.live = true) :
    (s.withdraw l n).lane l = stopLane n s.now (s.lane l) := (State.withdraw_live n h).2.1

theorem stopLane_cmdSwitches (n : Nat) (now : Time) (r : LaneRec) : (stopLane n now r).board.cmdSwitches = 0 := by
  simp [stopLane, Board.quench, Board.openCutoffs, Board.switchOff]

/-! A report at the baseline level, by level (R372, R377) -/

section
variable {s : State} {n : Nat} {l : Lane} {c : SrcClass} (det : List Byte) (hcls : classOf n = some c) (ho : ownLane n = true)
  (hl : (s.lane l).phase.live = true) (hb : s.baseline l n) (hc : s.calm)

/-- The bit of the source set in one lane, and its record made; nobody has reacted yet. -/
def State.struckBy (s : State) (n : Nat) (l : Lane) (c : SrcClass) (det : List Byte) : State :=
  ((s.noteFound n [l]).modLane l fun r => { r with bath := r.bath.struck n c.base }).record (faultRecord n c.base c [l] false det)

theorem State.struckBy_lane (k : Lane) : (s.struckBy n l c det).lane k =
    if k = l then { s.lane l with bath := (s.lane l).bath.struck n c.base } else s.lane k := by
  simp [State.struckBy, State.lane_modLane]

theorem State.alikeButReports_struckBy : s.alikeButReports (s.struckBy n l c det) :=
  ((s.alikeButReports_noteFound n [l]).trans (State.alikeBut_modLane ..).butReports).trans (State.alikeBut_record ..).butReports

theorem State.struckBy_phase_calls (k : Lane) : ((s.struckBy n l c det).lane k).phase = (s.lane k).phase ∧
    ((s.struckBy n l c det).lane k).calls = (s.lane k).calls := by
  rw [State.struckBy_lane]
  split
  next h => rw [h]; exact ⟨rfl, rfl⟩
  next => exact ⟨rfl, rfl⟩

include hcls ho hl hb hc

/-- Unless the level is that of a RINSE, which R378 may escalate, a report is recorded at its baseline level. -/
theorem State.report_eq_struckBy (h1 : c.base ≠ 1) : s.report n [l] det =
    (((s.struckBy n l c det).reactLane n c.base c.base l).startRepeats n).judge n := by
  rw [State.report_own det hcls ho hl hb hc.2.2]
  simp [h1, State.struckBy]

/-- Level 0 has no reaction: the report ends with its record. -/
theorem State.report_note (h0 : c.base = 0) (hh : s.heldWithout none) :
    s.report n [l] det = (s.struckBy n l c det).startRepeats n := by
  have hreact : (s.struckBy n l c det).reactLane n c.base c.base l = s.struckBy n l c det := by
    simp [State.reactLane, h0]
  rw [State.report_eq_struckBy det hcls ho hl hb hc (by rw [h0]; decide), hreact]
  have ha := (s.alikeButReports_struckBy (n := n) (l := l) (c := c) det).trans (State.alikeButReports_startRepeats _ n)
  refine State.judge_like n hc hh (fun k => ?_) (State.votes_of fun k => ?_) ha.dies_eq ha.v_eq ha.flt_eq
  · rw [State.startRepeats_lane, (State.struckBy_phase_calls det k).2, hc.1 k]
  · rw [State.startRepeats_lane, (State.struckBy_phase_calls det k).1]

/-- Level 2 withdraws the lane, and two lanes that go on keep the module out of Safelight. -/
theorem State.report_withdraws (h2 : c.base = 2) (hh : s.heldWithout (some l)) :
    s.report n [l] det = ((s.struckBy n l c det).withdraw l n).startRepeats n := by
  have hreact : (s.struckBy n l c det).reactLane n c.base c.base l = (s.struckBy n l c det).withdraw l n := by
    simp [State.reactLane, h2]
  rw [State.report_eq_struckBy det hcls ho hl hb hc (by rw [h2]; decide), hreact]
  exact ((State.losesLane_withdraw n (State.alikeButReports_struckBy det) (State.struckBy_phase_calls det) hl).startRepeats n).judge_eq
    n hc hh

end

/-! A report of a source that still holds its bit (R370, R185; log 129) -/

/-- The bit of a source stands in a lane's Stop Bath, unacknowledged and outside any reaction shadow (R370, R380). -/
def State.holdsBit (s : State) (l : Lane) (n : Nat) : Prop :=
  (s.lane l).bath.sticky.getLsbD n = true ∧ (s.lane l).bath.shadowed.getLsbD n = false ∧ (s.shadowMask l).getLsbD n = false

theorem StopBath.report_held {b : StopBath} {n : Nat} (c : SrcClass) (hs : b.sticky.getLsbD n = true)
    (hd : b.shadowed.getLsbD n = false) : b.report c n false = (b, none) := by
  simp [StopBath.report, hs, hd]

/-- The repeat counted and noted for a Test Strip run: no lane is touched. -/
def State.counted (s : State) (n : Nat) (l : Lane) : State := (s.noteFound n [l]).repeatReport n [l]

@[simp] theorem State.counted_lane (s : State) (n : Nat) (l k : Lane) : (s.counted n l).lane k = s.lane k := by
  simp [State.counted]

theorem State.alikeButReports_counted (s : State) (n : Nat) (l : Lane) : s.alikeButReports (s.counted n l) :=
  (s.alikeButReports_noteFound n [l]).trans (State.alikeButReports_repeatReport ..)

theorem State.withdrawAgain_own {s : State} {n : Nat} {l : Lane} (ho : ownLane n = true) (hc : (s.lane l).calls = 0) :
    s.withdrawAgain n [l] = s.withdraw l n := by
  simp [State.withdrawAgain, channelVictim_own ho, ho, hc]

section
variable {s : State} {n : Nat} {l : Lane} {c : SrcClass} (det : List Byte) (hcls : classOf n = some c) (ho : ownLane n = true)
  (hl : (s.lane l).phase.live = true) (hb : s.holdsBit l n) (hi : s.flt.injection = none)
include hcls ho hl hb hi

theorem State.report_held : s.report n [l] det =
    if c.base = 2 then ((s.counted n l).withdrawAgain n [l]).judge n else s.counted n l := by
  obtain ⟨hs, hd, hm⟩ := hb
  have hinj : s.injected n [l] = false := by simp [State.injected, hi]
  have hmask : (s.noteFound n [l]).shadowMask l = s.shadowMask l := rfl
  have hsame : ((s.noteFound n [l]).modLane l fun r => r) = s.noteFound n [l] := State.modLane_same rfl
  unfold State.report
  rw [hcls]
  simp only [ho, if_true, List.filter_cons, hl, List.filter_nil, hinj, State.markAside_own ho, List.foldl_cons,
    List.foldl_nil, hmask, hm, Bool.false_eq_true, if_false, List.map_cons, List.map_nil, hsame, State.noteFound_lane,
    StopBath.report_held c hs hd]
  rw [State.modLane_same (by rw [State.noteFound_lane])]
  by_cases h2 : c.base = 2 <;> simp [h2, State.counted]

theorem State.report_held_ne_two (h2 : c.base ≠ 2) : s.report n [l] det = s.counted n l := by
  rw [State.report_held det hcls ho hl hb hi, if_neg h2]

/-- A source of level 2 withdraws its lane all the same (R185). -/
theorem State.report_held_two (h2 : c.base = 2) (hc : s.calm) (hh : s.heldWithout (some l)) :
    s.report n [l] det = (s.counted n l).withdraw l n := by
  have hcalls : ((s.counted n l).lane l).calls = 0 := by rw [State.counted_lane, hc.1 l]
  rw [State.report_held det hcls ho hl hb hi, if_pos h2, State.withdrawAgain_own ho hcalls]
  exact (State.losesLane_withdraw n (s.alikeButReports_counted n l) (fun k => by simp) hl).judge_eq n hc hh

end

/-! The state in which one lane's source reports -/

/-- The source stops reporting in the other lanes at the instant of the command. -/
def State.seenAt (s : State) (t : Time) (n : Nat) (l : Lane) : State := (s.begin t).seenIn n (laneMask [l])

section
variable {s : State} (t : Time) (n : Nat) (l : Lane)

@[simp] theorem State.seenAt_lane_self : (s.seenAt t n l).lane l = s.lane l := by simp [State.seenAt]

theorem State.seenAt_lane_ne {k : Lane} (h : k ≠ l) : (s.seenAt t n l).lane k =
    { s.lane k with bath.reporting := (s.lane k).bath.reporting &&& ~~~srcBit n } := by
  rw [State.seenAt, State.seenIn_lane_ne _ n l h, State.lane_begin]

theorem State.seenAt_phase_calls (k : Lane) :
    ((s.seenAt t n l).lane k).phase = (s.lane k).phase ∧ ((s.seenAt t n l).lane k).calls = (s.lane k).calls := by
  by_cases hk : k = l
  · rw [hk, State.seenAt_lane_self]
    exact ⟨rfl, rfl⟩
  · rw [State.seenAt_lane_ne t n l hk]
    exact ⟨rfl, rfl⟩

theorem State.alikeButReports_seenAt : s.alikeButReports (s.seenAt t n l) := rfl

theorem State.voting_seenAt : (s.seenAt t n l).voting = s.voting := by
  have hv : (s.seenAt t n l).isVoting = s.isVoting := funext fun k => by
    rw [State.isVoting, State.isVoting, (State.seenAt_phase_calls t n l k).1]
  rw [State.voting, State.voting, hv]

variable {t n l}

theorem State.calm.seenAt (h : s.calm) : (s.seenAt t n l).calm :=
  ⟨fun k => (State.seenAt_phase_calls t n l k).2.trans (h.1 k), h.2⟩

theorem State.heldWithout.seenAt {gone : Option Lane} (h : s.heldWithout gone) : (s.seenAt t n l).heldWithout gone := by
  rw [State.heldWithout, State.voting_seenAt]
  exact h

theorem State.baseline.seenAt (h : s.baseline l n) : (s.seenAt t n l).baseline l n := by
  rw [State.baseline, State.seenAt_lane_self]
  exact h

theorem State.holdsBit.seenAt (h : s.holdsBit l n) : (s.seenAt t n l).holdsBit l n := by
  rw [State.holdsBit, State.seenAt_lane_self]
  exact h

end

/-- Settles O13, by level: a report at the baseline level, one of a bit that stands already, and a source that no lane sees. -/
theorem occurrenceInLane : Obligations.OccurrenceInLane := by
  intro s t n l code cls ho h22 h23 hl
  have hlast : lasting n.val = false := by simp [lasting, h22, h23]
  obtain ⟨det, hocc⟩ := State.occurrence_seen (s := s.begin t) (l := l) ho hlast code (by simpa using hl)
  have hexec : ∀ u, (s.seenAt t n.val l).report n.val [l] det = u →
      exec (.stopBathOccurrence t n (laneMask [l]) code) s = .next u := fun u hu => congrArg Host.Outcome.next (hocc.trans hu)
  have hlive : ((s.seenAt t n.val l).lane l).phase.live = true := by simpa using hl
  refine ⟨?note, ?withdrawal, ?again, ?unseen⟩
  case note =>
    intro hr hb hc hh
    obtain ⟨c, hcls, -, h0⟩ := exists_class hr
    refine ⟨_, hexec _ (State.report_note det hcls ho hlive hb.seenAt hc.seenAt h0 hh.seenAt), ?_⟩
    simp only [State.startRepeats_lane, State.struckBy_lane, State.seenAt_lane_self, if_true]
    refine ⟨trivial, rfl, fun k hk => ?_⟩
    rw [if_neg hk, State.seenAt_lane_ne t n.val l hk]
  case withdrawal =>
    intro hr hb hc hh
    obtain ⟨c, hcls, -, h2⟩ := exists_class hr
    have hstruck : (((s.seenAt t n.val l).struckBy n.val l c det).lane l).phase.live = true := by
      rw [(State.struckBy_phase_calls det l).1, hlive]
    refine ⟨_, hexec _ (State.report_withdraws det hcls ho hlive hb.seenAt hc.seenAt h2 hh.seenAt), ?_⟩
    simp only [State.startRepeats_lane, State.withdraw_lane_self n.val hstruck, State.struckBy_lane, State.seenAt_lane_self,
      if_true]
    exact ⟨rfl, rfl, rfl, stopLane_cmdSwitches ..⟩
  case again =>
    intro base hr hsticky hshadowed hmask
    obtain ⟨c, hcls, -, rfl⟩ := exists_class hr
    have hbit : s.holdsBit l n.val := ⟨hsticky, hshadowed, hmask⟩
    have ha := (State.alikeButReports_seenAt (s := s) t n.val l).trans (State.alikeButReports_counted _ n.val l)
    refine ⟨fun hne hi => ?repeated, fun h2 hc hh => ?withdrawnAgain⟩
    case repeated =>
      exact ⟨_, hexec _ (State.report_held_ne_two det hcls ho hlive hbit.seenAt hi hne), by simp, ha.cyc_eq, ha.net_eq,
        ha.flt_eq, ha.dies_eq⟩
    case withdrawnAgain =>
      have hcounted : (((s.seenAt t n.val l).counted n.val l).lane l).phase.live = true := by simpa using hl
      have hw := ha.trans (State.withdraw_live n.val hcounted).1.butReports
      refine ⟨_, hexec _ (State.report_held_two det hcls ho hlive hbit.seenAt hc.2.2 h2 hc.seenAt hh.seenAt), ?_⟩
      simp only [State.withdraw_lane_self n.val hcounted, State.counted_lane, State.seenAt_lane_self]
      exact ⟨rfl, rfl, stopLane_cmdSwitches .., rfl, hw.cyc_eq, hw.flt_eq⟩
  case unseen =>
    exact ⟨_, congrArg Host.Outcome.next (State.occurrence_unseen (s := s.begin t) ho hlast code), rfl⟩

end Sys2Proof.Machine
end
